-- ==== Sys2Proof/Word.lean ====
section
/-! DEFINITION. The words the 7316 handles: bytes, multi-byte fields, lane and slot numbers, and the
small wire fields a store request carries. -/

namespace Sys2Proof

/-- One byte on a line or in a frame. -/
abbrev Byte := BitVec 8

/-- A two-byte field (R183). -/
abbrev Half := BitVec 16

/-- A four-byte field (R183). -/
abbrev Word := BitVec 32

/-- A cipher block, or a 16-byte key, byte 0 in the top eight bits (R116 to R120). -/
abbrev Block := BitVec 128

/-- One card number digit place, as coded in the reader CARD body (R137, R185). -/
abbrev Nibble := BitVec 4

/-- Six approval code characters, the first in the top eight bits (R183). -/
abbrev Code6 := BitVec 48

/-- Lane 0 to lane 15 (R121). -/
abbrev LaneId := Fin 16

/-- A slot of the record table, 0 to 2047 (R1). -/
abbrev Slot := Fin 2048

/-- A reuse tag, 0 to 31, counted modulo 32 (R2). -/
abbrev Tag := Fin 32

/-- A handle: reuse tag × 2048 + slot (R3). -/
abbrev Handle := BitVec 16

/-- A one-byte setting with its presence indication (R134, R183). -/
structure OptByte where
  present : Byte
  value : Byte
  deriving DecidableEq, Repr

/-- A four-byte limit with its presence indication (R69, R183). -/
structure OptWord where
  present : Byte
  value : Word
  deriving DecidableEq, Repr

/-- The two case lines (R163). -/
inductive CaseLine where
  | caseA
  | caseB
  deriving DecidableEq, Repr

/-- The level of a case line, or of the case (R163). -/
inductive CaseLevel where
  | closed
  | opened
  deriving DecidableEq, Repr

end Sys2Proof
end

