-- ==== Sys2Proof/Syntax.lean ====
section
/-! DEFINITION. The commands of the 7316: one constructor for each row of spec/opcode_table.json.
A store request carries the tag of its frame and its body fields at their wire widths (R183, R184);
an event carries what it brings. -/

namespace Sys2Proof

/-- The commands, in the order of spec/opcode_table.json. -/
inductive Instr where
  /-- ARM (R27): lane, amount, till reference. -/
  | arm (tag lane : Byte) (amount till : Word)
  /-- ABANDON (R39). -/
  | abandon (tag : Byte) (handle : Handle)
  /-- TAKE (R35). -/
  | take (tag : Byte) (handle : Handle)
  /-- PEEK (R36). -/
  | peek (tag : Byte) (handle : Handle)
  /-- SETTLE (R41): result, approval code, decline code. -/
  | settle (tag : Byte) (handle : Handle) (result : Byte) (approval : Code6) (decline : Byte)
  /-- CONFIRM (R63): presence indication and new approval code. -/
  | confirm (tag : Byte) (handle : Handle) (present : Byte) (code : Code6)
  /-- REJECT (R64). -/
  | reject (tag : Byte) (handle : Handle)
  /-- ADJUST (R75): new amount. -/
  | adjust (tag : Byte) (handle : Handle) (amount : Word)
  /-- VOID (R77). -/
  | void (tag : Byte) (handle : Handle)
  /-- COLLECT (R85): follow-up index. -/
  | collect (tag : Byte) (handle : Handle) (index : Byte)
  /-- RETIRE (R21). -/
  | retire (tag : Byte) (handle : Handle)
  /-- READ RECORD (R22). -/
  | readRecord (tag : Byte) (handle : Handle)
  /-- FIND (R23): form, lane, payment number, till reference. -/
  | find (tag form lane : Byte) (payment : Half) (till : Word)
  /-- LANE LIST (R24): lane, start index. -/
  | laneList (tag lane : Byte) (start : Half)
  /-- TABLE STATUS (R25). -/
  | tableStatus (tag : Byte)
  /-- EXPOSURE READ (R71). -/
  | exposureRead (tag : Byte)
  /-- SET LIMITS (R69): the eight quantities of its table, each with its presence indication. -/
  | setLimits (tag : Byte) (fields : Vector OptWord 8)
  /-- SET TIMERS (R50): present, outcome and delivery limits, deferred life, the two actions. -/
  | setTimers (tag : Byte) (present outcome : Half) (delivery life outcomeAction deferredAction : Byte)
  /-- KEY LOAD (R90): generation number, key block, check. -/
  | keyLoad (tag : Byte) (generation : Half) (block : Block) (check : BitVec 64)
  /-- KEY ROLL (R94). -/
  | keyRoll (tag : Byte)
  /-- KEY DROP (R96): generation number. -/
  | keyDrop (tag : Byte) (generation : Half)
  /-- KEY STATUS (R104): presence indication and lane. -/
  | keyStatus (tag present lane : Byte)
  /-- LANE HOLD (R133). -/
  | laneHold (tag lane : Byte)
  /-- LANE OPEN (R133). -/
  | laneOpen (tag lane : Byte)
  /-- LANE SETUP (R134): the sixteen settings in the order of R134, the per-counter ones for LINE,
  then CHECK, then ORDER (R184). -/
  | laneSetup (tag lane : Byte) (settings : Vector OptByte 16)
  /-- LANE STATUS (R135). -/
  | laneStatus (tag lane : Byte)
  /-- LANE CLEAR (R159). -/
  | laneClear (tag lane : Byte)
  /-- NEXT ATTENTION (R175). -/
  | nextAttention (tag : Byte)
  /-- ATTENTION MASK (R176): class enables and lane mask. -/
  | attentionMask (tag classes : Byte) (lanes : Half)
  /-- CASE READ (R164). -/
  | caseRead (tag : Byte)
  /-- START READ (R182). -/
  | startRead (tag : Byte)
  /-- COMMISSION (R179): the fields of R178 in order. -/
  | commission (tag : Byte) (chain store : Word) (currency : Half) (exponent : Byte)
      (transportKey : Block) (fitted erasure level : Byte)
  /-- RESTART (R181). -/
  | restart (tag : Byte)
  /-- A request transaction whose frame the port refuses (R170): the bytes on SDI, first byte first. -/
  | requestFrameRefused (bytes : List Byte)
  /-- A request transaction that ends while the port is SERVING or ANSWERING (R171): the bytes on SDI. -/
  | requestDiscarded (bytes : List Byte)
  /-- A read transaction (R172): the count of bytes clocked after the read byte. -/
  | readTransaction (count : Nat)
  /-- The one-second tick (R49). -/
  | storeTick
  /-- The present timer of the record in a slot expires (R51). -/
  | presentTimerExpiry (slot : Slot)
  /-- The outcome timer of the record in a slot expires (R52, R53). -/
  | outcomeTimerExpiry (slot : Slot)
  /-- The delivery timer of the record in a slot expires (R47). -/
  | deliveryTimerExpiry (slot : Slot)
  /-- The deferred-life timer of the record in a slot expires (R65, R66). -/
  | deferredLifeExpiry (slot : Slot)
  /-- The capture job in service completes (R34). -/
  | captureCompletion
  /-- The follow-up job in service completes (R83). -/
  | followUpCompletion
  /-- The key-unwrap job in service completes (R92). -/
  | keyUnwrapCompletion
  /-- A character completes on a lane's receive line (R123); stopAtMark gives its stop bit. -/
  | lineCharacter (lane : LaneId) (byte : Byte) (stopAtMark : Bool)
  /-- The receive line has been at space for 2 character times (R124). -/
  | lineBreak (lane : LaneId)
  /-- More than 10 character times have passed on the receive line (R127). -/
  | gap (lane : LaneId)
  /-- The frame assembler takes one byte or gap marker (R126). -/
  | assemblerTakeByte (lane : LaneId)
  /-- A HELLO is taken from the lane's slot (R143, R144). -/
  | readerHello (lane : LaneId)
  /-- A CARD is taken from the lane's slot (R146). -/
  | readerCard (lane : LaneId)
  /-- A CARD left waiting under supply LOW is taken (R142). -/
  | waitingCardDispatch (lane : LaneId)
  /-- A CANCEL is taken from the lane's slot (R149). -/
  | readerCancel (lane : LaneId)
  /-- An ACK is taken from the lane's slot (R150). -/
  | readerAck (lane : LaneId)
  /-- A badly formed frame is taken from the lane's slot (R145). -/
  | badlyFormedFrame (lane : LaneId)
  /-- The head part frame moves into the transmit FIFO (R130). -/
  | frameMoveToTransmitFifo (lane : LaneId)
  /-- The transmitter begins the oldest byte of the transmit FIFO (R131). -/
  | transmitCharacter (lane : LaneId)
  /-- The reader asserts or releases hold-in (R131). -/
  | holdInChange (lane : LaneId) (asserted : Bool)
  /-- The supply falls below the selected level, to a voltage in millivolts (R160). -/
  | supplyBelowLevel (millivolts : Nat)
  /-- The supply rises above the level plus 0.05 V (R160). -/
  | supplyAboveRecoveryLevel (millivolts : Nat)
  /-- The supply falls to or below the level plus 0.05 V (R160). -/
  | supplyBelowRecoveryLevel (millivolts : Nat)
  /-- The recovery timer expires (R160). -/
  | recoveryTimerExpiry
  /-- A supply change reaches the wrap engine (R114, R162). -/
  | engineSupplyChange
  /-- A case line takes a level (R163). -/
  | caseLineChange (line : CaseLine) (level : CaseLevel)
  /-- The supply is applied, or returns after a fall below 2.70 V (R180). -/
  | powerApplied
  /-- The supply has settled at a voltage in millivolts (R180). -/
  | supplySettled (millivolts : Nat)
  /-- RESET is asserted (R180). -/
  | resetAsserted
  /-- RESET is released (R180). -/
  | resetReleased
  /-- The receive line returns to mark after a space (R123, R124). -/
  | lineReturnToMark (lane : LaneId)
  deriving DecidableEq, Repr

end Sys2Proof
end

