-- ==== Sys2Proof/Decode.lean ====
section
/-! DEFINITION. The command a table word spells. No row of spec/opcode_table.json gives bits, so no word
spells a command; the byte layout of the store request frames (R184) is read in
Machine/RequestFrames.lean. -/

namespace Sys2Proof

/-- The command that the nbits-bit word w spells by the bits of spec/opcode_table.json: none, since no
row of the table gives bits. -/
def decodeTableWord (_nbits _w : Nat) : Option Instr :=
  none

end Sys2Proof
end

