-- ==== Sys2Proof/Config.lean ====
section
/-! DEFINITION. The fixed quantities of the part: capacities, ranges, defaults and byte values. The
spec leaves no value free, so no constant here is opaque. -/

namespace Sys2Proof.Config

/-- Highest amount of a payment, in minor units (R12, R27). -/
def amountMax : Nat := 99999999

/-- Highest ceiling and highest deferral total (R59, R69). -/
def totalMax : Nat := 999999999

/-- Receive FIFO capacity in bytes (R125). -/
def receiveCapacity : Nat := 128

/-- Transmit FIFO capacity in bytes (R130). -/
def transmitCapacity : Nat := 64

/-- Places of a lane's outbound list (R129). -/
def outboundCapacity : Nat := 4

/-- Longest lane frame body (R126, R185). -/
def laneBodyMax : Nat := 240

/-- Longest store request body (R170, R184). -/
def requestBodyMax : Nat := 512

/-- Capacity of the requested share of the job queue (R79, R108). -/
def requestedShare : Nat := 15

/-- Capacity of the automatic share of the job queue (R81, R108). -/
def automaticShare : Nat := 8

/-- The value of a spent lane counter, and the limit of a follow-up's take (R73, R88). -/
def counterSpent : Nat := 65536

/-- Handles in one LANE LIST response (R24). -/
def lanePage : Nat := 64

/-- A fall below this voltage, in millivolts, loses the volatile state (R160). -/
def powerHold : Nat := 2700

/-- The recovery margin above the supply level, in millivolts (R160). -/
def recoveryMargin : Nat := 50

/-- Seconds in an hour of the deferred life (R50). -/
def hourSeconds : Nat := 3600

/-- Lane start byte (R185). -/
def laneStartByte : Byte := 0x7E

/-- Request start byte (R184). -/
def requestStartByte : Byte := 0xA5

/-- Read byte (R184). -/
def readByte : Byte := 0x5A

/-- Idle byte on SDO (R184). -/
def idleByte : Byte := 0xFF

/-- Response start byte (R184). -/
def responseStartByte : Byte := 0xC3

/-- The kind of KEY LOAD, the one request held in service (R91, Table 12-1). -/
def keyLoadKind : Byte := 19

/-- The kind of RESTART (R181, Table 12-1). -/
def restartKind : Byte := 33

end Sys2Proof.Config
end

