-- ==== Sys2Proof/Machine/Blocks.lean ====
section
/-! DEFINITION. The types of the blocks of the part: what each block of the block overview
(00_scope.md) holds. State.lean puts them together. -/

namespace Sys2Proof.Machine

/-! ## The record table (Chapters 1 to 4) -/

/-- The twelve record states (R12). -/
inductive PaymentState where
  | armed | capturing | wrapped | released | approved | declined
  | deferred | rejected | voided | lapsed | cancelled | failed
  deriving DecidableEq, Repr

/-- Why a record ended without completing (R13). -/
inductive EndReason where
  | reader | abandoned | presentTimeout | laneLost | laneHeld | keysLost | keySpent | badCard
  deriving DecidableEq, Repr

/-- The generation and counter a capture was sealed under (R14). -/
structure Binding where
  generation : Nat
  counter : Nat
  deriving DecidableEq, Repr

/-- Entry methods (R15, R117). -/
inductive EntryMethod where
  | tap | dip | swipe | keyed
  deriving DecidableEq, Repr

/-- Verification methods (R15, R117). -/
inductive VerifyMethod where
  | none | signature | chipPin | device
  deriving DecidableEq, Repr

/-- The card summary (R15, R148). -/
structure CardSummary where
  entry : EntryMethod
  issuerDigits : List Nibble
  lastFour : List Nibble
  verify : VerifyMethod
  deriving DecidableEq, Repr

/-- The card block: the clear card content held for the wrap engine (R15, R148). -/
structure CardBlock where
  digits : List Nibble
  year : Byte
  month : Byte
  entry : EntryMethod
  verify : VerifyMethod
  chip : List Byte
  deriving DecidableEq, Repr

/-- The result posted with SETTLE (R16, R41). -/
inductive SettleResult where
  | approve | decline | defer
  deriving DecidableEq, Repr

/-- The stored outcome (R16). -/
structure PostedOutcome where
  result : SettleResult
  approval : Option Code6
  decline : Option Byte
  deriving DecidableEq, Repr

/-- Delivery values (R17). -/
inductive DeliveryValue where
  | none | queued | sent | acked | unconfirmed
  deriving DecidableEq, Repr

/-- The two kinds of end frame (R17). -/
inductive EndFrameKind where
  | outcome | close
  deriving DecidableEq, Repr

/-- Delivery: value, frame kind once the value has left NONE, sequence from SENT (R17). -/
structure Delivery where
  value : DeliveryValue
  kind : Option EndFrameKind
  sequence : Option Byte
  deriving DecidableEq, Repr

/-- Follow-up kinds (R18). -/
inductive FollowUpKind where
  | adjust | reversal
  deriving DecidableEq, Repr

/-- Follow-up statuses (R18). -/
inductive FollowUpStatus where
  | waiting | wrapping | ready | collected | failed
  deriving DecidableEq, Repr

/-- One follow-up entry (R18). -/
structure FollowUp where
  kind : FollowUpKind
  amount : Nat
  counter : Option Nat
  status : FollowUpStatus
  payload : Option (List Byte)
  deriving DecidableEq, Repr

/-- What a timer does at its expiry (R50). -/
inductive TimerAction where
  | notify | lapse
  deriving DecidableEq, Repr

/-- A state timer: remaining seconds and, for the outcome and deferred-life timers, the action it
carries (R19, R50). At 0 it has expired, and its expiry has not yet been taken at the record (R49). -/
structure StateTimer where
  remaining : Nat
  action : Option TimerAction
  deriving DecidableEq, Repr

/-- Why a cancel is pending (R19, R38). -/
inductive CancelReason where
  | reader | abandoned
  deriving DecidableEq, Repr

/-- A payment record (Table 1-1); its handle is the slot's (R3). -/
structure Record where
  lane : LaneId
  payment : Nat
  till : Word
  state : PaymentState
  original : Nat
  current : Nat
  endReason : Option EndReason
  binding : Option Binding
  bound : Bool
  summary : Option CardSummary
  card : Option CardBlock
  payload : Option (List Byte)
  outcome : Option PostedOutcome
  delivery : Delivery
  followUps : List FollowUp
  stateTimer : Option StateTimer
  deliveryTimer : Option Nat
  cancelPending : Option CancelReason
  late : Bool
  ended : Bool
  deriving DecidableEq, Repr

/-- A slot: its reuse tag and its record, none when free (R1, R2). -/
structure SlotCell where
  tag : Tag
  record : Option Record
  deriving DecidableEq, Repr

/-- What the record table keeps for one lane: lane list (R6), engaged handle (R10), next payment number
(R11), expired delivery sequence (R47), deferral total and deferred count (R59). -/
structure LaneBook where
  list : List Slot
  engaged : Option Handle
  nextPayment : Nat
  expired : Option Byte
  total : Nat
  count : Nat
  deriving DecidableEq, Repr

/-- The record table: slots (R1), free list (R4), the lanes' books, the low-mark indicator (R9), the
store deferral total (R59) and the set of WAITING reversals in slot order (R81). -/
structure RecordTable where
  slots : Vector SlotCell 2048
  free : List Slot
  books : Vector LaneBook 16
  lowMarkArmed : Bool
  storeTotal : Nat
  waiting : List Slot
  deriving DecidableEq, Repr

/-- The eight limits (R69). -/
structure Limits where
  floor : Nat
  laneCeiling : Nat
  storeCeiling : Nat
  adjustCap : Nat
  reserve : Nat
  warning : Nat
  lowMark : Nat
  share : Nat
  deriving DecidableEq, Repr

/-- The record timer settings (R50). -/
structure TimerSettings where
  present : Nat
  outcome : Nat
  delivery : Nat
  life : Nat
  outcomeAction : TimerAction
  deferredAction : TimerAction
  deriving DecidableEq, Repr

/-! ## The key manager (Chapter 5) -/

/-- Key table entry states (R88, R89). -/
inductive EntryState where
  | empty | pending | active | draining
  deriving DecidableEq, Repr

/-- What an entry that is not EMPTY holds (R88). -/
structure KeyMaterial where
  generation : Nat
  key : Block
  checkValue : BitVec 24
  deriving DecidableEq, Repr

/-- A key table entry (R88). -/
structure KeyEntry where
  state : EntryState
  material : Option KeyMaterial
  bindings : Nat
  counters : Vector Nat 16
  deriving DecidableEq, Repr

/-- The key manager: four entries (R88) and the highest generation number (R93). -/
structure KeyManager where
  entries : Vector KeyEntry 4
  highest : Nat
  deriving DecidableEq, Repr

/-! ## The wrap engine (Chapter 6) -/

/-- Who placed a follow-up job: ADJUST and VOID, or a lapse (R108). -/
inductive FollowUpShare where
  | requested | automatic
  deriving DecidableEq, Repr

/-- A job of the wrap engine with the fields of R107; the kind and the share are the constructor's. -/
inductive Job where
  | capture (handle : Handle) (lane : LaneId) (generation counter : Nat)
  | followUp (kind : FollowUpKind) (share : FollowUpShare) (handle : Handle) (index : Nat)
      (lane : LaneId) (generation counter : Nat)
  | unwrap (generation : Nat) (block : Block) (check : BitVec 64)
  deriving DecidableEq, Repr

/-- The copies a CAPTURE, ADJUST or REVERSAL job works on (R111). -/
structure WrapInputs where
  card : CardBlock
  payment : Nat
  captureCounter : Nat
  amount : Nat
  chain : Word
  store : Word
  currency : Nat
  key : Block
  deriving DecidableEq, Repr

/-- What a job gathered at its entry into service (R111). -/
inductive JobInputs where
  | wrap (inputs : WrapInputs)
  | unwrap (transportKey : Block)
  deriving DecidableEq, Repr

/-- The service states (R110); SERVING holds the job and its copies. -/
inductive Service where
  | idle
  | held
  | serving (job : Job) (inputs : JobInputs)
  deriving DecidableEq, Repr

/-- The wrap engine: job queue, head first, and service (R107). -/
structure Engine where
  queue : List Job
  service : Service
  deriving DecidableEq, Repr

/-! ## Lanes, dialogue and supervisor (Chapters 7 to 9) -/

/-- Lane states (R121). -/
inductive LaneMode where
  | off | down | ready | held | faulted
  deriving DecidableEq, Repr

/-- Why a lane leaves READY (R122). -/
inductive LeaveCause where
  | lost | held
  deriving DecidableEq, Repr

/-- Line speeds (R123). -/
inductive Speed where
  | b9600 | b19200 | b38400 | b57600 | b115200 | b230400
  deriving DecidableEq, Repr

/-- Error counter kinds (R152). -/
inductive ErrorKind where
  | line | check | order
  deriving DecidableEq, Repr

/-- Terminal choices (R154). -/
inductive TerminalChoice where
  | hold | wrap
  deriving DecidableEq, Repr

/-- A counter's settings (R153 to R155). -/
structure CounterSettings where
  enable : Bool
  terminal : TerminalChoice
  attend : Bool
  fault : Bool
  deriving DecidableEq, Repr

/-- A lane's line and supervisor settings (R134). -/
structure LaneSettings where
  speed : Speed
  high : Nat
  low : Nat
  threshold : Nat
  line : CounterSettings
  check : CounterSettings
  order : CounterSettings
  deriving DecidableEq, Repr

/-- An error counter and its terminal flag (R152). -/
structure ErrorCounter where
  value : Nat
  terminal : Bool
  deriving DecidableEq, Repr

/-- The three error counters of a lane (R152). -/
structure ErrorCounters where
  line : ErrorCounter
  check : ErrorCounter
  order : ErrorCounter
  deriving DecidableEq, Repr

/-- The line receiver: at mark, a stop bit seen at space, or in a break (R123, R124). -/
inductive RxLine where
  | mark | stopAtSpace | inBreak
  deriving DecidableEq, Repr

/-- An item of the receive FIFO: a byte or a gap marker (R125, R127). -/
inductive RxItem where
  | byte (b : Byte)
  | gap
  deriving DecidableEq, Repr

/-- Frame assembler states (R126). -/
inductive AssemblerState where
  | hunt | length | collect | stalled
  deriving DecidableEq, Repr

/-- A good lane frame, without its start byte and check (R126, R185). -/
structure LaneFrame where
  kind : Byte
  sequence : Byte
  body : List Byte
  deriving DecidableEq, Repr

/-- CLOSE reasons (R44). -/
inductive CloseReason where
  | reader | abandoned | timeout | notCompleted | tryAgain
  deriving DecidableEq, Repr

/-- REFUSE reasons (R139). -/
inductive RefuseReason where
  | notGreeted | badFrame | outOfSequence | notArmed | wrongPayment | badCard | tooLate
  deriving DecidableEq, Repr

/-- A part frame with the body fixed when it is offered (R138). -/
inductive PartFrame where
  | welcome (store : Word) (lane : LaneId)
  | present (payment amount exponent : Nat)
  | taken (payment : Nat)
  | outcome (payment : Nat) (approval : Option Code6) (amount : Nat)
  | close (payment : Nat) (reason : CloseReason)
  | refuse (reason : RefuseReason) (sequence : Byte)
  deriving DecidableEq, Repr

/-- What the dialogue unit keeps while the lane is READY (R136). -/
structure ReaderSession where
  expected : Byte
  identity : BitVec 64
  firmware : Byte
  deriving DecidableEq, Repr

/-- One lane: lane interface (Chapter 7), dialogue items (R136) and error counters (R152). The frame
buffer of R126 is `frame`, the partial frame, and `replay`, the bytes of an abandoned frame still to be
hunted through before the FIFO (R127). -/
structure Lane where
  mode : LaneMode
  settings : LaneSettings
  rxLine : RxLine
  rxFifo : List RxItem
  fillHold : Bool
  assembler : AssemblerState
  frame : List Byte
  replay : List Byte
  slot : Option LaneFrame
  outbound : List PartFrame
  txFifo : List Byte
  txLine : Option Byte
  holdIn : Bool
  reader : Option ReaderSession
  nextPart : Byte
  errors : ErrorCounters
  deriving DecidableEq, Repr

/-! ## Supply, case, attention, commissioning, store port (Chapters 10 and 11) -/

/-- Supply states (R160). -/
inductive SupplyState where
  | normal | low
  deriving DecidableEq, Repr

/-- Supply levels (R178). -/
inductive SupplyLevel where
  | v290 | v300 | v310 | v320
  deriving DecidableEq, Repr

/-- The supply monitor: the voltage it compares, its state and its recovery timer (R160). -/
structure SupplyMonitor where
  millivolts : Nat
  state : SupplyState
  recovering : Bool
  deriving DecidableEq, Repr

/-- The case monitor (R163). -/
structure CaseMonitor where
  lineA : CaseLevel
  lineB : CaseLevel
  registered : CaseLevel
  latch : Option CaseLevel
  erased : Bool
  deriving DecidableEq, Repr

/-- The commissioning record (R178). -/
structure Commissioning where
  chain : Word
  store : Word
  currency : Nat
  exponent : Nat
  transportKey : Block
  fitted : Nat
  eraseOnOpen : Bool
  level : SupplyLevel
  deriving DecidableEq, Repr

/-- The SUPPLY cause (R161). -/
structure SupplyCause where
  state : SupplyState
  count : Nat
  deriving DecidableEq, Repr

/-- The LANE causes of one lane (R173). -/
structure LaneCauses where
  up : Bool
  down : Bool
  faulted : Option ErrorKind
  thresholdLine : Bool
  thresholdCheck : Bool
  thresholdOrder : Bool
  deriving DecidableEq, Repr

/-- The attention unit: latched causes that live nowhere else, and the two masks (R173, R176). The sets
are kept in their reporting order (R174). -/
structure AttentionUnit where
  supply : Option SupplyCause
  drained : List Nat
  warnings : List (LaneId × Nat)
  lanes : Vector LaneCauses 16
  table : Bool
  classes : Byte
  laneMask : Half
  deriving DecidableEq, Repr

/-- Status codes (Table 11-1). -/
inductive Status where
  | done | malformed | unknownRequest | notCommissioned | locked | range | staleHandle | wrongState
  | notFound | laneNotReady | laneEngaged | laneShare | tableFull | supplyLow | caseOpen | keyMissing
  | keySpent | keysLost | exposure | tooLate | busyRecord | engineFull | genOrder | pendingExists
  | keyTableFull | keyCheck | noPending
  deriving DecidableEq, Repr

/-- The flags of a response (R172). -/
structure ResponseFlags where
  discarded : Bool
  attention : Bool
  startUnread : Bool
  deriving DecidableEq, Repr

/-- A store response, less its start byte, lengths and check (R172). -/
structure Response where
  kind : Byte
  tag : Byte
  status : Status
  flags : ResponseFlags
  body : List Byte
  deriving DecidableEq, Repr

/-- Store port states (R171); SERVING keeps the kind and tag of the request in service. -/
inductive PortState where
  | idle
  | serving (kind tag : Byte)
  | answering (response : Response)
  deriving DecidableEq, Repr

/-- The store port: state, discarded-request mark (R171), and what SDO carried in the last read
transaction, after the read byte (R172). -/
structure StorePort where
  state : PortState
  discarded : Bool
  sdo : List Byte
  deriving DecidableEq, Repr

/-- Start causes (R180). -/
inductive StartCause where
  | power | pin | request
  deriving DecidableEq, Repr

/-- Whether the part runs, is in a start (R180), or has lost its supply (R160). -/
inductive Phase where
  | running
  | starting (cause : StartCause)
  | unpowered
  deriving DecidableEq, Repr

end Sys2Proof.Machine
end

