-- ==== Sys2Proof/Machine/Bytes.lean ====
section
/-! DEFINITION. Byte order: every value of more than one byte stands most significant byte first
(00_scope.md, Numbers and quantities; Chapter 12). -/

namespace Sys2Proof.Machine

/-- The last n bytes of a number, most significant first. -/
def bytesOf : Nat → Nat → List Byte
  | 0, _ => []
  | n + 1, x => BitVec.ofNat 8 (x / 256 ^ n) :: bytesOf n x

/-- The number whose bytes are given, most significant first. -/
def numberOf (bytes : List Byte) : Nat :=
  bytes.foldl (fun acc b => acc * 256 + b.toNat) 0

/-- The sixteen bytes of a block. -/
def blockBytes (b : Block) : List Byte :=
  bytesOf 16 b.toNat

/-- The block of sixteen bytes. -/
def blockOf (bytes : List Byte) : Block :=
  BitVec.ofNat 128 (numberOf bytes)

/-- The bits of a byte, most significant first. -/
def bitsOf (b : Byte) : List Bool :=
  [b.getMsbD 0, b.getMsbD 1, b.getMsbD 2, b.getMsbD 3, b.getMsbD 4, b.getMsbD 5, b.getMsbD 6,
    b.getMsbD 7]

/-! ## The frame check (R186) -/

/-- One data bit enters the check register (R186). -/
def crcBit (register : Half) (bit : Bool) : Half :=
  if register.getMsbD 0 != bit then (register <<< 1) ^^^ 0x1021 else register <<< 1

/-- One byte enters the check register, most significant bit first (R186). -/
def crcByte (register : Half) (b : Byte) : Half :=
  (bitsOf b).foldl crcBit register

/-- The frame check over a list of bytes: the register starts at FFFFh and is not inverted (R186). -/
def crc16 (bytes : List Byte) : Half :=
  bytes.foldl crcByte 0xFFFF

/-- The two check bytes, high byte first (R186). -/
def checkBytes (bytes : List Byte) : List Byte :=
  bytesOf 2 (crc16 bytes).toNat

end Sys2Proof.Machine
end

