-- ==== Sys2Proof/Machine/Operands.lean ====
section
/-! DEFINITION. Field encodings of requests and responses (R183): sizes, presence indications, and the
codes of every enumeration, in both directions. Log entries 9, 10 and 11 say what R183 leaves open. -/

namespace Sys2Proof.Machine

/-! ## Sizes -/

/-- A one-byte number (R183). -/
def u8 (n : Nat) : List Byte := bytesOf 1 n

/-- A two-byte number (R183). -/
def u16 (n : Nat) : List Byte := bytesOf 2 n

/-- A four-byte number (R183). -/
def u32 (n : Nat) : List Byte := bytesOf 4 n

/-- A presence indication, yes-or-no value or set-or-clear flag (R183). -/
def flagByte (b : Bool) : List Byte := [if b then 1 else 0]

/-- An item that may be absent: presence indication, then the item at its full size, zeros when absent
(R183). -/
def optional {α : Type} (size : Nat) (encode : α → List Byte) : Option α → List Byte
  | none => 0 :: List.replicate size 0
  | some a => 1 :: encode a

/-- The six characters of an approval code (R183). -/
def codeBytes (c : Code6) : List Byte := bytesOf 6 c.toNat

/-- A key check value (R183). -/
def checkValueBytes (c : BitVec 24) : List Byte := bytesOf 3 c.toNat

/-- Digit places two to a byte, the first in the upper half (R117, R137). -/
def packPlaces : List Nibble → List Byte
  | a :: b :: rest => (a ++ b) :: packPlaces rest
  | [a] => [a ++ (15 : Nibble)]
  | [] => []

/-- The digit places of bytes, two to a byte (R137). -/
def unpackPlaces (bytes : List Byte) : List Nibble :=
  bytes.flatMap fun b => [b.extractLsb' 4 4, b.extractLsb' 0 4]

/-- The ten bytes of a card number: unused places hold 15 (R117, R185). -/
def cardNumberBytes (digits : List Nibble) : List Byte :=
  packPlaces (digits ++ List.replicate (20 - digits.length) 15)

/-! ## Request operands -/

/-- The lane a byte names, none above 15 (R133). -/
def laneOf (b : Byte) : Option LaneId :=
  if h : b.toNat < 16 then some ⟨b.toNat, h⟩ else none

/-- A presence indication or yes-or-no value of a request: other bytes than 0 and 1 stand for nothing
(R183; DESIGN CHOICE, log entry 11: they are answered RANGE by the owning rule). -/
def yesNoOf (b : Byte) : Option Bool :=
  if b = 0 then some false else if b = 1 then some true else none

/-- SETTLE's result (R41, R183). -/
def resultOf (b : Byte) : Option SettleResult :=
  if b = 1 then some .approve else if b = 2 then some .decline else if b = 3 then some .defer else none

/-- A timer action (R50; DEDUCED, log entry 10: NOTIFY 1, LAPSE 2). -/
def actionOf (b : Byte) : Option TimerAction :=
  if b = 1 then some .notify else if b = 2 then some .lapse else none

/-- A line speed, 9,600 as 1 to 230,400 as 6 (R183). -/
def speedOf (b : Byte) : Option Speed :=
  if b = 1 then some .b9600 else if b = 2 then some .b19200 else if b = 3 then some .b38400
  else if b = 4 then some .b57600 else if b = 5 then some .b115200 else if b = 6 then some .b230400
  else none

/-- A terminal choice (R134; DEDUCED, log entry 10: HOLD 1, WRAP 2). -/
def terminalOf (b : Byte) : Option TerminalChoice :=
  if b = 1 then some .hold else if b = 2 then some .wrap else none

/-- A supply level, 2.90 V as 1 to 3.20 V as 4 (R183). -/
def levelOf (b : Byte) : Option SupplyLevel :=
  if b = 1 then some .v290 else if b = 2 then some .v300 else if b = 3 then some .v310
  else if b = 4 then some .v320 else none

/-- An entry method (R117). -/
def entryOf (b : Byte) : Option EntryMethod :=
  if b = 1 then some .tap else if b = 2 then some .dip else if b = 3 then some .swipe
  else if b = 4 then some .keyed else none

/-- A verification method (R117). -/
def verifyOf (b : Byte) : Option VerifyMethod :=
  if b = 0 then some .none else if b = 1 then some .signature else if b = 2 then some .chipPin
  else if b = 3 then some .device else none

/-- A digit or a capital letter from A to Z (R16, R183). -/
def isCodeChar (b : Byte) : Bool :=
  decide ((0x30 ≤ b.toNat ∧ b.toNat ≤ 0x39) ∨ (0x41 ≤ b.toNat ∧ b.toNat ≤ 0x5A))

/-- Every character of an approval code is a digit or a capital letter (R41, R63). -/
def codeInRange (c : Code6) : Bool :=
  (codeBytes c).all isCodeChar

/-- A number lies in a range, both ends included. -/
def inRange (low n high : Nat) : Bool :=
  decide (low ≤ n ∧ n ≤ high)

/-! ## Codes of the enumerations: the position in the defining table, counted from 1 (R183) -/

/-- Record states in the order of R12. -/
def PaymentState.code : PaymentState → Nat
  | .armed => 1 | .capturing => 2 | .wrapped => 3 | .released => 4 | .approved => 5 | .declined => 6
  | .deferred => 7 | .rejected => 8 | .voided => 9 | .lapsed => 10 | .cancelled => 11 | .failed => 12

/-- End reasons in the order of R13. -/
def EndReason.code : EndReason → Nat
  | .reader => 1 | .abandoned => 2 | .presentTimeout => 3 | .laneLost => 4 | .laneHeld => 5
  | .keysLost => 6 | .keySpent => 7 | .badCard => 8

/-- Entry methods (R117). -/
def EntryMethod.code : EntryMethod → Nat
  | .tap => 1 | .dip => 2 | .swipe => 3 | .keyed => 4

/-- Verification methods (R117). -/
def VerifyMethod.code : VerifyMethod → Nat
  | .none => 0 | .signature => 1 | .chipPin => 2 | .device => 3

/-- SETTLE results (R183). -/
def SettleResult.code : SettleResult → Nat
  | .approve => 1 | .decline => 2 | .defer => 3

/-- Delivery values in the order of R17. -/
def DeliveryValue.code : DeliveryValue → Nat
  | .none => 1 | .queued => 2 | .sent => 3 | .acked => 4 | .unconfirmed => 5

/-- The end frame's kind, as its lane frame kind of R185 (DESIGN CHOICE, log entry 9). -/
def EndFrameKind.code : EndFrameKind → Nat
  | .outcome => 0x84 | .close => 0x85

/-- A pending cancel's reason, as the end reason it becomes (R13; DEDUCED, log entry 10). -/
def CancelReason.code : CancelReason → Nat
  | .reader => 1 | .abandoned => 2

/-- Follow-up kinds in the order of R18. -/
def FollowUpKind.code : FollowUpKind → Nat
  | .adjust => 1 | .reversal => 2

/-- Follow-up statuses in the order of R18. -/
def FollowUpStatus.code : FollowUpStatus → Nat
  | .waiting => 1 | .wrapping => 2 | .ready => 3 | .collected => 4 | .failed => 5

/-- Timer actions (log entry 10). -/
def TimerAction.code : TimerAction → Nat
  | .notify => 1 | .lapse => 2

/-- Key table entry states in the order of R88. -/
def EntryState.code : EntryState → Nat
  | .empty => 1 | .pending => 2 | .active => 3 | .draining => 4

/-- Lane states in the order of R121. -/
def LaneMode.code : LaneMode → Nat
  | .off => 1 | .down => 2 | .ready => 3 | .held => 4 | .faulted => 5

/-- Line speeds in the order of R123. -/
def Speed.code : Speed → Nat
  | .b9600 => 1 | .b19200 => 2 | .b38400 => 3 | .b57600 => 4 | .b115200 => 5 | .b230400 => 6

/-- Terminal choices (log entry 10). -/
def TerminalChoice.code : TerminalChoice → Nat
  | .hold => 1 | .wrap => 2

/-- Assembler states in the order of R126. -/
def AssemblerState.code : AssemblerState → Nat
  | .hunt => 1 | .length => 2 | .collect => 3 | .stalled => 4

/-- Counter kinds (R183). -/
def ErrorKind.code : ErrorKind → Nat
  | .line => 1 | .check => 2 | .order => 3

/-- Supply states (R160). -/
def SupplyState.code : SupplyState → Nat
  | .normal => 1 | .low => 2

/-- Supply levels (R183). -/
def SupplyLevel.code : SupplyLevel → Nat
  | .v290 => 1 | .v300 => 2 | .v310 => 3 | .v320 => 4

/-- Case levels (R163). -/
def caseCode : CaseLevel → Nat
  | .closed => 1 | .opened => 2

/-- Start causes in the order of R180. -/
def StartCause.code : StartCause → Nat
  | .power => 1 | .pin => 2 | .request => 3

/-- CLOSE reasons (R185). -/
def CloseReason.code : CloseReason → Nat
  | .reader => 1 | .abandoned => 2 | .timeout => 3 | .notCompleted => 4 | .tryAgain => 5

/-- REFUSE reasons in the order of R139. -/
def RefuseReason.code : RefuseReason → Nat
  | .notGreeted => 1 | .badFrame => 2 | .outOfSequence => 3 | .notArmed => 4 | .wrongPayment => 5
  | .badCard => 6 | .tooLate => 7

/-- Status codes (Table 11-1). -/
def Status.code : Status → Nat
  | .done => 0 | .malformed => 1 | .unknownRequest => 2 | .notCommissioned => 3 | .locked => 4
  | .range => 5 | .staleHandle => 6 | .wrongState => 7 | .notFound => 8 | .laneNotReady => 9
  | .laneEngaged => 10 | .laneShare => 11 | .tableFull => 12 | .supplyLow => 13 | .caseOpen => 14
  | .keyMissing => 15 | .keySpent => 16 | .keysLost => 17 | .exposure => 18 | .tooLate => 19
  | .busyRecord => 20 | .engineFull => 21 | .genOrder => 22 | .pendingExists => 23
  | .keyTableFull => 24 | .keyCheck => 25 | .noPending => 26

/-- The failing exposure checks in the order of R60. -/
inductive ExposureCheck where
  | floor | laneCeiling | storeCeiling
  deriving DecidableEq, Repr

/-- Exposure check codes (R60, R183). -/
def ExposureCheck.code : ExposureCheck → Nat
  | .floor => 1 | .laneCeiling => 2 | .storeCeiling => 3

end Sys2Proof.Machine
end

