-- ==== Sys2Proof/Machine/StartValues.lean ====
section
/-! DEFINITION. The start values of the blocks: 1.8, 2.13, 5.10, 7.8, 9.6, R160 to R163, R173 to R176. -/

namespace Sys2Proof.Machine

/-- An EMPTY key table entry (R88). -/
def KeyEntry.vacant : KeyEntry :=
  { state := .empty, material := none, bindings := 0, counters := Vector.replicate 16 0 }

/-- The key manager after a start (R106). -/
def startKeys : KeyManager :=
  { entries := Vector.replicate 4 KeyEntry.vacant, highest := 0 }

/-- A lane's book after a start (1.8, R47, R59). -/
def startBook : LaneBook :=
  { list := [], engaged := none, nextPayment := 1, expired := none, total := 0, count := 0 }

/-- The record table after a start (1.8). -/
def startTable : RecordTable :=
  { slots := Vector.replicate 2048 { tag := 0, record := none }
    free := List.finRange 2048
    books := Vector.replicate 16 startBook
    lowMarkArmed := true
    storeTotal := 0
    waiting := [] }

/-- The limits after a start (R69). -/
def startLimits : Limits :=
  { floor := 0, laneCeiling := 0, storeCeiling := 0, adjustCap := 25, reserve := 256
    warning := 60000, lowMark := 64, share := 256 }

/-- The record timer settings after a start (R50). -/
def startTimers : TimerSettings :=
  { present := 120, outcome := 60, delivery := 15, life := 72
    outcomeAction := .notify, deferredAction := .notify }

/-- A counter's settings after a start (R153 to R155). -/
def startCounterSettings : CounterSettings :=
  { enable := true, terminal := .hold, attend := true, fault := false }

/-- A lane's settings after a start (R134). -/
def startSettings : LaneSettings :=
  { speed := .b38400, high := 96, low := 32, threshold := 16
    line := startCounterSettings, check := startCounterSettings, order := startCounterSettings }

/-- The error counters after a start (R152). -/
def startErrors : ErrorCounters :=
  { line := { value := 0, terminal := false }
    check := { value := 0, terminal := false }
    order := { value := 0, terminal := false } }

/-- A lane after a start, in a given lane state and with the hold-in level of its pin (7.8, R136). -/
def startLane (mode : LaneMode) (holdIn : Bool) : Lane :=
  { mode := mode, settings := startSettings, rxLine := .mark, rxFifo := [], fillHold := false
    assembler := .hunt, frame := [], replay := [], slot := none, outbound := [], txFifo := []
    txLine := none, holdIn := holdIn, reader := none, nextPart := 0, errors := startErrors }

/-- The lane state after a start: DOWN for a fitted lane of a commissioned part, OFF otherwise (R121). -/
def startMode (commission : Option Commissioning) (l : LaneId) : LaneMode :=
  match commission with
  | some c => if l.val < c.fitted then .down else .off
  | none => .off

/-- The sixteen lanes after a start (R121). -/
def startLanes (commission : Option Commissioning) (lanes : Vector Lane 16) : Vector Lane 16 :=
  ⟨((List.finRange 16).map fun l => startLane (startMode commission l) lanes[l.val].holdIn).toArray,
    by simp⟩

/-- No LANE cause of a lane pending (R173). -/
def LaneCauses.clear : LaneCauses :=
  { up := false, down := false, faulted := none
    thresholdLine := false, thresholdCheck := false, thresholdOrder := false }

/-- The attention unit after a start: no cause pending, everything enabled (R173, R176). -/
def startAttention : AttentionUnit :=
  { supply := none, drained := [], warnings := [], lanes := Vector.replicate 16 LaneCauses.clear
    table := false, classes := 0xFF, laneMask := 0xFFFF }

/-- The store port after a start (R171). -/
def startPort : StorePort :=
  { state := .idle, discarded := false, sdo := [] }

/-- A supply level in millivolts (R178). -/
def SupplyLevel.millivolts : SupplyLevel → Nat
  | .v290 => 2900
  | .v300 => 3000
  | .v310 => 3100
  | .v320 => 3200

/-- The supply level in force, in millivolts: 2.90 V before commissioning (R160). -/
def levelInForce (commission : Option Commissioning) : Nat :=
  match commission with
  | some c => c.level.millivolts
  | none => 2900

/-- The supply monitor at a start: NORMAL when the supply stands above the level in force, LOW
otherwise, with the recovery timer idle (R160). -/
def startSupply (commission : Option Commissioning) (mv : Nat) : SupplyMonitor :=
  { millivolts := mv
    state := if levelInForce commission < mv then .normal else .low
    recovering := false }

/-- The case level of the two lines: OPEN while either is at the open level (R163). -/
def caseLevel (a b : CaseLevel) : CaseLevel :=
  if a = .opened ∨ b = .opened then .opened else .closed

/-- The case monitor after a start: the current level registered, nothing latched (R163). -/
def startCase (a b : CaseLevel) : CaseMonitor :=
  { lineA := a, lineB := b, registered := caseLevel a b, latch := none, erased := false }

/-- The engine after a start: IDLE when the supply state is NORMAL and HELD when it is LOW (R107). -/
def startEngine (supply : SupplyState) : Engine :=
  { queue := [], service := if supply = .low then .held else .idle }

end Sys2Proof.Machine
end

