-- ==== Sys2Proof/Machine/State.lean ====
section
/-! DEFINITION. The state of the part, the reasons a step could stop, and the state after reset. -/

namespace Sys2Proof.Machine

/-- Everything the spec gives the part, and the queue of the commands that are waiting. -/
structure State where
  /-- The commands waiting, first in first out: the model's own field. -/
  pending : List Instr
  /-- Running, in a start, or without supply (R160, R180). -/
  phase : Phase
  /-- The cause of the last start (R180). -/
  startCause : StartCause
  /-- No START READ has been accepted since the last start (R172, R182). -/
  startUnread : Bool
  /-- The RESET pin is asserted (R180). -/
  resetPin : Bool
  /-- The commissioning record, present when the commissioned flag is yes (R178). -/
  commission : Option Commissioning
  supply : SupplyMonitor
  caseMon : CaseMonitor
  limits : Limits
  timers : TimerSettings
  table : RecordTable
  keys : KeyManager
  engine : Engine
  lanes : Vector Lane 16
  attention : AttentionUnit
  port : StorePort
  deriving DecidableEq, Repr

/-- The reasons a step stops with a fault. There are none: the spec has the part answer, count or latch
whatever it meets, and stop at nothing. -/
inductive Fault
  deriving DecidableEq, Repr

/-- The reasons a command has no meaning. -/
inductive Refusal where
  /-- Raised by an arm of exec whose command has no meaning yet, with the row's mnemonic. Safe: nothing
  can be proved of what such a command does. No arm raises it now. -/
  | notModelled (mnemonic : String)
  deriving DecidableEq, Repr

/-- A factory part after its first POWER start: not commissioned (R178), every block at its start values
(R180), the queue empty. The pins stand as log entry 2 says: 3.3 V, case closed, hold-in and RESET
released. -/
def State.reset : State :=
  { pending := []
    phase := .running
    startCause := .power
    startUnread := true
    resetPin := false
    commission := none
    supply := startSupply none 3300
    caseMon := startCase .closed .closed
    limits := startLimits
    timers := startTimers
    table := startTable
    keys := startKeys
    engine := startEngine .normal
    lanes := Vector.replicate 16 (startLane .off false)
    attention := startAttention
    port := startPort }

end Sys2Proof.Machine
end

