-- ==== Sys2Proof/Machine/Vec.lean ====
section
/-! DEFINITION. Reading and writing a table of fixed size, and the orderings kept in lists. -/

namespace Sys2Proof.Machine

/-- The item of a fixed table at an index. -/
def look {α : Type} {n : Nat} (v : Vector α n) (i : Fin n) : α :=
  v[i.val]

/-- A fixed table with the item at an index replaced. -/
def put {α : Type} {n : Nat} (v : Vector α n) (i : Fin n) (a : α) : Vector α n :=
  v.set i.val a

/-- A fixed table with a function applied to every item. -/
def mapAll {α β : Type} {n : Nat} (f : α → β) (v : Vector α n) : Vector β n :=
  ⟨(v.toList.map f).toArray, by simp⟩

/-- A fixed table with the item of each index given. -/
def tabulate {α : Type} {n : Nat} (f : Fin n → α) : Vector α n :=
  ⟨((List.finRange n).map f).toArray, by simp⟩

/-- Insert into an ascending list without repeats, by a strict order given as a test; an item already
there is kept once (R81, R173). -/
def insertBy {α : Type} [DecidableEq α] (before : α → α → Bool) (a : α) : List α → List α
  | [] => [a]
  | b :: rest =>
    if a = b then b :: rest
    else if before a b then a :: b :: rest
    else b :: insertBy before a rest

/-- A list put in ascending order, without repeats. -/
def sortBy {α : Type} [DecidableEq α] (before : α → α → Bool) (l : List α) : List α :=
  l.foldr (insertBy before) []

end Sys2Proof.Machine
end

