-- ==== Sys2Proof/Machine/Ops.lean ====
section
/-! DEFINITION. The named operations over the blocks: reading and changing slots, records, books, lanes,
key entries and attention causes, offering part frames, end frames, and a lane's leaving READY. Every
meaning is written over these. -/

namespace Sys2Proof.Machine

/-! ## Handles (R3) -/

/-- The slot a handle value names: the remainder of the value divided by 2048 (R3). -/
def slotOf (h : Handle) : Slot :=
  ⟨h.toNat % 2048, Nat.mod_lt _ (by decide)⟩

/-- The tag a handle value carries: the whole quotient (R3). -/
def tagOf (h : Handle) : Nat :=
  h.toNat / 2048

/-- The handle of a tag and a slot: reuse tag × 2048 + slot (R3). -/
def handleAt (tag : Tag) (slot : Slot) : Handle :=
  BitVec.ofNat 16 (tag.val * 2048 + slot.val)

namespace State

/-! ## Slots and records -/

/-- The cell of a slot. -/
def cell (s : State) (slot : Slot) : SlotCell :=
  look s.table.slots slot

/-- The record of a slot, none when it is free (R1). -/
def recordAt (s : State) (slot : Slot) : Option Record :=
  (s.cell slot).record

/-- The current handle of a slot (R3). -/
def handleOf (s : State) (slot : Slot) : Handle :=
  handleAt (s.cell slot).tag slot

/-- The record a handle names, none when the handle is stale (R3). -/
def current? (s : State) (h : Handle) : Option Record :=
  if (s.cell (slotOf h)).tag.val = tagOf h then s.recordAt (slotOf h) else none

/-- The state with a slot's cell replaced. -/
def setCell (s : State) (slot : Slot) (c : SlotCell) : State :=
  { s with table := { s.table with slots := put s.table.slots slot c } }

/-- The state with the record of an occupied slot changed; a free slot stays free. -/
def modRecord (s : State) (slot : Slot) (f : Record → Record) : State :=
  s.setCell slot { tag := (s.cell slot).tag, record := (s.recordAt slot).map f }

/-- The state with a function applied to every record of the table. -/
def mapRecords (s : State) (f : Record → Record) : State :=
  { s with table := { s.table with
      slots := mapAll (fun c => { tag := c.tag, record := c.record.map f }) s.table.slots } }

/-- The free count (R4). -/
def freeCount (s : State) : Nat :=
  s.table.free.length

/-- The occupied count (R7): the lengths of the sixteen lane lists together. -/
def occupiedCount (s : State) : Nat :=
  ((List.finRange 16).map fun l => (look s.table.books l).list.length).sum

/-! ## The books of the lanes -/

/-- What the record table keeps for a lane. -/
def book (s : State) (l : LaneId) : LaneBook :=
  look s.table.books l

/-- The state with a lane's book changed. -/
def modBook (s : State) (l : LaneId) (f : LaneBook → LaneBook) : State :=
  { s with table := { s.table with books := put s.table.books l (f (s.book l)) } }

/-- The engaged record of a lane with its slot (R10). -/
def engaged? (s : State) (l : LaneId) : Option (Slot × Record) :=
  match (s.book l).engaged with
  | none => none
  | some h => (s.current? h).map fun r => (slotOf h, r)

/-- The lane's engaged handle becomes none (R10, R48). -/
def endEngagement (s : State) (l : LaneId) : State :=
  s.modBook l fun b => { b with engaged := none }

/-! ## Lanes -/

/-- One lane. -/
def lane (s : State) (l : LaneId) : Lane :=
  look s.lanes l

/-- The state with a lane changed. -/
def modLane (s : State) (l : LaneId) (f : Lane → Lane) : State :=
  { s with lanes := put s.lanes l (f (s.lane l)) }

/-! ## Attention causes (R173) -/

/-- The state with the causes of a lane changed. -/
def modCauses (s : State) (l : LaneId) (f : LaneCauses → LaneCauses) : State :=
  { s with attention := { s.attention with
      lanes := put s.attention.lanes l (f (look s.attention.lanes l)) } }

/-- Latch "generation drained" with its generation number (R94, R98); a member once (R173). -/
def latchDrained (s : State) (generation : Nat) : State :=
  { s with attention := { s.attention with
      drained := insertBy (fun a b => decide (a < b)) generation s.attention.drained } }

/-- Lowest lane first, and within one lane lowest generation number first (R174). -/
def warningBefore (a b : LaneId × Nat) : Bool :=
  decide (a.1 < b.1 ∨ (a.1 = b.1 ∧ a.2 < b.2))

/-- Latch "counter warning" with its lane and generation number (R101). -/
def latchWarning (s : State) (l : LaneId) (generation : Nat) : State :=
  { s with attention := { s.attention with
      warnings := insertBy warningBefore (l, generation) s.attention.warnings } }

/-- Latch the TABLE cause (R9). -/
def latchTable (s : State) : State :=
  { s with attention := { s.attention with table := true } }

/-- Latch the SUPPLY cause for a change to a state: count 1 when it was not pending, else one more,
stopping at 255 (R161). -/
def latchSupply (s : State) (new : SupplyState) : State :=
  { s with attention := { s.attention with
      supply := some
        { state := new
          count := match s.attention.supply with
            | none => 1
            | some c => min 255 (c.count + 1) } } }

end State

/-! ## Outbound frames (R129) -/

/-- A part frame of kind REFUSE. -/
def PartFrame.isRefuse : PartFrame → Bool
  | .refuse .. => true
  | .welcome .. | .present .. | .taken .. | .outcome .. | .close .. => false

/-- The end frame kind of an OUTCOME or a CLOSE (R17). -/
def PartFrame.endKind : PartFrame → Option EndFrameKind
  | .outcome .. => some .outcome
  | .close .. => some .close
  | .welcome .. | .present .. | .taken .. | .refuse .. => none

/-- A list without the REFUSE frame nearest the tail (R129). -/
def dropLastRefuse (l : List PartFrame) : List PartFrame :=
  (l.reverse.eraseP PartFrame.isRefuse).reverse

/-- The outbound list after a frame is offered (R129): appended while there is room; a REFUSE is dropped at
a full list; any other frame takes the place of the REFUSE nearest the tail. -/
def offerTo (l : List PartFrame) (f : PartFrame) : List PartFrame :=
  if l.length < Config.outboundCapacity then l ++ [f]
  else if f.isRefuse then l
  else
    let kept := dropLastRefuse l
    if kept.length < Config.outboundCapacity then kept ++ [f] else l

/-- A lane in DOWN or READY receives and transmits (R121). -/
def Lane.runs (L : Lane) : Bool :=
  L.mode = .down || L.mode = .ready

/-- A lane after a frame is offered to its outbound list; OFF, HELD and FAULTED lanes take none (R129). -/
def Lane.offer (L : Lane) (f : PartFrame) : Lane :=
  if L.runs then { L with outbound := offerTo L.outbound f } else L

/-- The receive side cleared (R132). -/
def Lane.clearReceive (L : Lane) : Lane :=
  { L with rxFifo := [], fillHold := false, assembler := .hunt, frame := [], replay := [], slot := none }

/-- The outbound side cleared, the next part sequence set to 0 (R132, R136). -/
def Lane.clearOutbound (L : Lane) : Lane :=
  { L with outbound := [], txFifo := [], nextPart := 0 }

/-- Receive fill: the bytes in the receive FIFO; gap markers take no place (R125, R127). -/
def Lane.fill (L : Lane) : Nat :=
  (L.rxFifo.filter fun i => i ≠ .gap).length

/-- What a lane's leaving READY does to its engaged record when that is ARMED (R54). -/
def Record.laneLost (cause : LeaveCause) (r : Record) : Record :=
  { r with
    state := .cancelled
    endReason := some (match cause with | .lost => .laneLost | .held => .laneHeld)
    stateTimer := none
    ended := r.ended || decide (cause = .lost) }

/-- A delivery still open when its lane leaves READY (R55). -/
def Record.deliveryLost (r : Record) : Record :=
  { r with delivery := { r.delivery with value := .unconfirmed }, deliveryTimer := none }

/-- An entry carries a generation number (R88). -/
def KeyEntry.carries (generation : Nat) (e : KeyEntry) : Bool :=
  match e.material with
  | some m => decide (m.generation = generation)
  | none => false

namespace State

/-- Offer a part frame to a lane (R129). -/
def offer (s : State) (l : LaneId) (f : PartFrame) : State :=
  s.modLane l fun L => L.offer f

/-! ## End frames and delivery (R44 to R48) -/

/-- Queue a record's end frame (R44): on a READY lane it joins the outbound list and the delivery becomes
QUEUED; otherwise the delivery becomes UNCONFIRMED at once and the engagement ends. Delivery leaves NONE
once (R17). -/
def queueEndFrame (s : State) (slot : Slot) (kind : EndFrameKind) (frame : Record → PartFrame) : State :=
  match s.recordAt slot with
  | none => s
  | some r =>
    if r.delivery.value ≠ .none then s
    else if (s.lane r.lane).mode = .ready then
      (s.offer r.lane (frame r)).modRecord slot fun r =>
        { r with delivery := { value := .queued, kind := some kind, sequence := none } }
    else
      (s.endEngagement r.lane).modRecord slot fun r =>
        { r with delivery := { value := .unconfirmed, kind := some kind, sequence := none } }

/-- Queue a part CLOSE as the record's end frame (R44). -/
def queueClose (s : State) (slot : Slot) (reason : CloseReason) : State :=
  s.queueEndFrame slot .close fun r => .close r.payment reason

/-- Queue a part OUTCOME as the record's end frame: the approval code with APPROVED, none with DECLINED,
and the current amount (R42, R61, R138). -/
def queueOutcome (s : State) (slot : Slot) (approval : Option Code6) : State :=
  s.queueEndFrame slot .outcome fun r => .outcome r.payment approval r.current

/-! ## A lane leaves READY (R54, R55) -/

/-- The record table's acts when a lane leaves READY: an ARMED engaged record is CANCELLED, a QUEUED or
SENT delivery becomes UNCONFIRMED, either ending the engagement; the lane's expired delivery sequence
becomes absent (R54, R55). -/
def leaveReady (s : State) (l : LaneId) (cause : LeaveCause) : State :=
  let s := match s.engaged? l with
    | none => s
    | some (slot, r) =>
      if r.state = PaymentState.armed then (s.modRecord slot (Record.laneLost cause)).endEngagement l
      else if r.delivery.value = DeliveryValue.queued ∨ r.delivery.value = DeliveryValue.sent then
        (s.modRecord slot Record.deliveryLost).endEngagement l
      else s
  s.modBook l fun b => { b with expired := none }

/-! ## Key entries and counters (R88, R97 to R101) -/

/-- The key table entry of an index. -/
def entry (s : State) (i : Fin 4) : KeyEntry :=
  look s.keys.entries i

/-- The state with a key table entry replaced. -/
def setEntry (s : State) (i : Fin 4) (e : KeyEntry) : State :=
  { s with keys := { s.keys with entries := put s.keys.entries i e } }

/-- The lowest-numbered entry that passes a test. -/
def findEntry (s : State) (test : KeyEntry → Bool) : Option (Fin 4) :=
  (List.finRange 4).find? fun i => test (s.entry i)

/-- The entry in a given state, lowest number first (R89). -/
def entryIn (s : State) (st : EntryState) : Option (Fin 4) :=
  s.findEntry fun e => e.state = st

/-- The entry that carries a generation number (R88, R89). -/
def entryOf (s : State) (generation : Nat) : Option (Fin 4) :=
  s.findEntry (KeyEntry.carries generation)

/-- The counter of a lane in the entry that carries a generation number (R88). -/
def laneCounter? (s : State) (generation : Nat) (l : LaneId) : Option Nat :=
  (s.entryOf generation).map fun i => look (s.entry i).counters l

/-- The capture limit: 65536 less the follow-up reserve in force (R100). -/
def captureLimit (s : State) : Nat :=
  Config.counterSpent - s.limits.reserve

/-- Take a counter (R99): below the limit its value, with the counter advanced by one and a counter warning
latched when it becomes the warning level (R101); none, "spent", otherwise. -/
def takeCounter (s : State) (generation : Nat) (l : LaneId) (limit : Nat) : Option (Nat × State) :=
  match s.entryOf generation with
  | none => none
  | some i =>
    let e := s.entry i
    let c := look e.counters l
    if c < limit then
      let s' := s.setEntry i { e with counters := put e.counters l (c + 1) }
      some (c, if c + 1 = s.limits.warning then s'.latchWarning l generation else s')
    else none

/-- Raise the binding count of an entry by one (R97). -/
def bindEntry (s : State) (i : Fin 4) : State :=
  s.setEntry i { s.entry i with bindings := (s.entry i).bindings + 1 }

/-- Lower the binding count of a generation by one; a DRAINING entry whose count falls to 0 becomes EMPTY
and latches "generation drained" (R21, R97, R98). -/
def unbindEntry (s : State) (generation : Nat) : State :=
  match s.entryOf generation with
  | none => s
  | some i =>
    let e := s.entry i
    if e.state = .draining ∧ e.bindings - 1 = 0 then
      (s.setEntry i KeyEntry.vacant).latchDrained generation
    else s.setEntry i { e with bindings := e.bindings - 1 }

/-! ## The deferral account (R62) -/

/-- Raise the totals of a lane and the store by an amount and the lane's count by one (R61). -/
def enterAccount (s : State) (l : LaneId) (amount : Nat) : State :=
  let s := s.modBook l fun b => { b with total := b.total + amount, count := b.count + 1 }
  { s with table := { s.table with storeTotal := s.table.storeTotal + amount } }

/-- Lower the totals of a lane and the store by an amount and the lane's count by one (R62). -/
def leaveAccount (s : State) (l : LaneId) (amount : Nat) : State :=
  let s := s.modBook l fun b => { b with total := b.total - amount, count := b.count - 1 }
  { s with table := { s.table with storeTotal := s.table.storeTotal - amount } }

/-- Change the totals of a lane and the store from an old amount to a new one (R67). -/
def changeAccount (s : State) (l : LaneId) (old new : Nat) : State :=
  let s := s.modBook l fun b => { b with total := b.total + new - old }
  { s with table := { s.table with storeTotal := s.table.storeTotal + new - old } }

end State

end Sys2Proof.Machine
end

