-- ==== Sys2Proof/Machine/Flags.lean ====
section
/-! DEFINITION. Everything the part computes from its state to tell the outside: when a record is closed
(R20), which attention causes are pending and eligible and in what order (R173, R174, R177), the hold-out
level (R125), and how an error report moves a counter, its terminal flag and the lane (R152 to R157). -/

namespace Sys2Proof.Machine

/-! ## Closed records (R20) -/

/-- The states in which a record may be closed (R20). -/
def PaymentState.isClosing : PaymentState → Bool
  | .approved | .declined | .rejected | .voided | .lapsed | .cancelled | .failed => true
  | .armed | .capturing | .wrapped | .released | .deferred => false

/-- The states that make a record engaged of themselves (R10). -/
def PaymentState.isEngaging : PaymentState → Bool
  | .armed | .capturing | .wrapped | .released => true
  | .approved | .declined | .deferred | .rejected | .voided | .lapsed | .cancelled | .failed => false

/-- A delivery that is QUEUED or SENT (R10, R17). -/
def DeliveryValue.isOpen : DeliveryValue → Bool
  | .queued | .sent => true
  | .none | .acked | .unconfirmed => false

/-- A follow-up status after which nothing is left to do (R20). -/
def FollowUpStatus.isSettled : FollowUpStatus → Bool
  | .collected | .failed => true
  | .waiting | .wrapping | .ready => false

/-- A record is closed (R20). -/
def Record.closed (r : Record) : Bool :=
  r.state.isClosing && !r.delivery.value.isOpen && r.followUps.all fun f => f.status.isSettled

/-- A record is engaged (R10). -/
def Record.engaged (r : Record) : Bool :=
  r.state.isEngaging || r.delivery.value.isOpen

/-- The READY attention condition of a record (R37, R84). -/
def Record.readyCondition (r : Record) : Bool :=
  r.state = .wrapped || r.followUps.any fun f => f.status = .ready

/-- A follow-up of the record is WAITING or WRAPPING (R75, R77). -/
def Record.busy (r : Record) : Bool :=
  r.followUps.any fun f => f.status = .waiting || f.status = .wrapping

/-! ## Attention causes (R173, R174) -/

/-- One pending attention cause with what it carries (Table 11-3). -/
inductive Cause where
  | caseEvent (level : CaseLevel)
  | supply (cause : SupplyCause)
  | drained (generation : Nat)
  | warning (lane : LaneId) (generation : Nat)
  | laneUp (lane : LaneId)
  | laneDown (lane : LaneId)
  | laneFaulted (lane : LaneId) (kind : ErrorKind)
  | laneThreshold (lane : LaneId) (kind : ErrorKind)
  | late (lane : LaneId) (slot : Slot)
  | ready (lane : LaneId) (slot : Slot)
  | ended (lane : LaneId) (slot : Slot)
  | table
  deriving DecidableEq, Repr

/-- The class of a cause, numbered by its priority (Table 11-3, R183). -/
def Cause.classNumber : Cause → Nat
  | .caseEvent _ => 1
  | .supply _ => 2
  | .drained _ | .warning .. => 3
  | .laneUp _ | .laneDown _ | .laneFaulted .. | .laneThreshold .. => 4
  | .late .. => 5
  | .ready .. => 6
  | .ended .. => 7
  | .table => 8

/-- The lane of a cause, for the lane mask (Table 11-3). -/
def Cause.lane : Cause → Option LaneId
  | .warning l _ | .laneUp l | .laneDown l | .laneFaulted l _ | .laneThreshold l _ => some l
  | .late l _ | .ready l _ | .ended l _ => some l
  | .caseEvent _ | .supply _ | .drained _ | .table => none

/-- A cause when it is pending. -/
def pendingWhen (pending : Bool) (c : Cause) : List Cause :=
  if pending then [c] else []

/-- The LANE causes of one lane in their order (R174). -/
def laneCausesOf (l : LaneId) (c : LaneCauses) : List Cause :=
  List.flatten
    [ pendingWhen c.up (.laneUp l), pendingWhen c.down (.laneDown l),
      (c.faulted.map fun kind => Cause.laneFaulted l kind).toList,
      pendingWhen c.thresholdLine (.laneThreshold l .line),
      pendingWhen c.thresholdCheck (.laneThreshold l .check),
      pendingWhen c.thresholdOrder (.laneThreshold l .order) ]

namespace State

/-- The records that pass a test, lowest lane first, then lowest slot (R174). Each occupied slot stands
on its lane's list (R6, R7). -/
def recordsWhere (s : State) (test : Record → Bool) : List (LaneId × Slot) :=
  (List.finRange 16).flatMap fun l =>
    ((sortBy (fun a b => decide (a < b)) (s.book l).list).filter fun slot =>
      ((s.recordAt slot).map test).getD false).map fun slot => (l, slot)

/-- Every pending cause, by class priority and within a class in the order of R174. -/
def pendingCauses (s : State) : List Cause :=
  List.flatten
    [ (s.caseMon.latch.map Cause.caseEvent).toList,
      (s.attention.supply.map Cause.supply).toList,
      s.attention.drained.map Cause.drained,
      s.attention.warnings.map fun w => Cause.warning w.1 w.2,
      (List.finRange 16).flatMap fun l => laneCausesOf l (look s.attention.lanes l),
      (s.recordsWhere fun r => r.late).map fun p => Cause.late p.1 p.2,
      (s.recordsWhere fun r => r.readyCondition).map fun p => Cause.ready p.1 p.2,
      (s.recordsWhere fun r => r.ended).map fun p => Cause.ended p.1 p.2,
      pendingWhen s.attention.table .table ]

/-- A cause is eligible when its class is enabled and its lane, if it has one, is enabled (R174). -/
def isEligible (s : State) (c : Cause) : Bool :=
  s.attention.classes.getLsbD (c.classNumber - 1) &&
    (match c.lane with
      | some l => s.attention.laneMask.getLsbD l.val
      | none => true)

/-- The eligible causes in their reporting order (R174, R175). -/
def eligibleCauses (s : State) : List Cause :=
  s.pendingCauses.filter s.isEligible

/-- The ATTENTION output (R177): released during a start (R180), and below 2.70 V (DESIGN CHOICE, log entry
13). -/
def attentionOut (s : State) : Bool :=
  decide (s.phase = .running) && !s.eligibleCauses.isEmpty

/-- The ANSWER output (R172): released during a start (R180), and below 2.70 V (DESIGN CHOICE, log entry 13). -/
def answerOut (s : State) : Bool :=
  match s.port.state with
  | .answering _ => decide (s.phase = .running)
  | .idle => false
  | .serving .. => false

/-- The hold-out output of a lane (R125): asserted in OFF, HELD and FAULTED, during a start, and while the
fill hold is set; asserted below 2.70 V too, where the spec gives no level (DESIGN CHOICE, log entry 13). -/
def holdOut (s : State) (l : LaneId) : Bool :=
  !(decide (s.phase = .running) && (s.lane l).runs && !(s.lane l).fillHold)

end State

/-! ## Error counters (R152 to R157) -/

/-- The settings of one counter. -/
def LaneSettings.counter (c : LaneSettings) : ErrorKind → CounterSettings
  | .line => c.line
  | .check => c.check
  | .order => c.order

/-- One counter. -/
def ErrorCounters.get (e : ErrorCounters) : ErrorKind → ErrorCounter
  | .line => e.line
  | .check => e.check
  | .order => e.order

/-- The counters with one replaced. -/
def ErrorCounters.set (e : ErrorCounters) (kind : ErrorKind) (c : ErrorCounter) : ErrorCounters :=
  match kind with
  | .line => { e with line := c }
  | .check => { e with check := c }
  | .order => { e with order := c }

/-- A counter after one error, and whether the threshold test is taken (R154). -/
def advanceCounter (choice : TerminalChoice) (c : ErrorCounter) : ErrorCounter × Bool :=
  if c.value < 254 then ({ c with value := c.value + 1 }, true)
  else if c.value = 254 then ({ value := 255, terminal := true }, true)
  else
    match choice with
    | .hold => (c, false)
    | .wrap => ({ value := 0, terminal := true }, true)

/-- Latch "error threshold" of a counter kind (R156). -/
def LaneCauses.latchThreshold (c : LaneCauses) : ErrorKind → LaneCauses
  | .line => { c with thresholdLine := true }
  | .check => { c with thresholdCheck := true }
  | .order => { c with thresholdOrder := true }

/-- A lane stopped by a fault or by LANE HOLD: both sides cleared, the reader session absent (R122, R132,
R136). -/
def Lane.stopped (L : Lane) (mode : LaneMode) : Lane :=
  { L.clearReceive.clearOutbound with mode := mode, reader := none }

namespace State

/-- The FAULT action (R157): the lane is FAULTED and cleared, leaves READY when it was READY, and "faulted"
is latched with the counter kind. -/
def faultLane (s : State) (l : LaneId) (kind : ErrorKind) : State :=
  let s' := if (s.lane l).mode = .ready then s.leaveReady l .lost else s
  (s'.modLane l fun L => L.stopped .faulted).modCauses l fun c => { c with faulted := some kind }

/-- The threshold actions of a counter (R155): ATTEND, then FAULT. -/
def thresholdActions (s : State) (l : LaneId) (kind : ErrorKind) (c : CounterSettings) : State :=
  let s' := if c.attend then s.modCauses l fun causes => causes.latchThreshold kind else s
  if c.fault then s'.faultLane l kind else s'

/-- One error reported to a lane's counter (R153 to R155). -/
def reportError (s : State) (l : LaneId) (kind : ErrorKind) : State :=
  let settings := (s.lane l).settings
  let c := settings.counter kind
  if c.enable then
    let after := advanceCounter c.terminal ((s.lane l).errors.get kind)
    let s' := s.modLane l fun L => { L with errors := L.errors.set kind after.1 }
    if after.2 ∧ after.1.value = settings.threshold then s'.thresholdActions l kind c else s'
  else s

end State

end Sys2Proof.Machine
end

