-- ==== Sys2Proof/Machine/Port.lean ====
section
/-! DEFINITION. The store port: one request at a time (R171), the response and its flags (R172), and the
response frame on SDO (R184). Every request meaning is a handler taken through `takeRequest`. -/

namespace Sys2Proof.Machine

/-- What the block that owns a request gives back (R171): the state after the request with a status and a
body, or a request held in service without a response. -/
inductive Reply where
  | answer (after : State) (status : Status) (body : List Byte)
  | hold (after : State)

/-- A refusal changes no state and has an empty body (R170, R172). -/
def refuse (s : State) (status : Status) : Reply :=
  .answer s status []

namespace State

/-- Form a response (R171, R172): the flags are taken as it is formed, and the discarded-request mark is
copied and cleared. -/
def respond (s : State) (kind tag : Byte) (status : Status) (body : List Byte) : State :=
  { s with port :=
      { s.port with
        state := .answering
          { kind := kind, tag := tag, status := status
            flags :=
              { discarded := s.port.discarded, attention := s.attentionOut, startUnread := s.startUnread }
            body := body }
        discarded := false } }

/-- Answer the request held in service (R92, R105, R171). -/
def respondHeld (s : State) (status : Status) (body : List Byte) : State :=
  match s.port.state with
  | .serving kind tag => s.respond kind tag status body
  | .idle => s
  | .answering _ => s

end State

/-- The state after the owning block's reply to a request (R171). -/
def Reply.finish (kind tag : Byte) : Reply → State
  | .answer s status body => s.respond kind tag status body
  | .hold s => { s with port := { s.port with state := .serving kind tag } }

/-- A request transaction ends with a frame of a kind and a tag (R171, R180): in IDLE the owning block's
handler takes it; in SERVING and ANSWERING it is discarded and the mark set; during a start nothing is
taken. -/
def takeRequest (kind tag : Byte) (handler : State → Reply) (s : State) : State :=
  if s.phase = .running then
    match s.port.state with
    | .idle => (handler s).finish kind tag
    | .serving .. => { s with port := { s.port with discarded := true } }
    | .answering _ => { s with port := { s.port with discarded := true } }
  else s

/-- An event inside the part: it happens while the part runs, and finds nothing during a start or below
2.70 V (R160, R180; log entry 13). -/
def whenRunning (f : State → State) (s : State) : State :=
  if s.phase = .running then f s else s

/-- A handler over the record a handle names: STALE_HANDLE comes first (R3). -/
def withRecord (h : Handle) (f : Slot → Record → State → Reply) (s : State) : Reply :=
  match s.current? h with
  | some r => f (slotOf h) r s
  | none => refuse s .staleHandle

/-! ## The response frame (R184) -/

/-- The flags byte (R184). -/
def ResponseFlags.byte (f : ResponseFlags) : Byte :=
  BitVec.ofNat 8
    ((if f.discarded then 1 else 0) + (if f.attention then 2 else 0) + (if f.startUnread then 4 else 0))

/-- The response frame between its start byte and its check. -/
def Response.checked (r : Response) : List Byte :=
  [r.kind, r.tag] ++ u8 r.status.code ++ [r.flags.byte] ++ u16 r.body.length ++ r.body

/-- The response frame on SDO (R172, R184). -/
def Response.frame (r : Response) : List Byte :=
  Config.responseStartByte :: (r.checked ++ checkBytes r.checked)

/-- What SDO carries for n bytes clocked after the read byte: the frame, then the idle byte (R172). -/
def sdoBytes (frame : List Byte) (n : Nat) : List Byte :=
  frame.take n ++ List.replicate (n - frame.length) Config.idleByte

namespace State

/-- What SDO carries for n bytes clocked behind the read byte (R172): the response in ANSWERING, the idle
byte otherwise and during a start (R180), and below 2.70 V (DESIGN CHOICE, log entry 13). -/
def sdoRead (s : State) (n : Nat) : List Byte :=
  match s.port.state with
  | .answering r => if s.phase = .running then sdoBytes r.frame n else sdoBytes [] n
  | .idle => sdoBytes [] n
  | .serving .. => sdoBytes [] n

/-- The SDO output while a transaction's bytes are clocked on SDI, one byte for each (R170, R172): the idle
byte throughout a request transaction and an ignored one; in a read transaction the idle byte with the read
byte (DESIGN CHOICE, log entry 20), then what the read carries. -/
def sdoOut (s : State) : List Byte → List Byte
  | [] => []
  | first :: rest =>
    if first = Config.readByte then Config.idleByte :: s.sdoRead rest.length
    else List.replicate (rest.length + 1) Config.idleByte

end State

end Sys2Proof.Machine
end

