-- ==== Sys2Proof/Machine/Lookups.lean ====
section
/-! DEFINITION. Retiring a record and the look-ups of Chapter 1: RETIRE (R21), READ RECORD (R22), FIND
(R23), LANE LIST (R24), TABLE STATUS (R25). -/

namespace Sys2Proof.Machine

/-! ## RETIRE (R21) -/

namespace State

/-- A slot leaves its lane's list and joins the free list at the tail, its record gone; the low-mark
indicator re-arms when the free count is above the mark (R9, R21). -/
def freeSlot (s : State) (slot : Slot) (l : LaneId) : State :=
  let s' := (s.setCell slot { tag := (s.cell slot).tag, record := none }).modBook l fun b =>
    { b with list := b.list.erase slot }
  { s' with table :=
      { s'.table with
        free := s'.table.free ++ [slot]
        lowMarkArmed := s'.table.lowMarkArmed || decide (s.limits.lowMark < s.freeCount + 1) } }

/-- Unbind a record at its RETIRE: a bound record lowers its generation's binding count (R21, step 1). -/
def unbindRecord (s : State) (r : Record) : State :=
  match r.binding with
  | some b => if r.bound then s.unbindEntry b.generation else s
  | none => s

end State

/-- RETIRE (R21). -/
def retire (h : Handle) : State → Reply :=
  withRecord h fun slot r s =>
    if r.closed then
      let s' := (s.unbindRecord r).freeSlot slot r.lane
      .answer s' .done (u32 s'.freeCount)
    else refuse s .wrongState

/-- RETIRE (R21). -/
def execRetire (tag : Byte) (handle : Handle) (s : State) : Host.Outcome State Fault Refusal :=
  .next (takeRequest 11 tag (retire handle) s)

/-! ## READ RECORD (R22) -/

/-- A card summary in a response: entry method, issuer prefix, last four digits, verification method (R22;
DESIGN CHOICE, log entry 9: digits two to a byte). -/
def summaryBytes (c : CardSummary) : List Byte :=
  List.flatten [u8 c.entry.code, packPlaces c.issuerDigits, packPlaces c.lastFour, u8 c.verify.code]

/-- An outcome in a response: result, approval code, decline code (R22). -/
def outcomeBytes (o : PostedOutcome) : List Byte :=
  List.flatten
    [u8 o.result.code, optional 6 codeBytes o.approval, optional 1 (fun d => [d]) o.decline]

/-- A follow-up entry in a response (R22). -/
def followUpBytes (f : FollowUp) : List Byte :=
  List.flatten
    [u8 f.kind.code, u32 f.amount, optional 2 u16 f.counter, u8 f.status.code,
      optional 2 (fun p => u16 p.length) f.payload]

/-- A timer in a response: remaining seconds. At 0 it is absent (R49). -/
def timerBytes (remaining : Option Nat) : List Byte :=
  optional 4 u32 (remaining.filter fun n => 0 < n)

/-- The body of READ RECORD (R22). -/
def recordBytes (h : Handle) (r : Record) : List Byte :=
  List.flatten
    [u16 h.toNat, u8 r.lane.val, u16 r.payment, u32 r.till.toNat,
      u8 r.state.code, flagByte r.closed,
      u32 r.original, u32 r.current,
      optional 1 (fun e => u8 (EndReason.code e)) r.endReason,
      optional 4 (fun b => u16 (Binding.generation b) ++ u16 (Binding.counter b)) r.binding,
      flagByte r.bound,
      optional 7 summaryBytes r.summary,
      flagByte r.card.isSome,
      optional 2 (fun p => u16 (List.length p)) r.payload,
      optional 10 outcomeBytes r.outcome,
      u8 r.delivery.value.code, optional 1 (fun k => u8 (EndFrameKind.code k)) r.delivery.kind,
      optional 1 (fun q => [q]) r.delivery.sequence,
      timerBytes (r.stateTimer.map StateTimer.remaining), timerBytes r.deliveryTimer,
      optional 1 (fun c => u8 (CancelReason.code c)) r.cancelPending,
      flagByte r.late, flagByte r.ended,
      u8 r.followUps.length, r.followUps.flatMap followUpBytes]

/-- READ RECORD (R22). -/
def readRecord (h : Handle) : State → Reply :=
  withRecord h fun _ r s => .answer s .done (recordBytes h r)

/-- READ RECORD (R22). -/
def execReadRecord (tag : Byte) (handle : Handle) (s : State) : Host.Outcome State Fault Refusal :=
  .next (takeRequest 12 tag (readRecord handle) s)

/-! ## FIND (R23) -/

namespace State

/-- The slots among a list whose record passes a test, in the list's order. -/
def slotsWhere (s : State) (slots : List Slot) (test : Record → Bool) : List Slot :=
  slots.filter fun slot => ((s.recordAt slot).map test).getD false

end State

/-- The answer of FIND to the matches found, the one to report first (R23). -/
def found (s : State) : List Slot → Reply
  | [] => refuse s .notFound
  | slot :: rest => .answer s .done (u16 (s.handleOf slot).toNat ++ u16 (rest.length + 1))

/-- FIND (R23): the lane form, then the till form. -/
def find (form lane : Byte) (payment : Half) (till : Word) (s : State) : Reply :=
  if form = 1 then
    match laneOf lane with
    | none => refuse s .range
    | some l =>
      if payment = 0 then refuse s .range
      else found s (s.slotsWhere (s.book l).list fun r => decide (r.payment = payment.toNat))
  else if form = 2 then
    found s (s.slotsWhere (List.finRange 2048) fun r => decide (r.till = till))
  else refuse s .range

/-- FIND (R23). -/
def execFind (tag form lane : Byte) (payment : Half) (till : Word) (s : State) :
    Host.Outcome State Fault Refusal :=
  .next (takeRequest 13 tag (find form lane payment till) s)

/-! ## LANE LIST and TABLE STATUS (R24, R25) -/

/-- LANE LIST (R24). -/
def laneList (lane : Byte) (start : Half) (s : State) : Reply :=
  match laneOf lane with
  | none => refuse s .range
  | some l =>
    if 2047 < start.toNat then refuse s .range
    else
      let list := (s.book l).list
      let page := (list.drop start.toNat).take Config.lanePage
      .answer s .done (u16 list.length ++ page.flatMap fun slot => u16 (s.handleOf slot).toNat)

/-- LANE LIST (R24). -/
def execLaneList (tag lane : Byte) (start : Half) (s : State) : Host.Outcome State Fault Refusal :=
  .next (takeRequest 14 tag (laneList lane start) s)

/-- The low-mark indicator in a response: ARMED 1, DISARMED 2 (R9, R183). -/
def indicatorCode (armed : Bool) : Nat :=
  if armed then 1 else 2

/-- One item for each lane, lane 0 first. -/
def perLane (f : LaneId → List Byte) : List Byte :=
  (List.finRange 16).flatMap f

/-- TABLE STATUS (R25). -/
def tableStatus (s : State) : Reply :=
  .answer s .done <| List.flatten
    [u32 s.freeCount, u32 s.occupiedCount, u32 s.limits.lowMark, u8 (indicatorCode s.table.lowMarkArmed),
      u32 s.limits.share,
      perLane fun l => u16 (s.book l).list.length,
      perLane fun l => optional 2 (fun h => u16 (BitVec.toNat h)) (s.book l).engaged,
      perLane fun l => u16 (s.book l).nextPayment]

/-- TABLE STATUS (R25). -/
def execTableStatus (tag : Byte) (s : State) : Host.Outcome State Fault Refusal :=
  .next (takeRequest 15 tag tableStatus s)

end Sys2Proof.Machine
end

