-- ==== Sys2Proof/Machine/AttentionUnit.lean ====
section
/-! DEFINITION. The attention unit's requests (Chapter 11): NEXT ATTENTION (R175) and ATTENTION MASK
(R176). The causes and their order stand in Flags.lean. -/

namespace Sys2Proof.Machine

/-- The READY subject of a record: presence 0 for a capture, presence 1 with the lowest READY index for a
follow-up (R175, R183). -/
def readySubject (r : Record) : List Byte :=
  optional 1 u8
    (if r.state = .wrapped then none
      else some (r.followUps.findIdx fun f => decide (f.status = .ready)))

/-- A record's handle, then what is said of it. -/
def recordSubject (s : State) (slot : Slot) (f : Record → List Byte) : List Byte :=
  u16 (s.handleOf slot).toNat ++
    (match s.recordAt slot with
      | some r => f r
      | none => [])

/-- The subject reported with a cause (R175, R183): the items the cause carries and no others, without a
presence indication (DESIGN CHOICE, log entry 9). -/
def causeSubject (s : State) : Cause → List Byte
  | .caseEvent level => u8 (caseCode level) ++ flagByte s.caseMon.erased
  | .supply c => u8 c.state.code ++ u8 c.count
  | .drained g => u8 1 ++ u16 g
  | .warning l g => List.flatten [u8 2, u8 l.val, u16 g]
  | .laneUp l => u8 l.val ++ u8 1
  | .laneDown l => u8 l.val ++ u8 2
  | .laneFaulted l kind => List.flatten [u8 l.val, u8 3, u8 kind.code]
  | .laneThreshold l kind => List.flatten [u8 l.val, u8 4, u8 kind.code]
  | .late _ slot => recordSubject s slot fun r => u8 r.state.code
  | .ready _ slot => recordSubject s slot readySubject
  | .ended _ slot => recordSubject s slot fun r => u8 r.state.code
  | .table => u32 s.freeCount

/-- "Error threshold" of a counter kind no longer pending. -/
def LaneCauses.clearThreshold (c : LaneCauses) : ErrorKind → LaneCauses
  | .line => { c with thresholdLine := false }
  | .check => { c with thresholdCheck := false }
  | .order => { c with thresholdOrder := false }

/-- The state with the attention unit changed. -/
def State.modAttention (s : State) (f : AttentionUnit → AttentionUnit) : State :=
  { s with attention := f s.attention }

/-- The report of a cause clears it, apart from CASE and READY causes (R175, Table 11-3). -/
def clearCause (s : State) : Cause → State
  | .caseEvent _ => s
  | .supply _ => s.modAttention fun a => { a with supply := none }
  | .drained g => s.modAttention fun a => { a with drained := a.drained.erase g }
  | .warning l g => s.modAttention fun a => { a with warnings := a.warnings.erase (l, g) }
  | .laneUp l => s.modCauses l fun c => { c with up := false }
  | .laneDown l => s.modCauses l fun c => { c with down := false }
  | .laneFaulted l _ => s.modCauses l fun c => { c with faulted := none }
  | .laneThreshold l kind => s.modCauses l fun c => c.clearThreshold kind
  | .late _ slot => s.modRecord slot fun r => { r with late := false }
  | .ready .. => s
  | .ended _ slot => s.modRecord slot fun r => { r with ended := false }
  | .table => s.modAttention fun a => { a with table := false }

/-- NEXT ATTENTION (R175): the first eligible cause; class NONE without a byte of subject when there
is none (DESIGN CHOICE, log entry 9). A count above 65,535 is sent as its last two bytes (DESIGN CHOICE, log
entry 24). -/
def nextAttention (s : State) : Reply :=
  match s.eligibleCauses with
  | [] => .answer s .done (u8 0 ++ u16 0)
  | c :: _ =>
    let s' := clearCause s c
    .answer s' .done (List.flatten [u8 c.classNumber, causeSubject s c, u16 s'.eligibleCauses.length])

/-- NEXT ATTENTION (R175). -/
def execNextAttention (tag : Byte) (s : State) : Host.Outcome State Fault Refusal :=
  .next (takeRequest 28 tag nextAttention s)

/-- ATTENTION MASK (R176). A count above 65,535 is sent as its last two bytes (DESIGN CHOICE, log entry
24). -/
def attentionMask (classes : Byte) (lanes : Half) (s : State) : Reply :=
  let s' := s.modAttention fun a => { a with classes := classes, laneMask := lanes }
  .answer s' .done (List.flatten [[classes], u16 lanes.toNat, u16 s'.eligibleCauses.length])

/-- ATTENTION MASK (R176). -/
def execAttentionMask (tag classes : Byte) (lanes : Half) (s : State) :
    Host.Outcome State Fault Refusal :=
  .next (takeRequest 29 tag (attentionMask classes lanes) s)

end Sys2Proof.Machine
end

