-- ==== Sys2Proof/Machine/Aes.lean ====
section
/-! DEFINITION. The AES-128 block function, which the spec takes "as its published standard defines it"
(00_scope.md, Abbreviations). PRESUMED: FIPS 197, with the bytes of a block in the standard's order;
log entry 15. -/

namespace Sys2Proof.Machine.Aes

/-- Rows 0 to 3 of the substitution table (FIPS 197, Figure 7). -/
def sboxRows0 : List Byte :=
  [0x63, 0x7c, 0x77, 0x7b, 0xf2, 0x6b, 0x6f, 0xc5, 0x30, 0x01, 0x67, 0x2b, 0xfe, 0xd7, 0xab, 0x76] ++
  [0xca, 0x82, 0xc9, 0x7d, 0xfa, 0x59, 0x47, 0xf0, 0xad, 0xd4, 0xa2, 0xaf, 0x9c, 0xa4, 0x72, 0xc0] ++
  [0xb7, 0xfd, 0x93, 0x26, 0x36, 0x3f, 0xf7, 0xcc, 0x34, 0xa5, 0xe5, 0xf1, 0x71, 0xd8, 0x31, 0x15] ++
  [0x04, 0xc7, 0x23, 0xc3, 0x18, 0x96, 0x05, 0x9a, 0x07, 0x12, 0x80, 0xe2, 0xeb, 0x27, 0xb2, 0x75]

/-- Rows 4 to 7 of the substitution table (FIPS 197, Figure 7). -/
def sboxRows1 : List Byte :=
  [0x09, 0x83, 0x2c, 0x1a, 0x1b, 0x6e, 0x5a, 0xa0, 0x52, 0x3b, 0xd6, 0xb3, 0x29, 0xe3, 0x2f, 0x84] ++
  [0x53, 0xd1, 0x00, 0xed, 0x20, 0xfc, 0xb1, 0x5b, 0x6a, 0xcb, 0xbe, 0x39, 0x4a, 0x4c, 0x58, 0xcf] ++
  [0xd0, 0xef, 0xaa, 0xfb, 0x43, 0x4d, 0x33, 0x85, 0x45, 0xf9, 0x02, 0x7f, 0x50, 0x3c, 0x9f, 0xa8] ++
  [0x51, 0xa3, 0x40, 0x8f, 0x92, 0x9d, 0x38, 0xf5, 0xbc, 0xb6, 0xda, 0x21, 0x10, 0xff, 0xf3, 0xd2]

/-- Rows 8 to 11 of the substitution table (FIPS 197, Figure 7). -/
def sboxRows2 : List Byte :=
  [0xcd, 0x0c, 0x13, 0xec, 0x5f, 0x97, 0x44, 0x17, 0xc4, 0xa7, 0x7e, 0x3d, 0x64, 0x5d, 0x19, 0x73] ++
  [0x60, 0x81, 0x4f, 0xdc, 0x22, 0x2a, 0x90, 0x88, 0x46, 0xee, 0xb8, 0x14, 0xde, 0x5e, 0x0b, 0xdb] ++
  [0xe0, 0x32, 0x3a, 0x0a, 0x49, 0x06, 0x24, 0x5c, 0xc2, 0xd3, 0xac, 0x62, 0x91, 0x95, 0xe4, 0x79] ++
  [0xe7, 0xc8, 0x37, 0x6d, 0x8d, 0xd5, 0x4e, 0xa9, 0x6c, 0x56, 0xf4, 0xea, 0x65, 0x7a, 0xae, 0x08]

/-- Rows 12 to 15 of the substitution table (FIPS 197, Figure 7). -/
def sboxRows3 : List Byte :=
  [0xba, 0x78, 0x25, 0x2e, 0x1c, 0xa6, 0xb4, 0xc6, 0xe8, 0xdd, 0x74, 0x1f, 0x4b, 0xbd, 0x8b, 0x8a] ++
  [0x70, 0x3e, 0xb5, 0x66, 0x48, 0x03, 0xf6, 0x0e, 0x61, 0x35, 0x57, 0xb9, 0x86, 0xc1, 0x1d, 0x9e] ++
  [0xe1, 0xf8, 0x98, 0x11, 0x69, 0xd9, 0x8e, 0x94, 0x9b, 0x1e, 0x87, 0xe9, 0xce, 0x55, 0x28, 0xdf] ++
  [0x8c, 0xa1, 0x89, 0x0d, 0xbf, 0xe6, 0x42, 0x68, 0x41, 0x99, 0x2d, 0x0f, 0xb0, 0x54, 0xbb, 0x16]

/-- The substitution table, by byte value. -/
def sbox : List Byte :=
  sboxRows0 ++ sboxRows1 ++ sboxRows2 ++ sboxRows3

/-- SubBytes on one byte. -/
def sub (b : Byte) : Byte :=
  sbox.getD b.toNat 0

/-- InvSubBytes on one byte: the value whose substitution it is. -/
def invSub (b : Byte) : Byte :=
  BitVec.ofNat 8 (sbox.idxOf b)

/-- Multiplication by x in the field of AES. -/
def xtime (b : Byte) : Byte :=
  if b.getMsbD 0 then (b <<< 1) ^^^ 0x1b else b <<< 1

/-- Multiplication in the field of AES by a factor below 16. -/
def mul (factor : Nat) (b : Byte) : Byte :=
  (if factor.testBit 0 then b else 0) ^^^ (if factor.testBit 1 then xtime b else 0) ^^^
    (if factor.testBit 2 then xtime (xtime b) else 0) ^^^
    (if factor.testBit 3 then xtime (xtime (xtime b)) else 0)

/-- ShiftRows: where each byte of the state comes from. -/
def shiftRows (s : List Byte) : List Byte :=
  [0, 5, 10, 15, 4, 9, 14, 3, 8, 13, 2, 7, 12, 1, 6, 11].map fun i => s.getD i 0

/-- InvShiftRows. -/
def invShiftRows (s : List Byte) : List Byte :=
  [0, 13, 10, 7, 4, 1, 14, 11, 8, 5, 2, 15, 12, 9, 6, 3].map fun i => s.getD i 0

/-- One column through a circulant matrix with first row a b c d. -/
def mixColumn (a b c d : Nat) (w x y z : Byte) : List Byte :=
  [mul a w ^^^ mul b x ^^^ mul c y ^^^ mul d z, mul d w ^^^ mul a x ^^^ mul b y ^^^ mul c z,
    mul c w ^^^ mul d x ^^^ mul a y ^^^ mul b z, mul b w ^^^ mul c x ^^^ mul d y ^^^ mul a z]

/-- The four columns of a state through a circulant matrix. -/
def mixWith (a b c d : Nat) : List Byte → List Byte
  | w :: x :: y :: z :: rest => mixColumn a b c d w x y z ++ mixWith a b c d rest
  | _ => []

/-- MixColumns. -/
def mixColumns (s : List Byte) : List Byte := mixWith 2 3 1 1 s

/-- InvMixColumns. -/
def invMixColumns (s : List Byte) : List Byte := mixWith 14 11 13 9 s

/-- AddRoundKey: bytewise exclusive-or. -/
def addKey (k s : List Byte) : List Byte :=
  List.zipWith (· ^^^ ·) k s

/-- The next round key from the one before it and the round constant (KeyExpansion for 128 bits). -/
def nextKey (rcon : Byte) (k : List Byte) : List Byte :=
  let t := [sub (k.getD 13 0) ^^^ rcon, sub (k.getD 14 0), sub (k.getD 15 0), sub (k.getD 12 0)]
  let w0 := addKey (k.take 4) t
  let w1 := addKey ((k.drop 4).take 4) w0
  let w2 := addKey ((k.drop 8).take 4) w1
  let w3 := addKey ((k.drop 12).take 4) w2
  w0 ++ w1 ++ w2 ++ w3

/-- The round keys after the first, for the round constants given. -/
def expand : List Byte → List Byte → List (List Byte)
  | [], _ => []
  | rcon :: rest, k => let k' := nextKey rcon k; k' :: expand rest k'

/-- The ten round keys that follow the cipher key itself. -/
def roundKeys (k : List Byte) : List (List Byte) :=
  expand [0x01, 0x02, 0x04, 0x08, 0x10, 0x20, 0x40, 0x80, 0x1b, 0x36] k

/-- The rounds: the last one without MixColumns. -/
def rounds : List (List Byte) → List Byte → List Byte
  | [], s => s
  | [k], s => addKey k (shiftRows (s.map sub))
  | k :: rest, s => rounds rest (addKey k (mixColumns (shiftRows (s.map sub))))

/-- The inverse rounds, over the round keys last one first; the last inverse round, with the cipher key,
is without InvMixColumns. -/
def invRounds : List (List Byte) → List Byte → List Byte
  | [], s => s
  | [k], s => addKey k ((invShiftRows s).map invSub)
  | k :: rest, s => invRounds rest (invMixColumns (addKey k ((invShiftRows s).map invSub)))

/-- Encipher one block under a key. -/
def encipher (key block : Block) : Block :=
  let k := blockBytes key
  blockOf (rounds (roundKeys k) (addKey k (blockBytes block)))

/-- Decipher one block under a key. -/
def decipher (key block : Block) : Block :=
  let k := blockBytes key
  match (roundKeys k).reverse with
  | [] => block
  | last :: rest => blockOf (invRounds (rest ++ [k]) (addKey last (blockBytes block)))

end Sys2Proof.Machine.Aes
end

