-- ==== Sys2Proof/Machine/Cipher.lean ====
section
/-! DEFINITION. The cipher work of the wrap engine: one-time keys (R116), content and enciphering (R117,
R118), the payload and its check (R119, R187), and unwrapping a period key (R120). -/

namespace Sys2Proof.Machine

/-! ## One-time keys -/

/-- The kind byte of a payload: 1 for CAPTURE, 2 for ADJUST, 3 for REVERSAL (R116). -/
def Job.payloadKind : Job → Nat
  | .capture .. => 1
  | .followUp .adjust .. => 2
  | .followUp .reversal .. => 3
  | .unwrap .. => 0

/-- The generation number of a job (R107). -/
def Job.generation : Job → Nat
  | .capture _ _ g _ => g
  | .followUp _ _ _ _ _ g _ => g
  | .unwrap g _ _ => g

/-- The counter of a job; a KEY UNWRAP has none (R107). -/
def Job.counter : Job → Nat
  | .capture _ _ _ c => c
  | .followUp _ _ _ _ _ _ c => c
  | .unwrap .. => 0

/-- The lane of a job; a KEY UNWRAP has none (R107). -/
def Job.lane : Job → Nat
  | .capture _ l _ _ => l.val
  | .followUp _ _ _ _ l _ _ => l.val
  | .unwrap .. => 0

/-- The part of the record a payload is for: 0 for the capture, the index plus 1 for a follow-up (R119). -/
def Job.part : Job → Nat
  | .followUp _ _ _ i _ _ _ => i + 1
  | .capture .. => 0
  | .unwrap .. => 0

/-- The first fifteen bytes of the derivation block (R116). -/
def derivationHead (job : Job) (w : WrapInputs) : List Byte :=
  bytesOf 4 w.chain.toNat ++ bytesOf 4 w.store.toNat ++ u16 job.generation ++ u8 job.lane ++
    u16 job.counter ++ [0, 0]

/-- The one-time cipher key (R116). -/
def cipherKey (job : Job) (w : WrapInputs) : Block :=
  Aes.encipher w.key (blockOf (derivationHead job w ++ u8 job.payloadKind))

/-- The one-time check key: byte 15 of the derivation block replaced with its complement (R116). -/
def checkKey (job : Job) (w : WrapInputs) : Block :=
  Aes.encipher w.key (blockOf (derivationHead job w ++ [~~~(BitVec.ofNat 8 job.payloadKind)]))

/-! ## Content and enciphering -/

/-- The content of a payload (R117): the capture counter stands in a follow-up's content only. -/
def content (job : Job) (w : WrapInputs) : List Byte :=
  u8 w.card.digits.length ++ cardNumberBytes w.card.digits ++ [w.card.year, w.card.month] ++
    u8 w.card.entry.code ++ u8 w.card.verify.code ++ u32 w.amount ++ u16 w.payment ++
    (match job with
      | .followUp .. => u16 w.captureCounter
      | .capture .. => []
      | .unwrap .. => []) ++
    u8 w.card.chip.length ++ w.card.chip

/-- Padding: one byte of value 128, then zeros up to the next multiple of 16 (R117). -/
def padded (bytes : List Byte) : List Byte :=
  bytes ++ [0x80] ++ List.replicate ((16 - (bytes.length + 1) % 16) % 16) 0

/-- The 16-byte pieces of a list of bytes, the last one possibly shorter; the first argument bounds the
number of pieces. -/
def pieces : Nat → List Byte → List (List Byte)
  | 0, _ => []
  | n + 1, bytes =>
    if bytes.isEmpty then [] else bytes.take 16 :: pieces n (bytes.drop 16)

/-- The blocks of a list of bytes (R118). -/
def blocksOf (bytes : List Byte) : List Block :=
  (pieces bytes.length bytes).map blockOf

/-- Cipher block chaining (R118): each block is combined with the ciphertext block before it. -/
def chain (key : Block) : Block → List Block → List Block
  | _, [] => []
  | prev, b :: rest => let c := Aes.encipher key (b ^^^ prev); c :: chain key c rest

/-- The ciphertext of a padded content, from a zero starting block (R118). -/
def ciphertext (key : Block) (bytes : List Byte) : List Byte :=
  (chain key 0 (blocksOf bytes)).flatMap blockBytes

/-! ## The check -/

/-- A subkey from the block before it: shifted left by one, combined with 135 when the bit shifted out
was 1 (R119, step 1). -/
def subkey (b : Block) : Block :=
  if b.getMsbD 0 then (b <<< 1) ^^^ 0x87 else b <<< 1

/-- The second subkey of a check key (R119, step 1). -/
def secondSubkey (key : Block) : Block :=
  subkey (subkey (Aes.encipher key 0))

/-- The blocks the check runs over: the last, short one is filled with one byte of value 128 and zeros
and combined with the second subkey (R119, step 2; R120). -/
def checkBlocks (k2 : Block) : List (List Byte) → List Block
  | [] => []
  | [last] => [blockOf ((last ++ [0x80] ++ List.replicate 16 0).take 16) ^^^ k2]
  | p :: rest => blockOf p :: checkBlocks k2 rest

/-- The full code: the last enciphered block of the chain (R119, step 3). -/
def fullCode (key : Block) (bytes : List Byte) : Block :=
  ((chain key 0 (checkBlocks (secondSubkey key) (pieces bytes.length bytes))).getLast?).getD 0

/-- The 8-byte check: the first 8 bytes of the full code (R119, step 4). -/
def check64 (key : Block) (bytes : List Byte) : BitVec 64 :=
  (fullCode key bytes).extractLsb' 64 64

/-! ## The payload -/

/-- The 24-byte header (R119, R187). A capture carries its counter in both counter fields. -/
def header (job : Job) (w : WrapInputs) (cipherLength : Nat) : List Byte :=
  u8 job.payloadKind ++ u8 1 ++ bytesOf 4 w.chain.toNat ++ bytesOf 4 w.store.toNat ++
    u16 w.currency ++ u8 job.lane ++ u16 job.generation ++ u16 job.counter ++
    u16 w.captureCounter ++ u16 w.payment ++ u8 job.part ++ u8 w.card.entry.code ++
    u8 cipherLength

/-- The payload: header, ciphertext, check (R119, R187). -/
def payloadOf (job : Job) (w : WrapInputs) : List Byte :=
  let text := ciphertext (cipherKey job w) (padded (content job w))
  let body := header job w text.length ++ text
  body ++ bytesOf 8 (check64 (checkKey job w) body).toNat

/-! ## Unwrapping a period key -/

/-- The check input of a KEY UNWRAP: generation number, then the key block as received (R120). -/
def unwrapInput (generation : Nat) (block : Block) : List Byte :=
  u16 generation ++ blockBytes block

/-- The key check value: the first three bytes of sixteen zero bytes enciphered (R88, R120). -/
def checkValueOf (key : Block) : BitVec 24 :=
  (Aes.encipher key 0).extractLsb' 104 24

/-- The result of a KEY UNWRAP under the transport key: the period key and its check value when the check
matches, none when it does not (R120). -/
def unwrapResult (transportKey : Block) (generation : Nat) (block : Block) (check : BitVec 64) :
    Option (Block × BitVec 24) :=
  if check64 transportKey (unwrapInput generation block) = check then
    let key := Aes.decipher transportKey block
    some (key, checkValueOf key)
  else none

end Sys2Proof.Machine
end

