-- ==== Sys2Proof/Machine/Engine.lean ====
section
/-! DEFINITION. The wrap engine's job queue and service (Chapter 6), with the admission of WAITING
reversals at each automatic job's entry into service (R81, R108). -/

namespace Sys2Proof.Machine

/-! ## Follow-up entries -/

/-- A record with one follow-up entry changed. -/
def Record.modFollowUp (r : Record) (index : Nat) (f : FollowUp → FollowUp) : Record :=
  { r with followUps := r.followUps.modify index f }

/-- An entry FAILED, its counter kept; the record's Late mark set; the card block erased when the entry is
a REVERSAL (R86, R87). -/
def Record.failFollowUp (r : Record) (index : Nat) (kind : FollowUpKind) : Record :=
  { r.modFollowUp index fun e => { e with status := .failed } with
    late := true
    card := if kind = .reversal then none else r.card }

/-- The index of the record's WAITING entry. -/
def Record.waitingIndex (r : Record) : Nat :=
  r.followUps.findIdx fun e => decide (e.status = .waiting)

/-! ## Shares (R79, R81, R108) -/

/-- A job in the requested share (R79). -/
def Job.isRequested : Job → Bool
  | .followUp _ .requested .. => true
  | .followUp _ .automatic .. => false
  | .capture .. => false
  | .unwrap .. => false

/-- A job in the automatic share (R81). -/
def Job.isAutomatic : Job → Bool
  | .followUp _ .automatic .. => true
  | .followUp _ .requested .. => false
  | .capture .. => false
  | .unwrap .. => false

/-- The capture job of a record (R113). -/
def Job.isCaptureOf (h : Handle) : Job → Bool
  | .capture j .. => decide (j = h)
  | .followUp .. => false
  | .unwrap .. => false

namespace State

/-- Jobs held in the requested share (R79). -/
def requestedCount (s : State) : Nat :=
  (s.engine.queue.filter Job.isRequested).length

/-- Jobs held in the automatic share (R81). -/
def automaticCount (s : State) : Nat :=
  (s.engine.queue.filter Job.isAutomatic).length

/-- The state with the job queue replaced. -/
def setQueue (s : State) (queue : List Job) : State :=
  { s with engine := { s.engine with queue := queue } }

/-- The state with the service state replaced. -/
def setService (s : State) (service : Service) : State :=
  { s with engine := { s.engine with service := service } }

/-- The state with the set of WAITING reversals replaced (R81). -/
def setWaiting (s : State) (waiting : List Slot) : State :=
  { s with table := { s.table with waiting := waiting } }

/-! ## Entry into service (R110, R111) -/

/-- The period key of a generation (R103). -/
def periodKey? (s : State) (generation : Nat) : Option Block :=
  match s.entryOf generation with
  | some i => (s.entry i).material.map fun m => m.key
  | none => none

/-- The copies a capture or follow-up job works on, none when the record holds no card block (R82, R111). -/
def gatherWrap (s : State) (h : Handle) (generation : Nat) (amount : Record → Nat) : Option WrapInputs := do
  let r ← s.current? h
  let card ← r.card
  let c ← s.commission
  let key ← s.periodKey? generation
  let b ← r.binding
  pure
    { card := card, payment := r.payment, captureCounter := b.counter, amount := amount r
      chain := c.chain, store := c.store, currency := c.currency, key := key }

/-- The amount of a record's follow-up entry (R111). -/
def followUpAmount (index : Nat) (r : Record) : Nat :=
  match r.followUps[index]? with
  | some e => e.amount
  | none => 0

/-- The inputs a job gathers as it enters service (R111). -/
def gather (s : State) : Job → Option JobInputs
  | .capture h _ g _ => (s.gatherWrap h g fun r => r.current).map .wrap
  | .followUp _ _ h i _ g _ => (s.gatherWrap h g (followUpAmount i)).map .wrap
  | .unwrap .. => s.commission.map fun c => .unwrap c.transportKey

/-- A job that ends at once (R82, R111): the follow-up entry becomes FAILED. -/
def endAtOnce (s : State) : Job → State
  | .followUp kind _ h i .. => s.modRecord (slotOf h) fun r => r.failFollowUp i kind
  | .capture .. => s
  | .unwrap .. => s

/-- Admit a WAITING reversal that has its counter: the entry is WRAPPING with it and its job joins the tail
in the automatic share (R81, step 3). -/
def admitOne (s : State) (slot : Slot) (r : Record) (generation counter : Nat) : State :=
  let index := r.waitingIndex
  let s' := s.modRecord slot fun r =>
    r.modFollowUp index fun e => { e with status := .wrapping, counter := some counter }
  s'.setQueue (s'.engine.queue ++
    [.followUp .reversal .automatic (s'.handleOf slot) index r.lane generation counter])

/-- The admission of WAITING reversals, lowest slot first: it ends when a place has been taken or no entry
waits, and fails the entries whose counter is spent (R81). -/
def admitFrom : List Slot → State → State
  | [], s => s.setWaiting []
  | slot :: rest, s =>
    match s.recordAt slot with
    | none => admitFrom rest s
    | some r =>
      match r.binding with
      | none => admitFrom rest s
      | some b =>
        match s.takeCounter b.generation r.lane Config.counterSpent with
        | some (c, s') => (s'.admitOne slot r b.generation c).setWaiting rest
        | none =>
          admitFrom rest (s.modRecord slot fun r => r.failFollowUp r.waitingIndex .reversal)

/-- The engine's report of a freed automatic place (R108). -/
def admitWaiting (s : State) : State :=
  admitFrom s.table.waiting s

/-- The head of the queue enters service; a job that ends at once lets the next one in; an empty queue
leaves the engine IDLE (R110). The first argument bounds the jobs that may end at once. -/
def serveHead : Nat → State → State
  | 0, s => s
  | n + 1, s =>
    match s.engine.queue with
    | [] => s.setService .idle
    | job :: rest =>
      let left := s.setQueue rest
      let s' := if job.isAutomatic then left.admitWaiting else left
      match s'.gather job with
      | some inputs => s'.setService (.serving job inputs)
      | none => serveHead n (s'.endAtOnce job)

/-- The service position is empty and the supply NORMAL: serve from the head (R110). The bound is more than
the jobs that can leave: those queued, and those that admission can still place. -/
def serveNext (s : State) : State :=
  serveHead (s.engine.queue.length + s.table.waiting.length + 1) s

/-- A job placed joins the tail; an IDLE engine takes it at once under NORMAL supply (R109, R110). While
the supply state is LOW no job enters service (R114). -/
def placeJob (s : State) (job : Job) : State :=
  let s' := s.setQueue (s.engine.queue ++ [job])
  match s'.engine.service with
  | .idle => if s'.supply.state = .low then s'.setService .held else s'.serveNext
  | .held => s'
  | .serving .. => s'

/-- After a completion has been handled by its owner (R110, R112). -/
def afterJob (s : State) : State :=
  if s.supply.state = .low then s.setService .held else s.serveNext

/-- A supply change reaches the engine (R110, R114). -/
def engineSupply (s : State) : State :=
  match s.engine.service with
  | .serving .. => s
  | .idle => s.afterJob
  | .held => s.afterJob

/-- Empty the engine at erasure (R115). -/
def eraseEngine (s : State) : State :=
  { s with engine := { queue := [], service := if s.supply.state = .low then .held else .idle } }

end State

/-- A supply change reaches the wrap engine (R114). -/
def execEngineSupplyChange (s : State) : Host.Outcome State Fault Refusal :=
  .next (whenRunning State.engineSupply s)

end Sys2Proof.Machine
end

