-- ==== Sys2Proof/Machine/FollowUps.lean ====
section
/-! DEFINITION. Follow-up payloads (Chapter 4): ADJUST, VOID, COLLECT, the automatic reversal of a lapse,
and the completion of a follow-up job. -/

namespace Sys2Proof.Machine

/-! ## Adding an entry (R72) -/

/-- A follow-up entry without a payload (R72). -/
def newFollowUp (kind : FollowUpKind) (amount : Nat) (counter : Option Nat) (status : FollowUpStatus) :
    FollowUp :=
  { kind := kind, amount := amount, counter := counter, status := status, payload := none }

/-- A record with an entry appended (R72). -/
def Record.addFollowUp (r : Record) (f : FollowUp) : Record :=
  { r with followUps := r.followUps ++ [f] }

/-- The count of a record's ADJUST entries (R75). -/
def Record.adjustCount (r : Record) : Nat :=
  (r.followUps.filter fun f => f.kind = .adjust).length

/-- A request needs the card block and the record has none (R15). -/
def noCardStatus (r : Record) : Status :=
  if r.binding.isSome && !r.bound then .keysLost else .wrongState

/-- The totals of a lane and of the store in a response (R61, R63). -/
def totalsBytes (s : State) (l : LaneId) : List Byte :=
  u32 (s.book l).total ++ u32 s.table.storeTotal

/-- The response of an accepted ADJUST or VOID: index, counter, amount, and for a record that was DEFERRED
the totals (R76, R78). -/
def followUpReply (s : State) (l : LaneId) (wasDeferred : Bool) (index counter amount : Nat) : Reply :=
  .answer s .done <| List.flatten
    [u8 index, u16 counter, u32 amount,
      optional 8 (totalsBytes s) (if wasDeferred then some l else none)]

namespace State

/-- The lane counter of a record's capture generation, when it is below 65536 (R73). -/
def followUpCounter? (s : State) (r : Record) : Option (Nat × State) :=
  match r.binding with
  | some b => s.takeCounter b.generation r.lane Config.counterSpent
  | none => none

end State

/-- The generation number of a record's binding (R14). -/
def Record.captureGeneration (r : Record) : Nat :=
  match r.binding with
  | some b => b.generation
  | none => 0

/-! ## ADJUST (R74 to R76, R67) -/

/-- The adjust ceiling of a record (R74). -/
def adjustCeiling (cap original : Nat) : Nat :=
  min (original * (100 + cap) / 100) Config.amountMax

/-- The exposure check of an ADJUST of a DEFERRED record: the first ceiling the increase passes (R67). -/
def adjustExposure (s : State) (r : Record) (amount : Nat) : Option ExposureCheck :=
  if r.state = .deferred ∧ r.current < amount then
    if s.limits.laneCeiling < (s.book r.lane).total + (amount - r.current) then some .laneCeiling
    else if s.limits.storeCeiling < s.table.storeTotal + (amount - r.current) then some .storeCeiling
    else none
  else none

/-- An accepted ADJUST (R76): the entry, the current amount, the account of a DEFERRED record, the job.
The state given has had the counter taken. -/
def acceptAdjust (slot : Slot) (r : Record) (amount counter : Nat) (s : State) : Reply :=
  let index := r.followUps.length
  let deferred := decide (r.state = .deferred)
  let s1 := s.modRecord slot fun r =>
    { r.addFollowUp (newFollowUp .adjust amount (some counter) .wrapping) with current := amount }
  let s2 := if deferred then s1.changeAccount r.lane r.current amount else s1
  let s3 := s2.placeJob
    (.followUp .adjust .requested (s.handleOf slot) index r.lane r.captureGeneration counter)
  followUpReply s3 r.lane deferred index counter amount

/-- ADJUST (R75, R76, R67). -/
def adjust (h : Handle) (amount : Word) : State → Reply :=
  withRecord h fun slot r s =>
    if r.state = .lapsed then refuse s .tooLate
    else if r.state ≠ .approved ∧ r.state ≠ .deferred then refuse s .wrongState
    else if ¬ inRange 1 amount.toNat (adjustCeiling s.limits.adjustCap r.original) then refuse s .range
    else if 2 ≤ r.adjustCount then refuse s .wrongState
    else if r.card = none then refuse s (noCardStatus r)
    else if r.busy then refuse s .busyRecord
    else if Config.requestedShare ≤ s.requestedCount then refuse s .engineFull
    else
      match s.followUpCounter? r with
      | none => refuse s .keySpent
      | some (counter, s') =>
        match adjustExposure s r amount.toNat with
        | some check => .answer s .exposure (u8 check.code)
        | none => acceptAdjust slot r amount.toNat counter s'

/-- ADJUST (R75). -/
def execAdjust (tag : Byte) (handle : Handle) (amount : Word) (s : State) :
    Host.Outcome State Fault Refusal :=
  .next (takeRequest 8 tag (adjust handle amount) s)

/-! ## VOID (R77, R78, R68) -/

/-- An accepted VOID (R78): the entry, the state, the account of a DEFERRED record, the job. The state
given has had the counter taken. -/
def acceptVoid (slot : Slot) (r : Record) (counter : Nat) (s : State) : Reply :=
  let index := r.followUps.length
  let deferred := decide (r.state = .deferred)
  let s1 := s.modRecord slot fun r =>
    { r.addFollowUp (newFollowUp .reversal r.current (some counter) .wrapping) with
      state := .voided, stateTimer := none }
  let s2 := if deferred then s1.leaveAccount r.lane r.current else s1
  let s3 := s2.placeJob
    (.followUp .reversal .requested (s.handleOf slot) index r.lane r.captureGeneration counter)
  followUpReply s3 r.lane deferred index counter r.current

/-- VOID (R77, R78). -/
def voidPayment (h : Handle) : State → Reply :=
  withRecord h fun slot r s =>
    if r.state = .lapsed then refuse s .tooLate
    else if r.state ≠ .approved ∧ r.state ≠ .deferred then refuse s .wrongState
    else if r.card = none then refuse s (noCardStatus r)
    else if r.busy then refuse s .busyRecord
    else if Config.requestedShare ≤ s.requestedCount then refuse s .engineFull
    else
      match s.followUpCounter? r with
      | none => refuse s .keySpent
      | some (counter, s') => acceptVoid slot r counter s'

/-- VOID (R77). -/
def execVoid (tag : Byte) (handle : Handle) (s : State) : Host.Outcome State Fault Refusal :=
  .next (takeRequest 9 tag (voidPayment handle) s)

/-! ## COLLECT (R85) -/

/-- COLLECT (R85). -/
def collect (h : Handle) (index : Byte) : State → Reply :=
  withRecord h fun slot r s =>
    if 2 < index.toNat then refuse s .range
    else
      match r.followUps[index.toNat]? with
      | none => refuse s .notFound
      | some e =>
        if e.status = .ready then
          let payload := e.payload.getD []
          .answer
            (s.modRecord slot fun r => r.modFollowUp index.toNat fun e => { e with status := .collected })
            .done
            (List.flatten
              [u8 e.kind.code, u32 e.amount, u16 (e.counter.getD 0), u16 payload.length, payload])
        else refuse s .wrongState

/-- COLLECT (R85). -/
def execCollect (tag : Byte) (handle : Handle) (index : Byte) (s : State) :
    Host.Outcome State Fault Refusal :=
  .next (takeRequest 10 tag (collect handle index) s)

/-! ## Automatic reversals (R80) -/

namespace State

/-- A slot joins the WAITING set (R81). -/
def wait (s : State) (slot : Slot) : State :=
  s.setWaiting (insertBy (fun a b => decide (a < b)) slot s.table.waiting)

/-- Append an automatic REVERSAL entry that is created FAILED, with the Late mark and no card block (R80,
orders 1 and 2). -/
def failReversal (s : State) (slot : Slot) (r : Record) : State :=
  s.modRecord slot fun q =>
    { q.addFollowUp (newFollowUp .reversal r.current none .failed) with late := true, card := none }

/-- Append an automatic REVERSAL entry to a record that lapses (R80): created FAILED without a card block or
with a spent counter, WAITING while the automatic share is full, WRAPPING with a counter otherwise. -/
def automaticReversal (s : State) (slot : Slot) : State :=
  match s.recordAt slot with
  | none => s
  | some r =>
    if r.card = none then s.failReversal slot r
    else
      match s.followUpCounter? r with
      | none => s.failReversal slot r
      | some (counter, s') =>
        if Config.automaticShare ≤ s.automaticCount then
          (s.modRecord slot fun q =>
            q.addFollowUp (newFollowUp .reversal r.current none .waiting)).wait slot
        else
          (s'.modRecord slot fun q =>
            q.addFollowUp (newFollowUp .reversal r.current (some counter) .wrapping)).placeJob
            (.followUp .reversal .automatic (s.handleOf slot) r.followUps.length r.lane
              r.captureGeneration counter)

end State

/-! ## Completion (R83) -/

/-- The payload of a completed follow-up is stored and the entry becomes READY; a REVERSAL's completion
erases the card block (R83, R87). -/
def Record.completeFollowUp (r : Record) (index : Nat) (kind : FollowUpKind) (payload : List Byte) :
    Record :=
  { r.modFollowUp index fun e => { e with status := .ready, payload := some payload } with
    card := if kind = .reversal then none else r.card }

/-- The follow-up job in service completes (R83, R112). With no such job in service there is no
completion (log entry 3). -/
def followUpCompletion (s : State) : State :=
  match s.engine.service with
  | .serving (.followUp kind share h i l g c) (.wrap w) =>
    (s.modRecord (slotOf h) fun r =>
      r.completeFollowUp i kind (payloadOf (.followUp kind share h i l g c) w)).afterJob
  | .serving (.followUp ..) (.unwrap ..) => s
  | .serving (.capture ..) _ => s
  | .serving (.unwrap ..) _ => s
  | .idle => s
  | .held => s

/-- The follow-up job in service completes (R83). -/
def execFollowUpCompletion (s : State) : Host.Outcome State Fault Refusal :=
  .next (whenRunning followUpCompletion s)

end Sys2Proof.Machine
end

