-- ==== Sys2Proof/Machine/Exposure.lean ====
section
/-! DEFINITION. Deferred approvals and exposure (Chapter 3): CONFIRM, REJECT, SET LIMITS, EXPOSURE READ. -/

namespace Sys2Proof.Machine

/-! ## CONFIRM and REJECT (R62 to R64) -/

namespace State

/-- A DEFERRED record leaves the account and takes another state, its deferred-life timer stopped (R62). -/
def leaveDeferred (s : State) (slot : Slot) (r : Record) (f : Record → Record) : State :=
  (s.leaveAccount r.lane r.current).modRecord slot fun q => { f q with stateTimer := none }

end State

/-- CONFIRM's new approval code, when its presence indication is in range: absent, or present with its
characters in range (R63, R183; log entry 11). -/
def confirmCode (present : Byte) (code : Code6) : Option (Option Code6) :=
  match yesNoOf present with
  | some true => if codeInRange code then some (some code) else none
  | some false => some none
  | none => none

/-- A record CONFIRMED (R63): a new approval code replaces the stored one, the result stays. -/
def Record.confirm (code : Option Code6) (r : Record) : Record :=
  { r with
    state := .approved
    outcome := r.outcome.map fun o =>
      match code with
      | some c => { o with approval := some c }
      | none => o }

/-- CONFIRM (R63). -/
def confirm (h : Handle) (present : Byte) (code : Code6) : State → Reply :=
  withRecord h fun slot r s =>
    match confirmCode present code with
    | none => refuse s .range
    | some new =>
      if r.state = .lapsed then refuse s .tooLate
      else if r.state ≠ .deferred then refuse s .wrongState
      else
        let s' := s.leaveDeferred slot r (Record.confirm new)
        .answer s' .done (totalsBytes s' r.lane)

/-- CONFIRM (R63). -/
def execConfirm (tag : Byte) (handle : Handle) (present : Byte) (code : Code6) (s : State) :
    Host.Outcome State Fault Refusal :=
  .next (takeRequest 6 tag (confirm handle present code) s)

/-- A record REJECTED: its card block erased (R64). -/
def Record.rejectPayment (r : Record) : Record :=
  { r with state := .rejected, card := none }

/-- REJECT (R64). -/
def reject (h : Handle) : State → Reply :=
  withRecord h fun slot r s =>
    if r.state = .lapsed then refuse s .tooLate
    else if r.state ≠ .deferred then refuse s .wrongState
    else if r.followUps.any fun f => f.status = .wrapping then refuse s .busyRecord
    else
      let s' := s.leaveDeferred slot r Record.rejectPayment
      .answer s' .done (totalsBytes s' r.lane)

/-- REJECT (R64). -/
def execReject (tag : Byte) (handle : Handle) (s : State) : Host.Outcome State Fault Refusal :=
  .next (takeRequest 7 tag (reject handle) s)

/-! ## SET LIMITS (R69, R9) -/

/-- One limit of a SET LIMITS: absent keeps the value in force, present replaces it within its range; none
is out of range (R69). -/
def limitOf (o : OptWord) (current low high : Nat) : Option Nat :=
  match yesNoOf o.present with
  | some false => some current
  | some true => if inRange low o.value.toNat high then some o.value.toNat else none
  | none => none

/-- The eight limits after a SET LIMITS, none when a present value is outside its range (R69). -/
def limitsOf (fields : Vector OptWord 8) (c : Limits) : Option Limits := do
  let floor ← limitOf fields[0] c.floor 0 Config.amountMax
  let laneCeiling ← limitOf fields[1] c.laneCeiling 0 Config.totalMax
  let storeCeiling ← limitOf fields[2] c.storeCeiling 0 Config.totalMax
  let adjustCap ← limitOf fields[3] c.adjustCap 0 50
  let reserve ← limitOf fields[4] c.reserve 16 4096
  let warning ← limitOf fields[5] c.warning 1 65535
  let lowMark ← limitOf fields[6] c.lowMark 0 2047
  let share ← limitOf fields[7] c.share 1 2048
  pure
    { floor := floor, laneCeiling := laneCeiling, storeCeiling := storeCeiling, adjustCap := adjustCap
      reserve := reserve, warning := warning, lowMark := lowMark, share := share }

/-- The eight values in a response (R69). -/
def limitsBytes (c : Limits) : List Byte :=
  List.flatten
    [u32 c.floor, u32 c.laneCeiling, u32 c.storeCeiling, u32 c.adjustCap, u32 c.reserve, u32 c.warning,
      u32 c.lowMark, u32 c.share]

namespace State

/-- The low-mark indicator after a SET LIMITS with a low mark (R9). -/
def applyLowMark (s : State) : State :=
  if s.limits.lowMark < s.freeCount then { s with table := { s.table with lowMarkArmed := true } }
  else if s.table.lowMarkArmed then
    { s with table := { s.table with lowMarkArmed := false } }.latchTable
  else s

end State

/-- SET LIMITS (R69): a low mark present is applied to the free count at once. -/
def setLimits (fields : Vector OptWord 8) (s : State) : Reply :=
  match limitsOf fields s.limits with
  | none => refuse s .range
  | some c =>
    let s1 : State := { s with limits := c }
    let s2 := if fields[6].present = 1 then s1.applyLowMark else s1
    .answer s2 .done (limitsBytes c)

/-- SET LIMITS (R69). -/
def execSetLimits (tag : Byte) (fields : Vector OptWord 8) (s : State) :
    Host.Outcome State Fault Refusal :=
  .next (takeRequest 17 tag (setLimits fields) s)

/-! ## EXPOSURE READ (R71) -/

/-- EXPOSURE READ (R71). -/
def exposureRead (s : State) : Reply :=
  .answer s .done <| List.flatten
    [u32 s.table.storeTotal,
      (List.finRange 16).flatMap fun l => u32 (s.book l).total,
      (List.finRange 16).flatMap fun l => u16 (s.book l).count,
      u16 ((List.finRange 16).map fun l => (s.book l).count).sum,
      u32 s.limits.floor, u32 s.limits.laneCeiling, u32 s.limits.storeCeiling]

/-- EXPOSURE READ (R71). -/
def execExposureRead (tag : Byte) (s : State) : Host.Outcome State Fault Refusal :=
  .next (takeRequest 16 tag exposureRead s)

end Sys2Proof.Machine
end

