-- ==== Sys2Proof/Machine/KeyManager.lean ====
section
/-! DEFINITION. The key manager (Chapter 5): KEY LOAD and the completion of its unwrap, KEY ROLL, KEY DROP,
KEY STATUS. -/

namespace Sys2Proof.Machine

/-! ## KEY LOAD (R90 to R93) -/

/-- KEY LOAD's checks, in order; none when it is accepted for unwrapping (R90). -/
def keyLoadRefusal (generation : Half) (s : State) : Option Status :=
  if s.commission = none then some .notCommissioned
  else if generation = 0 then some .range
  else if caseLevel s.caseMon.lineA s.caseMon.lineB = .opened then some .caseOpen
  else if s.supply.state = .low then some .supplyLow
  else if generation.toNat ≤ s.keys.highest then some .genOrder
  else if (s.entryIn .pending).isSome then some .pendingExists
  else if s.entryIn .empty = none then some .keyTableFull
  else none

/-- KEY LOAD (R90): accepted, its job is placed and the port holds it in service. -/
def keyLoad (generation : Half) (block : Block) (check : BitVec 64) (s : State) : Reply :=
  match keyLoadRefusal generation s with
  | some status => refuse s status
  | none => .hold (s.placeJob (.unwrap generation.toNat block check))

/-- KEY LOAD (R90). -/
def execKeyLoad (tag : Byte) (generation : Half) (block : Block) (check : BitVec 64) (s : State) :
    Host.Outcome State Fault Refusal :=
  .next (takeRequest Config.keyLoadKind tag (keyLoad generation block check) s)

/-- A PENDING entry with a key just unwrapped (R92). -/
def KeyEntry.loaded (generation : Nat) (key : Block) (checkValue : BitVec 24) : KeyEntry :=
  { KeyEntry.vacant with
    state := .pending
    material := some { generation := generation, key := key, checkValue := checkValue } }

/-- Entry number, generation number and key check value in a response (R92, R94). The entry number takes one
byte (DESIGN CHOICE, log entry 9). -/
def entryBytes (i : Fin 4) (m : KeyMaterial) : List Byte :=
  List.flatten [u8 i.val, u16 m.generation, checkValueBytes m.checkValue]

/-- The key manager's handling of an unwrap's result (R92). With no entry EMPTY, which R91 rules out, no
key is stored and the status is the one of R90 (log entry 16). -/
def unwrapDone (generation : Nat) (result : Option (Block × BitVec 24)) (s : State) : State :=
  match result with
  | none => s.respondHeld .keyCheck []
  | some (key, checkValue) =>
    match s.entryIn .empty with
    | none => s.respondHeld .keyTableFull []
    | some i =>
      let s1 := s.setEntry i (KeyEntry.loaded generation key checkValue)
      let s2 : State := { s1 with keys := { s1.keys with highest := generation } }
      s2.respondHeld .done
        (entryBytes i { generation := generation, key := key, checkValue := checkValue })

/-- The key-unwrap job in service completes (R92, R112, R120). With no such job in service there is no
completion (log entry 3). -/
def keyUnwrapCompletion (s : State) : State :=
  match s.engine.service with
  | .serving (.unwrap g block check) (.unwrap transportKey) =>
    (unwrapDone g (unwrapResult transportKey g block check) s).afterJob
  | .serving (.unwrap ..) (.wrap _) => s
  | .serving (.capture ..) _ => s
  | .serving (.followUp ..) _ => s
  | .idle => s
  | .held => s

/-- The key-unwrap job in service completes (R92). -/
def execKeyUnwrapCompletion (s : State) : Host.Outcome State Fault Refusal :=
  .next (whenRunning keyUnwrapCompletion s)

/-! ## KEY ROLL (R94) -/

namespace State

/-- The earlier ACTIVE entry turned away: DRAINING while records are bound to it, otherwise EMPTY with
"generation drained" latched (R94, steps 2 and 3). -/
def turnAway (s : State) (i : Fin 4) : State :=
  let e := s.entry i
  if 0 < e.bindings then s.setEntry i { e with state := .draining }
  else
    match e.material with
    | some m => (s.setEntry i KeyEntry.vacant).latchDrained m.generation
    | none => s.setEntry i KeyEntry.vacant

end State

/-- The earlier ACTIVE entry in KEY ROLL's response: its generation number, and whether it is now DRAINING
or EMPTY (R94). -/
def turnedAwayBytes (before after : KeyEntry) : List Byte :=
  u16 (match before.material with
    | some m => m.generation
    | none => 0) ++ u8 after.state.code

/-- KEY ROLL (R94). -/
def keyRoll (s : State) : Reply :=
  if s.commission = none then refuse s .notCommissioned
  else
    match s.entryIn .pending with
    | none => refuse s .noPending
    | some p =>
      let m := (s.entry p).material.getD { generation := 0, key := 0, checkValue := 0 }
      match s.entryIn .active with
      | none =>
        .answer (s.setEntry p { s.entry p with state := .active }) .done
          (entryBytes p m ++ List.replicate 4 0)
      | some a =>
        let s1 := s.turnAway a
        .answer (s1.setEntry p { s1.entry p with state := .active }) .done
          (entryBytes p m ++ 1 :: turnedAwayBytes (s.entry a) (s1.entry a))

/-- KEY ROLL (R94). -/
def execKeyRoll (tag : Byte) (s : State) : Host.Outcome State Fault Refusal :=
  .next (takeRequest 20 tag keyRoll s)

/-! ## KEY DROP (R96) -/

/-- KEY DROP (R96). The entry number of the response takes one byte (DESIGN CHOICE, log entry 9). -/
def keyDrop (generation : Half) (s : State) : Reply :=
  if generation = 0 then refuse s .range
  else
    match s.entryOf generation.toNat with
    | none => refuse s .notFound
    | some i =>
      if (s.entry i).state = .pending then .answer (s.setEntry i KeyEntry.vacant) .done (u8 i.val)
      else refuse s .wrongState

/-- KEY DROP (R96). -/
def execKeyDrop (tag : Byte) (generation : Half) (s : State) : Host.Outcome State Fault Refusal :=
  .next (takeRequest 21 tag (keyDrop generation) s)

/-! ## KEY STATUS (R104) -/

/-- One entry in KEY STATUS (R104). -/
def entryStatusBytes (e : KeyEntry) : List Byte :=
  List.flatten
    [u8 e.state.code, optional 2 (fun m => u16 (KeyMaterial.generation m)) e.material,
      optional 3 (fun m => checkValueBytes (KeyMaterial.checkValue m)) e.material, u16 e.bindings]

/-- One lane's counter in each entry, entry 0 first (R104). -/
def laneCounterBytes (s : State) (l : LaneId) : List Byte :=
  (List.finRange 4).flatMap fun i => u32 (look (s.entry i).counters l)

/-- The body of KEY STATUS: the table, and one lane's counters when a lane is given (R104). -/
def keyStatusBytes (s : State) (lane : Option LaneId) : List Byte :=
  List.flatten
    [u16 s.keys.highest, u32 s.captureLimit, u32 s.limits.warning,
      (List.finRange 4).flatMap fun i => entryStatusBytes (s.entry i),
      optional 16 (laneCounterBytes s) lane]

/-- KEY STATUS (R104). -/
def keyStatus (present lane : Byte) (s : State) : Reply :=
  match yesNoOf present with
  | some true =>
    match laneOf lane with
    | some l => .answer s .done (keyStatusBytes s (some l))
    | none => refuse s .range
  | some false => .answer s .done (keyStatusBytes s none)
  | none => refuse s .range

/-- KEY STATUS (R104). -/
def execKeyStatus (tag present lane : Byte) (s : State) : Host.Outcome State Fault Refusal :=
  .next (takeRequest 22 tag (keyStatus present lane) s)

end Sys2Proof.Machine
end

