-- ==== Sys2Proof/Machine/RequestFrames.lean ====
section
/-! DEFINITION. Store request frames (R183, R184, Table 12-1): the kind, tag and body of each request, in
both directions, and the port's checks of a received frame (R170). -/

namespace Sys2Proof.Machine

/-! ## Reading fields -/

/-- A byte of a request body. -/
def bodyByte (b : List Byte) (i : Nat) : Byte :=
  b.getD i 0

/-- The number in n bytes of a request body. -/
def bodyNumber (b : List Byte) (i n : Nat) : Nat :=
  numberOf ((b.drop i).take n)

/-- A two-byte field of a request body. -/
def bodyHalf (b : List Byte) (i : Nat) : Half :=
  BitVec.ofNat 16 (bodyNumber b i 2)

/-- A four-byte field of a request body. -/
def bodyWord (b : List Byte) (i : Nat) : Word :=
  BitVec.ofNat 32 (bodyNumber b i 4)

/-- An approval code of a request body. -/
def bodyCode (b : List Byte) (i : Nat) : Code6 :=
  BitVec.ofNat 48 (bodyNumber b i 6)

/-- A 16-byte key block of a request body. -/
def bodyBlock (b : List Byte) (i : Nat) : Block :=
  BitVec.ofNat 128 (bodyNumber b i 16)

/-- The eight pairs of SET LIMITS (R184). -/
def bodyLimits (b : List Byte) : Vector OptWord 8 :=
  tabulate fun i => { present := bodyByte b (5 * i.val), value := bodyWord b (5 * i.val + 1) }

/-- The sixteen settings of LANE SETUP, behind its lane (R184). -/
def bodySettings (b : List Byte) : Vector OptByte 16 :=
  tabulate fun i => { present := bodyByte b (2 * i.val + 1), value := bodyByte b (2 * i.val + 2) }

/-! ## Table 12-1 -/

/-- The body length of a request kind; none for a kind that is not one of the thirty-three (R170, R184). -/
def requestLength (kind : Byte) : Option Nat :=
  match kind.toNat with
  | 1 => some 9 | 2 => some 2 | 3 => some 2 | 4 => some 2 | 5 => some 10 | 6 => some 9 | 7 => some 2
  | 8 => some 6 | 9 => some 2 | 10 => some 3 | 11 => some 2 | 12 => some 2 | 13 => some 8
  | 14 => some 3 | 15 => some 0 | 16 => some 0 | 17 => some 40 | 18 => some 8 | 19 => some 26
  | 20 => some 0 | 21 => some 2 | 22 => some 2 | 23 => some 1 | 24 => some 1 | 25 => some 33
  | 26 => some 1 | 27 => some 1 | 28 => some 0 | 29 => some 3 | 30 => some 0 | 31 => some 0
  | 32 => some 30 | 33 => some 0
  | _ => none

/-- The request of a kind, a tag and a body of the kind's length (R183, Table 12-1). -/
def requestOf (kind tag : Byte) (b : List Byte) : Option Instr :=
  match kind.toNat with
  | 1 => some (.arm tag (bodyByte b 0) (bodyWord b 1) (bodyWord b 5))
  | 2 => some (.abandon tag (bodyHalf b 0))
  | 3 => some (.take tag (bodyHalf b 0))
  | 4 => some (.peek tag (bodyHalf b 0))
  | 5 => some (.settle tag (bodyHalf b 0) (bodyByte b 2) (bodyCode b 3) (bodyByte b 9))
  | 6 => some (.confirm tag (bodyHalf b 0) (bodyByte b 2) (bodyCode b 3))
  | 7 => some (.reject tag (bodyHalf b 0))
  | 8 => some (.adjust tag (bodyHalf b 0) (bodyWord b 2))
  | 9 => some (.void tag (bodyHalf b 0))
  | 10 => some (.collect tag (bodyHalf b 0) (bodyByte b 2))
  | 11 => some (.retire tag (bodyHalf b 0))
  | 12 => some (.readRecord tag (bodyHalf b 0))
  | 13 => some (.find tag (bodyByte b 0) (bodyByte b 1) (bodyHalf b 2) (bodyWord b 4))
  | 14 => some (.laneList tag (bodyByte b 0) (bodyHalf b 1))
  | 15 => some (.tableStatus tag)
  | 16 => some (.exposureRead tag)
  | 17 => some (.setLimits tag (bodyLimits b))
  | 18 => some (.setTimers tag (bodyHalf b 0) (bodyHalf b 2) (bodyByte b 4) (bodyByte b 5)
      (bodyByte b 6) (bodyByte b 7))
  | 19 => some (.keyLoad tag (bodyHalf b 0) (bodyBlock b 2) (BitVec.ofNat 64 (bodyNumber b 18 8)))
  | 20 => some (.keyRoll tag)
  | 21 => some (.keyDrop tag (bodyHalf b 0))
  | 22 => some (.keyStatus tag (bodyByte b 0) (bodyByte b 1))
  | 23 => some (.laneHold tag (bodyByte b 0))
  | 24 => some (.laneOpen tag (bodyByte b 0))
  | 25 => some (.laneSetup tag (bodyByte b 0) (bodySettings b))
  | 26 => some (.laneStatus tag (bodyByte b 0))
  | 27 => some (.laneClear tag (bodyByte b 0))
  | 28 => some (.nextAttention tag)
  | 29 => some (.attentionMask tag (bodyByte b 0) (bodyHalf b 1))
  | 30 => some (.caseRead tag)
  | 31 => some (.startRead tag)
  | 32 => some (.commission tag (bodyWord b 0) (bodyWord b 4) (bodyHalf b 8) (bodyByte b 10)
      (bodyBlock b 11) (bodyByte b 27) (bodyByte b 28) (bodyByte b 29))
  | 33 => some (.restart tag)
  | _ => none

/-- The bytes of a bit field of whole bytes. -/
def wide (n : Nat) {w : Nat} (x : BitVec w) : List Byte :=
  bytesOf n x.toNat

/-- The pairs of SET LIMITS (R184). -/
def limitsBody (fields : Vector OptWord 8) : List Byte :=
  fields.toList.flatMap fun o => o.present :: wide 4 o.value

/-- The pairs of LANE SETUP (R184). -/
def settingsBody (settings : Vector OptByte 16) : List Byte :=
  settings.toList.flatMap fun o => [o.present, o.value]

/-- A request's kind, tag and body (R183, Table 12-1); none for an event. -/
def requestParts : Instr → Option (Byte × Byte × List Byte)
  | .arm tag lane amount till => some (1, tag, [lane] ++ wide 4 amount ++ wide 4 till)
  | .abandon tag h => some (2, tag, wide 2 h)
  | .take tag h => some (3, tag, wide 2 h)
  | .peek tag h => some (4, tag, wide 2 h)
  | .settle tag h result approval decline =>
    some (5, tag, wide 2 h ++ [result] ++ wide 6 approval ++ [decline])
  | .confirm tag h present code => some (6, tag, wide 2 h ++ [present] ++ wide 6 code)
  | .reject tag h => some (7, tag, wide 2 h)
  | .adjust tag h amount => some (8, tag, wide 2 h ++ wide 4 amount)
  | .void tag h => some (9, tag, wide 2 h)
  | .collect tag h index => some (10, tag, wide 2 h ++ [index])
  | .retire tag h => some (11, tag, wide 2 h)
  | .readRecord tag h => some (12, tag, wide 2 h)
  | .find tag form lane payment till => some (13, tag, [form, lane] ++ wide 2 payment ++ wide 4 till)
  | .laneList tag lane start => some (14, tag, [lane] ++ wide 2 start)
  | .tableStatus tag => some (15, tag, [])
  | .exposureRead tag => some (16, tag, [])
  | .setLimits tag fields => some (17, tag, limitsBody fields)
  | .setTimers tag present outcome delivery life a b =>
    some (18, tag, wide 2 present ++ wide 2 outcome ++ [delivery, life, a, b])
  | .keyLoad tag generation block check =>
    some (19, tag, wide 2 generation ++ wide 16 block ++ wide 8 check)
  | .keyRoll tag => some (20, tag, [])
  | .keyDrop tag generation => some (21, tag, wide 2 generation)
  | .keyStatus tag present lane => some (22, tag, [present, lane])
  | .laneHold tag lane => some (23, tag, [lane])
  | .laneOpen tag lane => some (24, tag, [lane])
  | .laneSetup tag lane settings => some (25, tag, [lane] ++ settingsBody settings)
  | .laneStatus tag lane => some (26, tag, [lane])
  | .laneClear tag lane => some (27, tag, [lane])
  | .nextAttention tag => some (28, tag, [])
  | .attentionMask tag classes lanes => some (29, tag, [classes] ++ wide 2 lanes)
  | .caseRead tag => some (30, tag, [])
  | .startRead tag => some (31, tag, [])
  | .commission tag chain store currency exponent key fitted erasure level =>
    some (32, tag, wide 4 chain ++ wide 4 store ++ wide 2 currency ++ [exponent] ++ wide 16 key ++
      [fitted, erasure, level])
  | .restart tag => some (33, tag, [])
  | .requestFrameRefused _ | .requestDiscarded _ | .readTransaction _ | .storeTick
  | .presentTimerExpiry _ | .outcomeTimerExpiry _ | .deliveryTimerExpiry _ | .deferredLifeExpiry _
  | .captureCompletion | .followUpCompletion | .keyUnwrapCompletion | .lineCharacter .. | .lineBreak _
  | .gap _ | .assemblerTakeByte _ | .readerHello _ | .readerCard _ | .waitingCardDispatch _
  | .readerCancel _ | .readerAck _ | .badlyFormedFrame _ | .frameMoveToTransmitFifo _
  | .transmitCharacter _ | .holdInChange .. | .supplyBelowLevel _ | .supplyAboveRecoveryLevel _
  | .supplyBelowRecoveryLevel _ | .recoveryTimerExpiry | .engineSupplyChange | .caseLineChange ..
  | .powerApplied | .supplySettled _ | .resetAsserted | .resetReleased | .lineReturnToMark _ => none

/-! ## Frames (R170, R184) -/

/-- The bytes of a request frame its check runs over: kind, tag, length, body (R184). -/
def requestChecked (kind tag : Byte) (body : List Byte) : List Byte :=
  [kind, tag] ++ bytesOf 2 body.length ++ body

/-- The bytes on SDI for a request: start byte, frame, check (R184); none for an event. -/
def requestFrame (i : Instr) : Option (List Byte) :=
  match requestParts i with
  | some (kind, tag, body) =>
    some (Config.requestStartByte ::
      (requestChecked kind tag body ++ checkBytes (requestChecked kind tag body)))
  | none => none

/-- How the port judges a frame (R170). -/
inductive Verdict where
  | malformed (kind tag : Byte)
  | unknownRequest (kind tag : Byte)
  | passed (request : Instr)
  deriving DecidableEq, Repr

/-- The port's checks of the bytes behind the start byte, in the order of R170. -/
def judgeFrame (frame : List Byte) : Verdict :=
  let kind := bodyByte frame 0
  let tag := bodyByte frame 1
  let length := bodyNumber frame 2 2
  let checked := frame.take (length + 4)
  if Config.requestBodyMax < length ∨ frame.length < length + 6 then .malformed kind tag
  else if (frame.drop (length + 4)).take 2 ≠ checkBytes checked then .malformed kind tag
  else
    match requestLength kind with
    | none => .unknownRequest kind tag
    | some n =>
      if length = n then
        match requestOf kind tag (checked.drop 4) with
        | some i => .passed i
        | none => .unknownRequest kind tag
      else .malformed kind tag

end Sys2Proof.Machine
end

