-- ==== Sys2Proof/Machine/Payments.lean ====
section
/-! DEFINITION. The life of a payment (Chapter 2): ARM, ABANDON, TAKE, PEEK, SETTLE, SET TIMERS, the store
tick, the record timers, capture acceptance and capture completion; with the deferral of SETTLE (R60, R61)
and the deferred-life expiry (R65, R66). -/

namespace Sys2Proof.Machine

/-! ## ARM (R5, R27, R28) -/

/-- A new record at its allocation, ARMED with its present timer (R5, R28). -/
def newRecord (l : LaneId) (payment amount : Nat) (till : Word) (present : Nat) : Record :=
  { lane := l, payment := payment, till := till, state := .armed, original := amount, current := amount
    endReason := none, binding := none, bound := false, summary := none, card := none, payload := none
    outcome := none, delivery := { value := .none, kind := none, sequence := none }, followUps := []
    stateTimer := some { remaining := present, action := none }, deliveryTimer := none
    cancelPending := none, late := false, ended := false }

/-- The payment number after one, 65535 followed by 1 (R11). -/
def nextPaymentAfter (n : Nat) : Nat :=
  if n = 65535 then 1 else n + 1

namespace State

/-- Examine the table low mark after the free count has fallen (R9). -/
def examineLowMark (s : State) : State :=
  if s.freeCount ≤ s.limits.lowMark ∧ s.table.lowMarkArmed then
    { s with table := { s.table with lowMarkArmed := false } }.latchTable
  else s

/-- Allocation of the slot at the head of the free list (R5). -/
def allocate (s : State) (l : LaneId) (slot : Slot) (rest : List Slot) (amount : Nat) (till : Word) :
    State :=
  let tag := (s.cell slot).tag + 1
  let s1 : State := { s with table := { s.table with free := rest } }
  let s2 := s1.setCell slot
    { tag := tag, record := some (newRecord l (s.book l).nextPayment amount till s.timers.present) }
  let s3 := s2.modBook l fun b =>
    { b with
      list := b.list ++ [slot], engaged := some (handleAt tag slot)
      nextPayment := nextPaymentAfter b.nextPayment }
  s3.examineLowMark

end State

/-- An ARM that passes every check (R28): allocation, the part PRESENT, the response. -/
def acceptArm (c : Commissioning) (l : LaneId) (slot : Slot) (rest : List Slot) (amount : Nat) (till : Word)
    (s : State) : Reply :=
  let payment := (s.book l).nextPayment
  let s' := (s.allocate l slot rest amount till).offer l (.present payment amount c.exponent)
  .answer s' .done (u16 (s'.handleOf slot).toNat ++ u16 payment)

/-- ARM (R27, R28). -/
def arm (lane : Byte) (amount till : Word) (s : State) : Reply :=
  match s.commission with
  | none => refuse s .notCommissioned
  | some c =>
    match laneOf lane with
    | none => refuse s .range
    | some l =>
      if ¬ inRange 1 amount.toNat Config.amountMax then refuse s .range
      else if (s.lane l).mode ≠ .ready then refuse s .laneNotReady
      else if s.supply.state = .low then refuse s .supplyLow
      else if (s.book l).engaged ≠ none then refuse s .laneEngaged
      else
        match s.entryIn .active with
        | none => refuse s .keyMissing
        | some i =>
          if s.captureLimit ≤ look (s.entry i).counters l then refuse s .keySpent
          else if s.limits.share ≤ (s.book l).list.length then refuse s .laneShare
          else
            match s.table.free with
            | [] => refuse s .tableFull
            | slot :: rest => acceptArm c l slot rest amount.toNat till s

/-- ARM (R27). -/
def execArm (tag lane : Byte) (amount till : Word) (s : State) : Host.Outcome State Fault Refusal :=
  .next (takeRequest 1 tag (arm lane amount till) s)

/-! ## Cancellation (R38 to R40) -/

/-- The end reason of a cancellation (R38). -/
def CancelReason.endReason : CancelReason → EndReason
  | .reader => .reader
  | .abandoned => .abandoned

/-- The CLOSE reason of a cancellation (R44). -/
def CancelReason.closeReason : CancelReason → CloseReason
  | .reader => .reader
  | .abandoned => .abandoned

/-- A record made CANCELLED by a cancellation: present timer stopped, payload discarded, card block erased;
the Ended mark set for READER only (R34, R38 to R40, R56). -/
def Record.cancel (reason : CancelReason) (r : Record) : Record :=
  { r with
    state := .cancelled, endReason := some reason.endReason, stateTimer := none, cancelPending := none
    payload := none, card := none, ended := r.ended || decide (reason = .reader) }

namespace State

/-- A record becomes CANCELLED with its CLOSE queued (R38 to R40). -/
def cancelNow (s : State) (slot : Slot) (reason : CancelReason) : State :=
  (s.modRecord slot (Record.cancel reason)).queueClose slot reason.closeReason

/-- The engine removes a record's capture job from its queue (R113). -/
def withdrawCapture (s : State) (h : Handle) : State :=
  s.setQueue (s.engine.queue.eraseP (Job.isCaptureOf h))

/-- A cancellation that reaches a CAPTURING record with no cancel pending (R38): the queued job is removed
and the record ends at once; a job in service is left, and the cancel is pending. -/
def cancelCapturing (s : State) (slot : Slot) (reason : CancelReason) : State :=
  let h := s.handleOf slot
  if s.engine.queue.any (Job.isCaptureOf h) then (s.withdrawCapture h).cancelNow slot reason
  else s.modRecord slot fun r => { r with cancelPending := some reason }

end State

/-- What a cancellation does to an ARMED, CAPTURING or WRAPPED record; none in any other state (R39, R40). -/
def cancellation (reason : CancelReason) (slot : Slot) (r : Record) (s : State) : Option State :=
  match r.state with
  | .armed => some (s.cancelNow slot reason)
  | .wrapped => some (s.cancelNow slot reason)
  | .capturing => some (if r.cancelPending = none then s.cancelCapturing slot reason else s)
  | .released | .approved | .declined | .deferred | .rejected | .voided | .lapsed | .cancelled
  | .failed => none

/-- The record's state and its cancel pending, as ABANDON reports them (R39). -/
def abandonBytes (r : Record) : List Byte :=
  u8 r.state.code ++ optional 1 (fun c => u8 (CancelReason.code c)) r.cancelPending

/-- The bytes of the record of a slot, none when the slot is free. -/
def bytesAt (s : State) (slot : Slot) (f : Record → List Byte) : List Byte :=
  match s.recordAt slot with
  | some r => f r
  | none => []

/-- ABANDON (R39). -/
def abandon (h : Handle) : State → Reply :=
  withRecord h fun slot r s =>
    match cancellation .abandoned slot r s with
    | some s' => .answer s' .done (bytesAt s' slot abandonBytes)
    | none => refuse s .wrongState

/-- ABANDON (R39). -/
def execAbandon (tag : Byte) (handle : Handle) (s : State) : Host.Outcome State Fault Refusal :=
  .next (takeRequest 2 tag (abandon handle) s)

/-! ## TAKE and PEEK (R35, R36) -/

/-- A payload in a response: its length, then its bytes (R35, R36). -/
def payloadBytes (payload : List Byte) : List Byte :=
  u16 payload.length ++ payload

/-- TAKE (R35). -/
def takePayload (h : Handle) : State → Reply :=
  withRecord h fun slot r s =>
    if r.state = .wrapped then
      .answer
        (s.modRecord slot fun r =>
          { r with
            state := .released
            stateTimer := some { remaining := s.timers.outcome, action := some s.timers.outcomeAction } })
        .done (payloadBytes (r.payload.getD []))
    else refuse s .wrongState

/-- TAKE (R35). -/
def execTake (tag : Byte) (handle : Handle) (s : State) : Host.Outcome State Fault Refusal :=
  .next (takeRequest 3 tag (takePayload handle) s)

/-- PEEK (R36). -/
def peek (h : Handle) : State → Reply :=
  withRecord h fun _ r s =>
    match r.payload with
    | some payload => .answer s .done (payloadBytes payload)
    | none => refuse s .wrongState

/-- PEEK (R36). -/
def execPeek (tag : Byte) (handle : Handle) (s : State) : Host.Outcome State Fault Refusal :=
  .next (takeRequest 4 tag (peek handle) s)

/-! ## SETTLE (R41, R42, R60, R61) -/

/-- The delivery value of a record in a response (R42). -/
def deliveryByte (s : State) (slot : Slot) : List Byte :=
  bytesAt s slot fun r => u8 r.delivery.value.code

/-- SETTLE's field checks (R41, order 2). -/
def settleInRange (result : SettleResult) (approval : Code6) (decline : Byte) : Bool :=
  match result with
  | .approve => codeInRange approval
  | .defer => codeInRange approval
  | .decline => decide (decline.toNat ≤ 99)

/-- A RELEASED record settled: outcome stored, timer stopped, Late cleared, the new state; DECLINED erases
the card block (R42, R61). -/
def Record.settle (r : Record) (o : PostedOutcome) (state : PaymentState) : Record :=
  { r with
    state := state, outcome := some o, stateTimer := none, late := false
    card := if state = .declined then none else r.card }

/-- SETTLE with APPROVE or DECLINE, past its checks (R42). -/
def settleOnline (slot : Slot) (o : PostedOutcome) (state : PaymentState) (s : State) : Reply :=
  let s' := (s.modRecord slot fun r => r.settle o state).queueOutcome slot o.approval
  .answer s' .done (deliveryByte s' slot)

/-- The first failing exposure check of a DEFER (R60). -/
def deferExposure (s : State) (r : Record) : Option ExposureCheck :=
  if s.limits.floor = 0 ∨ s.limits.floor < r.current then some .floor
  else if s.limits.laneCeiling < (s.book r.lane).total + r.current then some .laneCeiling
  else if s.limits.storeCeiling < s.table.storeTotal + r.current then some .storeCeiling
  else none

/-- An accepted DEFER (R61). -/
def acceptDefer (slot : Slot) (r : Record) (approval : Code6) (s : State) : Reply :=
  let o : PostedOutcome := { result := .defer, approval := some approval, decline := none }
  let timer : StateTimer :=
    { remaining := s.timers.life * Config.hourSeconds, action := some s.timers.deferredAction }
  let s1 := s.modRecord slot fun r => { r.settle o .deferred with stateTimer := some timer }
  let s2 := (s1.enterAccount r.lane r.current).queueOutcome slot (some approval)
  .answer s2 .done (deliveryByte s2 slot ++ totalsBytes s2 r.lane)

/-- SETTLE (R41, R42, R60, R61). -/
def settle (h : Handle) (result : Byte) (approval : Code6) (decline : Byte) : State → Reply :=
  withRecord h fun slot r s =>
    match resultOf result with
    | none => refuse s .range
    | some res =>
      if ¬ settleInRange res approval decline then refuse s .range
      else if r.state = .lapsed then refuse s .tooLate
      else if r.state ≠ .released then refuse s .wrongState
      else
        match res with
        | .approve =>
          settleOnline slot { result := .approve, approval := some approval, decline := none } .approved s
        | .decline =>
          settleOnline slot { result := .decline, approval := none, decline := some decline } .declined s
        | .defer =>
          match deferExposure s r with
          | some check => .answer s .exposure (u8 check.code)
          | none => acceptDefer slot r approval s

/-- SETTLE (R41). -/
def execSettle (tag : Byte) (handle : Handle) (result : Byte) (approval : Code6) (decline : Byte)
    (s : State) : Host.Outcome State Fault Refusal :=
  .next (takeRequest 5 tag (settle handle result approval decline) s)

/-! ## SET TIMERS and the store tick (R49, R50) -/

/-- The six values in force in a response (R50). -/
def timersBytes (t : TimerSettings) : List Byte :=
  List.flatten
    [u16 t.present, u16 t.outcome, u8 t.delivery, u8 t.life, u8 t.outcomeAction.code,
      u8 t.deferredAction.code]

/-- The settings SET TIMERS carries, none when a value is outside its range (R50). -/
def timersOf (present outcome : Half) (delivery life outcomeAction deferredAction : Byte) :
    Option TimerSettings :=
  match actionOf outcomeAction, actionOf deferredAction with
  | some a, some b =>
    if inRange 10 present.toNat 900 && inRange 10 outcome.toNat 900 && inRange 2 delivery.toNat 120 &&
        inRange 1 life.toNat 168 then
      some
        { present := present.toNat, outcome := outcome.toNat, delivery := delivery.toNat
          life := life.toNat, outcomeAction := a, deferredAction := b }
    else none
  | _, _ => none

/-- SET TIMERS (R50): the new values apply to timers started afterwards. -/
def setTimers (present outcome : Half) (delivery life outcomeAction deferredAction : Byte) (s : State) :
    Reply :=
  match timersOf present outcome delivery life outcomeAction deferredAction with
  | some t => .answer { s with timers := t } .done (timersBytes t)
  | none => refuse s .range

/-- SET TIMERS (R50). -/
def execSetTimers (tag : Byte) (present outcome : Half)
    (delivery life outcomeAction deferredAction : Byte) (s : State) : Host.Outcome State Fault Refusal :=
  .next
    (takeRequest 18 tag (setTimers present outcome delivery life outcomeAction deferredAction) s)

/-- A record at a tick: its running timers lowered by one (R49). -/
def Record.tick (r : Record) : Record :=
  { r with
    stateTimer := r.stateTimer.map fun t => { t with remaining := t.remaining - 1 }
    deliveryTimer := r.deliveryTimer.map fun n => n - 1 }

/-- The one-second tick (R49). The expiry of a timer that has reached 0 is an event of its own, at its
record (log entry 5). -/
def execStoreTick (s : State) : Host.Outcome State Fault Refusal :=
  .next (whenRunning (fun s => s.mapRecords Record.tick) s)

/-! ## Expiries (R47, R51 to R53, R65, R66) -/

/-- The record's state timer has expired (R49). -/
def Record.stateTimerDue (r : Record) : Bool :=
  match r.stateTimer with
  | some t => decide (t.remaining = 0)
  | none => false

/-- The action the state timer carries (R50). -/
def Record.timerAction (r : Record) : Option TimerAction :=
  r.stateTimer.bind fun t => t.action

/-- The present timer of an ARMED record expires (R51). -/
def presentExpiry (slot : Slot) (s : State) : State :=
  match s.recordAt slot with
  | none => s
  | some r =>
    if r.state = .armed ∧ r.stateTimerDue then
      (s.modRecord slot fun r =>
        { r with
          state := .cancelled, endReason := some .presentTimeout, stateTimer := none
          ended := true }).queueClose slot .timeout
    else s

/-- The present timer of the record in a slot expires (R51). -/
def execPresentTimerExpiry (slot : Slot) (s : State) : Host.Outcome State Fault Refusal :=
  .next (whenRunning (presentExpiry slot) s)

/-- A record whose timer expires under NOTIFY (R52, R65). -/
def Record.expireNotify (r : Record) : Record :=
  { r with stateTimer := none, late := true }

/-- A record that lapses, before its REVERSAL is added (R53, R66). -/
def Record.lapse (r : Record) : Record :=
  { r with state := .lapsed, stateTimer := none, ended := true }

/-- The outcome timer of a RELEASED record expires (R52, R53). -/
def outcomeExpiry (slot : Slot) (s : State) : State :=
  match s.recordAt slot with
  | none => s
  | some r =>
    if r.state = .released ∧ r.stateTimerDue then
      if r.timerAction = some .lapse then
        ((s.modRecord slot Record.lapse).automaticReversal slot).queueClose slot .notCompleted
      else s.modRecord slot Record.expireNotify
    else s

/-- The outcome timer of the record in a slot expires (R52, R53). -/
def execOutcomeTimerExpiry (slot : Slot) (s : State) : Host.Outcome State Fault Refusal :=
  .next (whenRunning (outcomeExpiry slot) s)

/-- The delivery timer of a record expires with its delivery SENT (R47). -/
def deliveryExpiry (slot : Slot) (s : State) : State :=
  match s.recordAt slot with
  | none => s
  | some r =>
    if r.delivery.value = .sent ∧ r.deliveryTimer = some 0 then
      (s.modRecord slot Record.deliveryLost).modBook r.lane fun b =>
        { b with engaged := none, expired := r.delivery.sequence }
    else s

/-- The delivery timer of the record in a slot expires (R47). -/
def execDeliveryTimerExpiry (slot : Slot) (s : State) : Host.Outcome State Fault Refusal :=
  .next (whenRunning (deliveryExpiry slot) s)

/-- The deferred-life timer of a DEFERRED record expires (R65, R66). -/
def deferredExpiry (slot : Slot) (s : State) : State :=
  match s.recordAt slot with
  | none => s
  | some r =>
    if r.state = .deferred ∧ r.stateTimerDue then
      if r.timerAction = some .lapse then
        ((s.leaveAccount r.lane r.current).modRecord slot Record.lapse).automaticReversal slot
      else s.modRecord slot Record.expireNotify
    else s

/-- The deferred-life timer of the record in a slot expires (R65, R66). -/
def execDeferredLifeExpiry (slot : Slot) (s : State) : Host.Outcome State Fault Refusal :=
  .next (whenRunning (deferredExpiry slot) s)

/-! ## Capture (R31 to R34) -/

/-- A capture that fails: the record is FAILED with its Ended mark, and a CLOSE TRY_AGAIN is queued (R31,
R33). -/
def State.failCapture (s : State) (slot : Slot) (reason : EndReason) : State :=
  (s.modRecord slot fun r =>
    { r with state := .failed, endReason := some reason, stateTimer := none, ended := true }).queueClose
    slot .tryAgain

/-- A record bound and CAPTURING, with its card summary and card block (R32, steps 1 and 3 to 5). -/
def Record.capture (b : Binding) (summary : CardSummary) (card : CardBlock) (r : Record) : Record :=
  { r with
    state := .capturing, stateTimer := none, cancelPending := none
    binding := some b, bound := true, summary := some summary, card := some card }

/-- Capture acceptance (R31, R32). Without an ACTIVE entry, which an ARMED record rules out (R31), it fails
as for a spent counter (log entry 16). -/
def acceptCapture (slot : Slot) (r : Record) (summary : CardSummary) (card : CardBlock) (s : State) :
    State :=
  match s.entryIn .active with
  | none => s.failCapture slot .keySpent
  | some i =>
    let generation := match (s.entry i).material with
      | some m => m.generation
      | none => 0
    match s.takeCounter generation r.lane s.captureLimit with
    | none => s.failCapture slot .keySpent
    | some (counter, s') =>
      let s1 := (s'.bindEntry i).modRecord slot
        (Record.capture { generation := generation, counter := counter } summary card)
      (s1.placeJob (.capture (s.handleOf slot) r.lane generation counter)).offer r.lane (.taken r.payment)

/-- A completed capture, kept: WRAPPED with its payload (R34). -/
def Record.wrap (payload : List Byte) (r : Record) : Record :=
  { r with state := .wrapped, payload := some payload }

/-- The record table's handling of a capture completion (R34). The completion always finds the record
CAPTURING; it changes nothing in any other state (log entry 16). -/
def captureDone (slot : Slot) (payload : List Byte) (s : State) : State :=
  match s.recordAt slot with
  | none => s
  | some r =>
    if r.state = .capturing then
      match r.cancelPending with
      | none => s.modRecord slot (Record.wrap payload)
      | some reason => s.cancelNow slot reason
    else s

/-- The capture job in service completes (R34, R112). With no such job in service there is no completion
(log entry 3). -/
def captureCompletion (s : State) : State :=
  match s.engine.service with
  | .serving (.capture h l g c) (.wrap w) =>
    (captureDone (slotOf h) (payloadOf (.capture h l g c) w) s).afterJob
  | .serving (.capture ..) (.unwrap ..) => s
  | .serving (.followUp ..) _ => s
  | .serving (.unwrap ..) _ => s
  | .idle => s
  | .held => s

/-- The capture job in service completes (R34). -/
def execCaptureCompletion (s : State) : Host.Outcome State Fault Refusal :=
  .next (whenRunning captureCompletion s)

end Sys2Proof.Machine
end

