-- ==== Sys2Proof/Machine/Dialogue.lean ====
section
/-! DEFINITION. The reader dialogue (Chapter 8): reading reader frames (R137), dispatching them on DOWN and
READY lanes (R143 to R145), and what a HELLO, CARD, CANCEL and ACK do. -/

namespace Sys2Proof.Machine

/-! ## Reader frames (R137, R185) -/

/-- The card fields of a well-formed CARD frame (R137). -/
structure CardFields where
  entry : EntryMethod
  numberLength : Nat
  digits : List Nibble
  year : Byte
  month : Byte
  verify : VerifyMethod
  chip : List Byte
  deriving DecidableEq, Repr

/-- A reader frame as the dialogue unit reads it (R137). -/
inductive ReaderFrame where
  | hello (identity : BitVec 64) (firmware base : Byte)
  | card (payment : Nat) (fields : CardFields)
  | cancel (payment : Nat)
  | ack (sequence : Byte)
  | badlyFormed
  deriving DecidableEq, Repr

/-- The kind byte of HELLO (R185). -/
def helloKind : Byte := 0x01

/-- The kind byte of CARD (R185). -/
def cardKind : Byte := 0x02

/-- The kind byte of CANCEL (R185). -/
def cancelKind : Byte := 0x03

/-- The kind byte of ACK (R185). -/
def ackKind : Byte := 0x04

/-- A byte of a body. -/
def byteAt (body : List Byte) (i : Nat) : Byte :=
  body.getD i 0

/-- The two-byte number at the start of a body. -/
def paymentOf (body : List Byte) : Nat :=
  numberOf (body.take 2)

/-- The digit places within the card number length, of the ten bytes that hold them (R137). -/
def digitsOf (body : List Byte) : List Nibble :=
  (unpackPlaces ((body.drop 4).take 10)).take (byteAt body 3).toNat

/-- A CARD body (R137, R185). -/
def readCard (body : List Byte) : ReaderFrame :=
  if body.length ≠ 18 + (byteAt body 17).toNat then .badlyFormed
  else
    match entryOf (byteAt body 2), verifyOf (byteAt body 16) with
    | some entry, some verify =>
      if paymentOf body = 0 ∨ 99 < (byteAt body 14).toNat ∨ (digitsOf body).any (fun d => decide (9 < d.toNat))
      then .badlyFormed
      else
        .card (paymentOf body)
          { entry := entry, numberLength := (byteAt body 3).toNat, digits := digitsOf body
            year := byteAt body 14, month := byteAt body 15, verify := verify, chip := body.drop 18 }
    | _, _ => .badlyFormed

/-- A reader frame read by its kind (R137). -/
def LaneFrame.read (f : LaneFrame) : ReaderFrame :=
  if f.kind = helloKind then
    if f.body.length = 10 then
      .hello (BitVec.ofNat 64 (numberOf (f.body.take 8))) (byteAt f.body 8) (byteAt f.body 9)
    else .badlyFormed
  else if f.kind = cardKind then readCard f.body
  else if f.kind = cancelKind then
    if f.body.length = 2 ∧ paymentOf f.body ≠ 0 then .cancel (paymentOf f.body) else .badlyFormed
  else if f.kind = ackKind then
    if f.body.length = 1 then .ack (byteAt f.body 0) else .badlyFormed
  else .badlyFormed

/-- The card content is valid (R147). -/
def CardFields.valid (c : CardFields) : Bool :=
  inRange 12 c.numberLength 19 && inRange 1 c.month.toNat 12 && decide (c.chip.length ≤ 96)

/-- The card summary of a CARD frame (R148). -/
def CardFields.summary (c : CardFields) : CardSummary :=
  { entry := c.entry, issuerDigits := c.digits.take 6
    lastFour := c.digits.drop (c.digits.length - 4), verify := c.verify }

/-- The card block of a CARD frame (R148). -/
def CardFields.block (c : CardFields) : CardBlock :=
  { digits := c.digits, year := c.year, month := c.month, entry := c.entry, verify := c.verify
    chip := c.chip }

/-! ## Refusals (R139) -/

/-- A frame refused without an ORDER error (R139). -/
def refuseFrame (l : LaneId) (reason : RefuseReason) (sequence : Byte) (s : State) : State :=
  s.offer l (.refuse reason sequence)

/-- A frame refused and counted as an ORDER error (R139). -/
def refuseCounted (l : LaneId) (reason : RefuseReason) (sequence : Byte) (s : State) : State :=
  (refuseFrame l reason sequence s).reportError l .order

/-! ## Greeting and restart (R143, R144) -/

/-- The reader session a HELLO sets: the expected sequence is the base plus 1 (R140, R143). -/
def greetedSession (identity : BitVec 64) (firmware base : Byte) : ReaderSession :=
  { expected := base + 1, identity := identity, firmware := firmware }

/-- A lane greeted (R143): READY with the session, its outbound list emptied, its numbering from 0. The
transmit FIFO keeps its bytes. -/
def Lane.greet (session : ReaderSession) (L : Lane) : Lane :=
  { L with mode := .ready, reader := some session, outbound := [], nextPart := 0 }

/-- The WELCOME of a lane, and the cause "up" (R138, R143, R144, R151). -/
def welcome (l : LaneId) (s : State) : State :=
  let store := match s.commission with
    | some c => c.store
    | none => 0
  (s.offer l (.welcome store l)).modCauses l fun c => { c with up := true }

/-- A HELLO greets a DOWN lane (R143). -/
def greet (l : LaneId) (session : ReaderSession) (s : State) : State :=
  welcome l (s.modLane l (Lane.greet session))

/-- A HELLO restarts the dialogue of a READY lane (R144): the lane leaves READY, its outbound side is
cleared, and it is READY again under the new reader. -/
def restartDialogue (l : LaneId) (session : ReaderSession) (s : State) : State :=
  welcome l ((s.leaveReady l .lost).modLane l fun L => Lane.greet session L.clearOutbound)

/-! ## Card, cancel and acknowledgement (R146 to R150) -/

/-- A CARD frame in its turn on a READY lane (R146 to R148). -/
def takeCard (l : LaneId) (sequence : Byte) (payment : Nat) (c : CardFields) (s : State) : State :=
  match s.engaged? l with
  | none => refuseCounted l .notArmed sequence s
  | some (slot, r) =>
    if r.state ≠ PaymentState.armed then refuseCounted l .notArmed sequence s
    else if r.payment ≠ payment then refuseCounted l .wrongPayment sequence s
    else if c.valid then acceptCapture slot r c.summary c.block s
    else (refuseFrame l .badCard sequence s).failCapture slot .badCard

/-- A CANCEL frame in its turn on a READY lane (R40, R149). -/
def takeCancel (l : LaneId) (sequence : Byte) (payment : Nat) (s : State) : State :=
  match s.engaged? l with
  | none => s
  | some (slot, r) =>
    if r.payment = payment then
      match cancellation .reader slot r s with
      | some s' => s'
      | none => refuseFrame l .tooLate sequence s
    else s

/-- A record whose delivery is acknowledged (R46). -/
def Record.acked (r : Record) : Record :=
  { r with delivery := { r.delivery with value := .acked }, deliveryTimer := none }

/-- The lane's engaged record is SENT with the sequence acknowledged (R46). -/
def ackedSlot (l : LaneId) (acknowledged : Byte) (s : State) : Option Slot :=
  match s.engaged? l with
  | none => none
  | some (slot, r) =>
    if r.delivery.value = DeliveryValue.sent ∧ r.delivery.sequence = some acknowledged then some slot
    else none

/-- An ACK frame in its turn on a READY lane (R46, R150). -/
def takeAck (l : LaneId) (acknowledged : Byte) (s : State) : State :=
  match ackedSlot l acknowledged s with
  | some slot => (s.modRecord slot Record.acked).endEngagement l
  | none =>
    if (s.book l).expired = some acknowledged then s.modBook l fun b => { b with expired := none }
    else s.reportError l .order

/-! ## Dispatch (R140, R143 to R145) -/

/-- A frame on a DOWN lane (R143). -/
def dispatchDown (l : LaneId) (f : LaneFrame) (s : State) : State :=
  match f.read with
  | .hello identity firmware base => greet l (greetedSession identity firmware base) s
  | .badlyFormed =>
    refuseFrame l (if f.kind = helloKind then .badFrame else .notGreeted) f.sequence s
  | .card .. => refuseFrame l .notGreeted f.sequence s
  | .cancel _ => refuseFrame l .notGreeted f.sequence s
  | .ack _ => refuseFrame l .notGreeted f.sequence s

/-- A frame other than a HELLO that has come in its turn on a READY lane (R145, steps 3 to 6). -/
def dispatchInTurn (l : LaneId) (f : LaneFrame) (s : State) : State :=
  match f.read with
  | .card payment c => takeCard l f.sequence payment c s
  | .cancel payment => takeCancel l f.sequence payment s
  | .ack acknowledged => takeAck l acknowledged s
  | .badlyFormed => refuseCounted l .badFrame f.sequence s
  | .hello .. => s

/-- The expected reader sequence advances by one, with 255 followed by 0 (R140). -/
def Lane.advanceExpected (L : Lane) : Lane :=
  { L with reader := L.reader.map fun r => { r with expected := r.expected + 1 } }

/-- A frame on a READY lane (R140, R144, R145). -/
def dispatchReady (l : LaneId) (f : LaneFrame) (s : State) : State :=
  if f.kind = helloKind then
    match f.read with
    | .hello identity firmware base => restartDialogue l (greetedSession identity firmware base) s
    | .badlyFormed => refuseCounted l .badFrame f.sequence s
    | .card .. => s
    | .cancel _ => s
    | .ack _ => s
  else if ((s.lane l).reader.map fun r => r.expected) = some f.sequence then
    dispatchInTurn l f (s.modLane l Lane.advanceExpected)
  else refuseCounted l .outOfSequence f.sequence s

/-- A frame dispatched on its lane (R142 to R145). -/
def dispatch (l : LaneId) (f : LaneFrame) (s : State) : State :=
  if (s.lane l).mode = .ready then dispatchReady l f s else dispatchDown l f s

/-- The slot emptied by the taking of its frame: the assembler goes from STALLED to HUNT (R128). -/
def Lane.emptySlot (L : Lane) : Lane :=
  { L with slot := none, assembler := if L.assembler = .stalled then .hunt else L.assembler }

/-- A frame of kind CARD waits in its slot while the supply state is LOW (R142). -/
def mustWait (s : State) (f : LaneFrame) : Bool :=
  f.kind = cardKind && s.supply.state = .low

/-- The dialogue unit takes the frame of a lane's slot when it is one the event names, and dispatches it;
a CARD waiting under supply LOW is left (R142). -/
def takeFrame (l : LaneId) (names : LaneFrame → Bool) (s : State) : State :=
  match (s.lane l).slot with
  | none => s
  | some f =>
    if (s.lane l).runs ∧ names f ∧ ¬ mustWait s f then dispatch l f (s.modLane l Lane.emptySlot) else s

/-! ## The events -/

/-- A well-formed HELLO. -/
def ReaderFrame.isHello : ReaderFrame → Bool
  | .hello .. => true
  | .card .. | .cancel _ | .ack _ | .badlyFormed => false

/-- A well-formed CARD. -/
def ReaderFrame.isCard : ReaderFrame → Bool
  | .card .. => true
  | .hello .. | .cancel _ | .ack _ | .badlyFormed => false

/-- A well-formed CANCEL. -/
def ReaderFrame.isCancel : ReaderFrame → Bool
  | .cancel _ => true
  | .hello .. | .card .. | .ack _ | .badlyFormed => false

/-- A well-formed ACK. -/
def ReaderFrame.isAck : ReaderFrame → Bool
  | .ack _ => true
  | .hello .. | .card .. | .cancel _ | .badlyFormed => false

/-- A HELLO is taken from the lane's slot (R143, R144). -/
def execReaderHello (l : LaneId) (s : State) : Host.Outcome State Fault Refusal :=
  .next (whenRunning (takeFrame l fun f => f.read.isHello) s)

/-- A CARD is taken from the lane's slot (R146), or left there under supply LOW (R142). -/
def execReaderCard (l : LaneId) (s : State) : Host.Outcome State Fault Refusal :=
  .next (whenRunning (takeFrame l fun f => f.read.isCard) s)

/-- A frame of kind CARD left waiting is taken after the supply's return to NORMAL (R142). -/
def execWaitingCardDispatch (l : LaneId) (s : State) : Host.Outcome State Fault Refusal :=
  .next (whenRunning (takeFrame l fun f => f.kind = cardKind) s)

/-- A CANCEL is taken from the lane's slot (R149). -/
def execReaderCancel (l : LaneId) (s : State) : Host.Outcome State Fault Refusal :=
  .next (whenRunning (takeFrame l fun f => f.read.isCancel) s)

/-- An ACK is taken from the lane's slot (R150). -/
def execReaderAck (l : LaneId) (s : State) : Host.Outcome State Fault Refusal :=
  .next (whenRunning (takeFrame l fun f => f.read.isAck) s)

/-- A badly formed frame is taken from the lane's slot (R143, R145). -/
def execBadlyFormedFrame (l : LaneId) (s : State) : Host.Outcome State Fault Refusal :=
  .next (whenRunning (takeFrame l fun f => decide (f.read = .badlyFormed)) s)

end Sys2Proof.Machine
end

