-- ==== Sys2Proof/Machine/SupplyCase.lean ====
section
/-! DEFINITION. Supply and case protection (Chapter 10): the supply monitor (R160, R161), the case monitor
and CASE READ (R163, R164), and erasure (R105, R115, R165 to R167). -/

namespace Sys2Proof.Machine

/-! ## The supply monitor (R160, R161) -/

namespace State

/-- The supply level in force, in millivolts (R160). -/
def level (s : State) : Nat :=
  levelInForce s.commission

/-- The supply state becomes LOW (R160, R161). -/
def supplyFalls (s : State) : State :=
  { s with supply := { s.supply with state := .low, recovering := false } }.latchSupply .low

/-- The comparison of the supply with the level in force and the level plus 0.05 V (R160). -/
def compareSupply (s : State) : State :=
  match s.supply.state with
  | .normal => if s.supply.millivolts < s.level then s.supplyFalls else s
  | .low =>
    { s with supply :=
        { s.supply with recovering := decide (s.level + Config.recoveryMargin < s.supply.millivolts) } }

/-- The supply comes to a voltage: below 2.70 V the part cannot hold its volatile state (R160; log entry
13); otherwise the monitor of a running part compares it. -/
def supplyMoves (s : State) (mv : Nat) : State :=
  let s' : State := { s with supply := { s.supply with millivolts := mv } }
  if mv < Config.powerHold then { s' with phase := .unpowered }
  else if s.phase = .running then s'.compareSupply
  else s'

end State

/-- The supply falls below the level, to a voltage (R160). -/
def execSupplyBelowLevel (mv : Nat) (s : State) : Host.Outcome State Fault Refusal :=
  .next (s.supplyMoves mv)

/-- The supply rises above the level plus 0.05 V, to a voltage (R160). -/
def execSupplyAboveRecoveryLevel (mv : Nat) (s : State) : Host.Outcome State Fault Refusal :=
  .next (s.supplyMoves mv)

/-- The supply falls to or below the level plus 0.05 V, to a voltage (R160). -/
def execSupplyBelowRecoveryLevel (mv : Nat) (s : State) : Host.Outcome State Fault Refusal :=
  .next (s.supplyMoves mv)

/-- The recovery timer expires: the state becomes NORMAL (R160, R161). -/
def recoveryExpiry (s : State) : State :=
  if s.supply.state = .low ∧ s.supply.recovering then
    { s with supply := { s.supply with state := .normal, recovering := false } }.latchSupply .normal
  else s

/-- The recovery timer expires (R160). -/
def execRecoveryTimerExpiry (s : State) : Host.Outcome State Fault Refusal :=
  .next (whenRunning recoveryExpiry s)

/-! ## Erasure (R105, R115, R165 to R167) -/

/-- A follow-up at erasure: WAITING and WRAPPING become FAILED, the counter kept (R167). -/
def FollowUp.erase (f : FollowUp) : FollowUp :=
  if f.status = .waiting ∨ f.status = .wrapping then { f with status := .failed } else f

/-- A record at erasure (R105, R166, R167): unbound, its card block erased, its pending follow-ups FAILED
with the Late mark; ARMED becomes CANCELLED and CAPTURING FAILED, both KEYS_LOST with the Ended mark. -/
def Record.erase (r : Record) : Record :=
  let q : Record :=
    { r with
      bound := false, card := none, followUps := r.followUps.map FollowUp.erase
      late := r.late || r.busy }
  match r.state with
  | .armed =>
    { q with state := .cancelled, endReason := some .keysLost, stateTimer := none, ended := true }
  | .capturing =>
    { q with state := .failed, endReason := some .keysLost, cancelPending := none, ended := true }
  | .wrapped | .released | .approved | .declined | .deferred | .rejected | .voided | .lapsed
  | .cancelled | .failed => q

/-- The slot of a lane's engaged record that erasure ends (R166). -/
def State.erasedSlot (s : State) (l : LaneId) : Option Slot :=
  match s.engaged? l with
  | none => none
  | some (slot, r) =>
    if r.state = PaymentState.armed ∨ r.state = PaymentState.capturing then some slot else none

/-- A lane at erasure: an inbound slot that holds a CARD frame is emptied (R167). -/
def Lane.erase (L : Lane) : Lane :=
  match L.slot with
  | some f => if f.kind = cardKind then L.emptySlot else L
  | none => L

/-- Erasure (R105, R165 to R167): the engine first, then the keys, then the records, the end frames of the
records it ends, the lane slots, and last the response of a KEY LOAD in service (log entry 12). -/
def erasure (s : State) : State :=
  let s1 := s.eraseEngine
  let s2 : State :=
    { s1 with keys := { s1.keys with entries := Vector.replicate 4 KeyEntry.vacant } }
  let ends := (List.finRange 16).filterMap s.erasedSlot
  let s3 := (s2.mapRecords Record.erase).setWaiting []
  let s4 := ends.foldl (fun t slot => t.queueClose slot .tryAgain) s3
  let s5 : State :=
    { s4 with
      lanes := mapAll Lane.erase s4.lanes
      caseMon := { s4.caseMon with erased := true } }
  s5.respondHeld .keysLost []

/-! ## The case monitor (R163 to R165) -/

/-- The case monitor with a line at a level. -/
def CaseMonitor.setLine (c : CaseMonitor) (line : CaseLine) (level : CaseLevel) : CaseMonitor :=
  match line with
  | .caseA => { c with lineA := level }
  | .caseB => { c with lineB := level }

/-- The current case level (R163). -/
def CaseMonitor.current (c : CaseMonitor) : CaseLevel :=
  caseLevel c.lineA c.lineB

/-- The case level has changed: the latch is set when it is clear and the level differs from the registered
one (R163). -/
def CaseMonitor.latchChange (c : CaseMonitor) : CaseMonitor :=
  if c.latch = none ∧ c.current ≠ c.registered then { c with latch := some c.current } else c

/-- Erasure is enabled (R165). -/
def State.erasureEnabled (s : State) : Bool :=
  match s.commission with
  | some c => c.eraseOnOpen
  | none => false

/-- A case line takes a level (R163, R165). During a start only the line moves (R180). -/
def caseLineChange (line : CaseLine) (level : CaseLevel) (s : State) : State :=
  let before := s.caseMon.current
  let moved := s.caseMon.setLine line level
  if s.phase = .running ∧ moved.current ≠ before then
    let s' : State := { s with caseMon := moved.latchChange }
    if moved.current = .opened ∧ s.erasureEnabled then erasure s' else s'
  else { s with caseMon := moved }

/-- A case line takes a level (R163). -/
def execCaseLineChange (line : CaseLine) (level : CaseLevel) (s : State) :
    Host.Outcome State Fault Refusal :=
  .next (caseLineChange line level s)

/-- The body of CASE READ (R164). -/
def caseReadBytes (c : CaseMonitor) : List Byte :=
  List.flatten
    [u8 (caseCode c.lineA), u8 (caseCode c.lineB), u8 (caseCode c.current), u8 (caseCode c.registered),
      optional 1 (fun level => u8 (caseCode level)) c.latch, flagByte c.erased]

/-- CASE READ (R164). -/
def caseRead (s : State) : Reply :=
  let c := s.caseMon
  .answer { s with caseMon := { c with latch := none, registered := c.current, erased := false } } .done
    (caseReadBytes c)

/-- CASE READ (R164). -/
def execCaseRead (tag : Byte) (s : State) : Host.Outcome State Fault Refusal :=
  .next (takeRequest 30 tag caseRead s)

end Sys2Proof.Machine
end

