-- ==== Sys2Proof/Machine/StartUp.lean ====
section
/-! DEFINITION. Commissioning and starting (Chapter 11): COMMISSION (R178, R179), the starts of each cause
(R180), START READ (R182), RESTART (R181). -/

namespace Sys2Proof.Machine

/-! ## COMMISSION (R178, R179) -/

/-- The record COMMISSION carries, none when a field is outside its values (R178, R179). -/
def commissioningOf (chain store : Word) (currency : Half) (exponent : Byte) (transportKey : Block)
    (fitted erasure level : Byte) : Option Commissioning :=
  match yesNoOf erasure, levelOf level with
  | some eraseOnOpen, some level =>
    if inRange 1 currency.toNat 999 && decide (exponent.toNat ≤ 3) && inRange 1 fitted.toNat 16 then
      some
        { chain := chain, store := store, currency := currency.toNat, exponent := exponent.toNat
          transportKey := transportKey, fitted := fitted.toNat, eraseOnOpen := eraseOnOpen
          level := level }
    else none
  | _, _ => none

/-- Every field of the record except the transport key, in a response (R179, R182). -/
def commissioningBytes (c : Commissioning) : List Byte :=
  List.flatten
    [bytesOf 4 c.chain.toNat, bytesOf 4 c.store.toNat, u16 c.currency, u8 c.exponent, u8 c.fitted,
      flagByte c.eraseOnOpen, u8 c.level.code]

/-- An accepted COMMISSION (R179): the record written, the fitted lanes DOWN at their start values, the
level in force, which may take the supply state to LOW at once. -/
def State.commissioned (s : State) (c : Commissioning) : State :=
  let s' : State := { s with commission := some c, lanes := startLanes (some c) s.lanes }
  if s'.supply.state = .normal then s'.compareSupply else s'

/-- COMMISSION (R179). -/
def commission (chain store : Word) (currency : Half) (exponent : Byte) (transportKey : Block)
    (fitted erasure level : Byte) (s : State) : Reply :=
  if s.commission.isSome then refuse s .locked
  else
    match commissioningOf chain store currency exponent transportKey fitted erasure level with
    | none => refuse s .range
    | some c =>
      if s.supply.state = .low then refuse s .supplyLow
      else .answer (s.commissioned c) .done (commissioningBytes c)

/-- COMMISSION (R179). -/
def execCommission (tag : Byte) (chain store : Word) (currency : Half) (exponent : Byte)
    (transportKey : Block) (fitted erasure level : Byte) (s : State) :
    Host.Outcome State Fault Refusal :=
  .next (takeRequest 32 tag (commission chain store currency exponent transportKey fitted erasure level) s)

/-! ## Starts (R180) -/

/-- Every piece of volatile state at its start value (R180), in a given phase of a start of a given cause.
The commissioning record, the pins and the commands still waiting stay. -/
def State.startValues (s : State) (phase : Phase) (cause : StartCause) : State :=
  let supply := startSupply s.commission s.supply.millivolts
  { pending := s.pending
    phase := phase
    startCause := cause
    startUnread := true
    resetPin := s.resetPin
    commission := s.commission
    supply := supply
    caseMon := startCase s.caseMon.lineA s.caseMon.lineB
    limits := startLimits
    timers := startTimers
    table := startTable
    keys := startKeys
    engine := startEngine supply.state
    lanes := startLanes s.commission s.lanes
    attention := startAttention
    port := { startPort with sdo := s.port.sdo } }

/-- A start begins (R180). -/
def State.beginStart (s : State) (cause : StartCause) : State :=
  s.startValues (.starting cause) cause

/-- A start completes: the blocks stand at their start values (R180). -/
def State.completeStart (s : State) (cause : StartCause) : State :=
  s.startValues .running cause

/-- The supply is applied, or returns after a fall below 2.70 V: a POWER start begins (R180). -/
def execPowerApplied (s : State) : Host.Outcome State Fault Refusal :=
  .next (s.beginStart .power)

/-- The supply has settled at a voltage that holds the volatile state: a POWER start completes (R160,
R180). In every other phase, and below 2.70 V, there is no such event and nothing changes (DEDUCED, log
entry 3). -/
def supplySettled (mv : Nat) (s : State) : State :=
  if s.phase = .starting .power ∧ Config.powerHold ≤ mv then
    State.completeStart { s with supply := { s.supply with millivolts := mv } } .power
  else s

/-- The supply has settled at a voltage (R180). -/
def execSupplySettled (mv : Nat) (s : State) : Host.Outcome State Fault Refusal :=
  .next (supplySettled mv s)

/-- RESET is asserted while the supply is applied: a PIN start begins; during a POWER start the start stays
a POWER start (R180; log entry 13). -/
def resetAsserted (s : State) : State :=
  let s' : State := { s with resetPin := true }
  if s.phase = .running then s'.beginStart .pin else s'

/-- RESET is asserted (R180). -/
def execResetAsserted (s : State) : Host.Outcome State Fault Refusal :=
  .next (resetAsserted s)

/-- RESET is released: a PIN start completes (R180). -/
def resetReleased (s : State) : State :=
  let s' : State := { s with resetPin := false }
  if s.phase = .starting .pin then s'.completeStart .pin else s'

/-- RESET is released (R180). -/
def execResetReleased (s : State) : Host.Outcome State Fault Refusal :=
  .next (resetReleased s)

/-! ## START READ and RESTART (R181, R182) -/

/-- The body of START READ (R182). -/
def startReadBytes (s : State) : List Byte :=
  List.flatten
    [u8 s.startCause.code, flagByte s.commission.isSome, optional 14 commissioningBytes s.commission,
      u8 s.supply.state.code, u8 (caseCode s.caseMon.current)]

/-- START READ (R182). -/
def startRead (s : State) : Reply :=
  .answer { s with startUnread := false } .done (startReadBytes s)

/-- START READ (R182). -/
def execStartRead (tag : Byte) (s : State) : Host.Outcome State Fault Refusal :=
  .next (takeRequest 31 tag startRead s)

/-- RESTART (R181): the start comes when the response has been read in full. -/
def restart (s : State) : Reply :=
  .answer s .done []

/-- RESTART (R181). -/
def execRestart (tag : Byte) (s : State) : Host.Outcome State Fault Refusal :=
  .next (takeRequest Config.restartKind tag restart s)

end Sys2Proof.Machine
end

