-- ==== Sys2Proof/Machine/LaneInterface.lean ====
section
/-! DEFINITION. Reader lanes (Chapter 7): the line receiver, the frame assembler, the transmit side, and
the requests LANE HOLD, LANE OPEN, LANE SETUP and LANE STATUS. -/

namespace Sys2Proof.Machine

/-! ## The line receiver (R123 to R125, R127) -/

/-- A byte appended to the receive FIFO; the fill hold is set when the fill comes to the high mark (R125). -/
def Lane.append (L : Lane) (b : Byte) : Lane :=
  { L with
    rxFifo := L.rxFifo ++ [.byte b]
    fillHold := L.fillHold || decide (L.settings.high ≤ L.fill + 1) }

/-- A character completes on a receive line (R123). The receiver takes it only from a line at mark, and
only in DOWN and READY. -/
def lineCharacter (l : LaneId) (b : Byte) (stopAtMark : Bool) (s : State) : State :=
  if (s.lane l).runs ∧ (s.lane l).rxLine = .mark then
    if stopAtMark then
      if (s.lane l).fill < Config.receiveCapacity then s.modLane l fun L => L.append b
      else s.reportError l .line
    else s.modLane l fun L => { L with rxLine := .stopAtSpace }
  else s

/-- A character completes on a lane's receive line (R123). -/
def execLineCharacter (l : LaneId) (b : Byte) (stopAtMark : Bool) (s : State) :
    Host.Outcome State Fault Refusal :=
  .next (whenRunning (lineCharacter l b stopAtMark) s)

/-- A break cleared and, from READY, left: the lane is DOWN with both sides cleared (R122, R132). -/
def Lane.broken (L : Lane) : Lane :=
  { L.clearReceive.clearOutbound with mode := .down, rxLine := .inBreak, reader := none }

/-- The receive line has been at space for 2 character times (R124): a READY lane leaves READY and latches
"down" (R151), and a DOWN lane is cleared. On a lane that does not run no break is detected; the line is past
the 2 character times all the same, so a stop bit at space before it counts no LINE error when the lane runs
again (R123, R152; DEDUCED, log entry 23). -/
def lineBreak (l : LaneId) (s : State) : State :=
  if (s.lane l).runs then
    if (s.lane l).rxLine = .inBreak then s
    else if (s.lane l).mode = .ready then
      ((s.leaveReady l .lost).modLane l Lane.broken).modCauses l fun c => { c with down := true }
    else s.modLane l Lane.broken
  else s.modLane l fun L => { L with rxLine := .inBreak }

/-- The receive line has been at space for 2 character times (R124). -/
def execLineBreak (l : LaneId) (s : State) : Host.Outcome State Fault Refusal :=
  .next (whenRunning (lineBreak l) s)

/-- The receive line returns to mark: after a stop bit at space, within 2 character times, a LINE error is
reported; after a break, the receiver takes the next start bit (R123, R124). -/
def lineReturnToMark (l : LaneId) (s : State) : State :=
  let s' := s.modLane l fun L => { L with rxLine := .mark }
  if (s.lane l).runs ∧ (s.lane l).rxLine = .stopAtSpace then s'.reportError l .line else s'

/-- The receive line returns to mark after a space (R123, R124). -/
def execLineReturnToMark (l : LaneId) (s : State) : Host.Outcome State Fault Refusal :=
  .next (whenRunning (lineReturnToMark l) s)

/-- More than 10 character times have passed: a gap marker joins the receive FIFO (R127). -/
def gap (l : LaneId) (s : State) : State :=
  if (s.lane l).runs then s.modLane l fun L => { L with rxFifo := L.rxFifo ++ [.gap] } else s

/-- More than 10 character times have passed on a receive line (R127). -/
def execGap (l : LaneId) (s : State) : Host.Outcome State Fault Refusal :=
  .next (whenRunning (gap l) s)

/-! ## The frame assembler (R126 to R128) -/

/-- The bytes of a lane frame that its check runs over: length, kind, sequence and body (R185). -/
def frameChecked (bytes : List Byte) : List Byte :=
  (bytes.drop 1).take (bytes.length - 3)

/-- The frame check of a collected frame matches (R126, R186). -/
def frameGood (bytes : List Byte) : Bool :=
  bytes.drop (bytes.length - 2) = checkBytes (frameChecked bytes)

/-- The frame a collected envelope holds (R185). -/
def frameOf (bytes : List Byte) : LaneFrame :=
  { kind := bytes.getD 2 0, sequence := bytes.getD 3 0, body := (bytes.drop 4).take (bytes.length - 6) }

/-- What the assembler does with a byte: the lane after it, and whether a CHECK error is reported (R126,
R127). A good frame goes to the slot and stalls the assembler until it is taken (R128; log entry 6). Bytes
of an abandoned frame still to be hunted through stay, and come before the FIFO once the slot is empty
(DESIGN CHOICE, log entry 7). -/
def Lane.assemble (L : Lane) (b : Byte) : Lane × Bool :=
  match L.assembler with
  | .hunt =>
    if b = Config.laneStartByte then ({ L with assembler := .length, frame := [b] }, false) else (L, false)
  | .length =>
    if b.toNat ≤ Config.laneBodyMax then
      ({ L with assembler := .collect, frame := L.frame ++ [b] }, false)
    else ({ L with assembler := .hunt, frame := [] }, true)
  | .collect =>
    let bytes := L.frame ++ [b]
    if bytes.length < (bytes.getD 1 0).toNat + 6 then ({ L with frame := bytes }, false)
    else if frameGood bytes then
      ({ L with assembler := .stalled, frame := [], slot := some (frameOf bytes) }, false)
    else ({ L with assembler := .hunt, frame := [], replay := bytes.drop 1 ++ L.replay }, true)
  | .stalled => (L, false)

/-- The assembler reaches a gap marker (R127). -/
def Lane.assembleGap (L : Lane) : Lane × Bool :=
  match L.assembler with
  | .length => ({ L with assembler := .hunt, frame := [] }, true)
  | .collect => ({ L with assembler := .hunt, frame := [] }, true)
  | .hunt => (L, false)
  | .stalled => (L, false)

/-- A byte leaves the receive FIFO; the fill hold is cleared at the low mark or below (R125). -/
def Lane.dropHead (L : Lane) (rest : List RxItem) : Lane :=
  let L' := { L with rxFifo := rest }
  { L' with fillHold := L.fillHold && decide (L.settings.low < L'.fill) }

/-- The next byte or marker the assembler takes: first what is left of an abandoned frame, then the FIFO
(R127). -/
def Lane.takeNext (L : Lane) : Lane × Bool :=
  match L.replay with
  | b :: more => { L with replay := more }.assemble b
  | [] =>
    match L.rxFifo with
    | [] => (L, false)
    | .gap :: rest => { L with rxFifo := rest }.assembleGap
    | .byte b :: rest => (L.dropHead rest).assemble b

/-- The assembler takes one byte or gap marker, in DOWN and READY, unless it is STALLED (R126). -/
def assemblerTakeByte (l : LaneId) (s : State) : State :=
  if (s.lane l).runs ∧ (s.lane l).assembler ≠ .stalled ∧ (s.lane l).slot = none then
    let after := (s.lane l).takeNext
    let s' := s.modLane l fun _ => after.1
    if after.2 then s'.reportError l .check else s'
  else s

/-- The frame assembler takes one byte or gap marker (R126). -/
def execAssemblerTakeByte (l : LaneId) (s : State) : Host.Outcome State Fault Refusal :=
  .next (whenRunning (assemblerTakeByte l) s)

/-! ## The transmit side (R129 to R131) -/

/-- The kind of a part frame (R185). -/
def PartFrame.kind : PartFrame → Byte
  | .welcome .. => 0x81
  | .present .. => 0x82
  | .taken _ => 0x83
  | .outcome .. => 0x84
  | .close .. => 0x85
  | .refuse .. => 0x86

/-- The body of a part frame (R138, R185). With DECLINED the code is six spaces. -/
def PartFrame.body : PartFrame → List Byte
  | .welcome store lane => List.flatten [bytesOf 4 store.toNat, u8 lane.val, u8 0]
  | .present payment amount exponent => List.flatten [u16 payment, u32 amount, u8 exponent]
  | .taken payment => u16 payment
  | .outcome payment (some code) amount => List.flatten [u16 payment, u8 1, codeBytes code, u32 amount]
  | .outcome payment none amount =>
    List.flatten [u16 payment, u8 2, List.replicate 6 0x20, u32 amount]
  | .close payment reason => u16 payment ++ u8 reason.code
  | .refuse reason sequence => u8 reason.code ++ [sequence]

/-- A lane frame on the line: start byte, length, kind, sequence, body, check (R185). -/
def laneFrameBytes (kind sequence : Byte) (body : List Byte) : List Byte :=
  let checked := u8 body.length ++ [kind, sequence] ++ body
  Config.laneStartByte :: (checked ++ checkBytes checked)

/-- A part frame on the line, stamped with its sequence (R130). -/
def PartFrame.bytes (f : PartFrame) (sequence : Byte) : List Byte :=
  laneFrameBytes f.kind sequence f.body

/-- A QUEUED end frame becomes SENT with the part sequence stamped; its delivery timer starts and the
lane's expired delivery sequence becomes absent (R45, R47). -/
def deliverySent (l : LaneId) (sequence : Byte) (s : State) : State :=
  match s.engaged? l with
  | none => s
  | some (slot, r) =>
    if r.delivery.value = DeliveryValue.queued then
      (s.modRecord slot fun r =>
        { r with
          delivery := { r.delivery with value := .sent, sequence := some sequence }
          deliveryTimer := some s.timers.delivery }).modBook l fun b => { b with expired := none }
    else s

/-- The head part frame moves into the transmit FIFO when the whole frame fits (R130). -/
def moveFrame (l : LaneId) (s : State) : State :=
  match (s.lane l).outbound with
  | [] => s
  | f :: rest =>
    let sequence := (s.lane l).nextPart
    let bytes := f.bytes sequence
    if (s.lane l).runs ∧ (s.lane l).txFifo.length + bytes.length ≤ Config.transmitCapacity then
      let s' := s.modLane l fun L =>
        { L with outbound := rest, txFifo := L.txFifo ++ bytes, nextPart := sequence + 1 }
      if f.endKind.isSome then deliverySent l sequence s' else s'
    else s

/-- The head part frame moves into the transmit FIFO (R130). -/
def execFrameMoveToTransmitFifo (l : LaneId) (s : State) : Host.Outcome State Fault Refusal :=
  .next (whenRunning (moveFrame l) s)

/-- The transmitter begins the oldest byte of the transmit FIFO, unless hold-in is asserted (R131). The byte
leaves the FIFO as its character begins (DESIGN CHOICE, log entry 22). -/
def transmitCharacter (l : LaneId) (s : State) : State :=
  match (s.lane l).txFifo with
  | [] => s
  | b :: rest =>
    if (s.lane l).runs ∧ (s.lane l).holdIn = false then
      s.modLane l fun L => { L with txFifo := rest, txLine := some b }
    else s

/-- The transmitter begins the oldest byte of the transmit FIFO (R131). -/
def execTransmitCharacter (l : LaneId) (s : State) : Host.Outcome State Fault Refusal :=
  .next (whenRunning (transmitCharacter l) s)

/-- The reader asserts or releases hold-in (R131): the level of a pin, in every phase of the part. -/
def execHoldInChange (l : LaneId) (asserted : Bool) (s : State) : Host.Outcome State Fault Refusal :=
  .next (s.modLane l fun L => { L with holdIn := asserted })

/-! ## LANE HOLD and LANE OPEN (R133) -/

/-- A handler over a lane that exists: RANGE above 15 and for an OFF lane (R121, R133). -/
def withLane (lane : Byte) (f : LaneId → State → Reply) (s : State) : Reply :=
  match laneOf lane with
  | none => refuse s .range
  | some l => if (s.lane l).mode = .off then refuse s .range else f l s

/-- What LANE HOLD does to a lane that is not HELD (R133). -/
def State.holdLane (s : State) (l : LaneId) : State :=
  (if (s.lane l).mode = .ready then s.leaveReady l .held else s).modLane l fun L => L.stopped .held

/-- The lane state in a response (R133). -/
def modeByte (s : State) (l : LaneId) : List Byte :=
  u8 (s.lane l).mode.code

/-- LANE HOLD (R133). -/
def laneHold (lane : Byte) : State → Reply :=
  withLane lane fun l s =>
    let s' := if (s.lane l).mode = .held then s else s.holdLane l
    .answer s' .done (modeByte s' l)

/-- LANE HOLD (R133). -/
def execLaneHold (tag lane : Byte) (s : State) : Host.Outcome State Fault Refusal :=
  .next (takeRequest 23 tag (laneHold lane) s)

/-- LANE OPEN (R133). -/
def laneOpen (lane : Byte) : State → Reply :=
  withLane lane fun l s =>
    if (s.lane l).mode = .held then
      let s' := s.modLane l fun L => { L with mode := .down }
      .answer s' .done (modeByte s' l)
    else refuse s .wrongState

/-- LANE OPEN (R133). -/
def execLaneOpen (tag lane : Byte) (s : State) : Host.Outcome State Fault Refusal :=
  .next (takeRequest 24 tag (laneOpen lane) s)

/-! ## LANE SETUP (R134) -/

/-- One setting of a LANE SETUP: absent keeps the one in force, present replaces it; none is out of range
(R134). -/
def settingOf {α : Type} (o : OptByte) (current : α) (parse : Byte → Option α) : Option α :=
  match yesNoOf o.present with
  | some false => some current
  | some true => parse o.value
  | none => none

/-- A number in a range. -/
def numberIn (low high : Nat) (b : Byte) : Option Nat :=
  if inRange low b.toNat high then some b.toNat else none

/-- The four settings of a counter (R134). -/
def counterOf (c : CounterSettings) (enable terminal attend fault : OptByte) : Option CounterSettings := do
  let enable ← settingOf enable c.enable yesNoOf
  let terminal ← settingOf terminal c.terminal terminalOf
  let attend ← settingOf attend c.attend yesNoOf
  let fault ← settingOf fault c.fault yesNoOf
  pure { enable := enable, terminal := terminal, attend := attend, fault := fault }

/-- The settings after a LANE SETUP, none when order 3 of R134 refuses it. -/
def settingsOf (o : Vector OptByte 16) (c : LaneSettings) : Option LaneSettings := do
  let speed ← settingOf o[0] c.speed speedOf
  let high ← settingOf o[1] c.high (numberIn 8 127)
  let low ← settingOf o[2] c.low (numberIn 0 127)
  let threshold ← settingOf o[3] c.threshold (numberIn 1 255)
  let line ← counterOf c.line o[4] o[5] o[6] o[7]
  let check ← counterOf c.check o[8] o[9] o[10] o[11]
  let order ← counterOf c.order o[12] o[13] o[14] o[15]
  if low + 8 ≤ high then
    pure
      { speed := speed, high := high, low := low, threshold := threshold
        line := line, check := check, order := order }
  else none

/-- A counter's settings in a response: enable, terminal choice, actions (R134). -/
def counterBytes (c : CounterSettings) : List Byte :=
  List.flatten [flagByte c.enable, u8 c.terminal.code, flagByte c.attend, flagByte c.fault]

/-- Every setting in a response, in the order of R134. -/
def settingsBytes (c : LaneSettings) : List Byte :=
  List.flatten
    [u8 c.speed.code, u8 c.high, u8 c.low, u8 c.threshold, counterBytes c.line, counterBytes c.check,
      counterBytes c.order]

/-- LANE SETUP (R134). -/
def laneSetup (lane : Byte) (settings : Vector OptByte 16) : State → Reply :=
  withLane lane fun l s =>
    if (s.lane l).mode ≠ .held then refuse s .wrongState
    else
      match settingsOf settings (s.lane l).settings with
      | none => refuse s .range
      | some c => .answer (s.modLane l fun L => { L with settings := c }) .done (settingsBytes c)

/-- LANE SETUP (R134). -/
def execLaneSetup (tag lane : Byte) (settings : Vector OptByte 16) (s : State) :
    Host.Outcome State Fault Refusal :=
  .next (takeRequest 25 tag (laneSetup lane settings) s)

/-! ## LANE STATUS (R135) -/

/-- The three counter values and the three terminal flags (R135, R159). -/
def errorBytes (e : ErrorCounters) : List Byte :=
  List.flatten
    [u8 e.line.value, u8 e.check.value, u8 e.order.value,
      flagByte e.line.terminal, flagByte e.check.terminal, flagByte e.order.terminal]

/-- The body of LANE STATUS (R135, R136). Hold-out and hold-in are 1 asserted and 0 released (DESIGN CHOICE,
log entry 9). -/
def laneStatusBytes (s : State) (l : LaneId) : List Byte :=
  let L := s.lane l
  List.flatten
    [u8 L.mode.code, u8 L.settings.speed.code, u8 L.settings.high, u8 L.settings.low,
      u8 L.fill, u8 L.assembler.code, optional 1 (fun f => [LaneFrame.kind f]) L.slot,
      u8 L.txFifo.length, u16 L.outbound.length, flagByte (s.holdOut l), flagByte L.holdIn,
      optional 8 (fun r => bytesOf 8 (BitVec.toNat (ReaderSession.identity r))) L.reader,
      optional 1 (fun r => [ReaderSession.firmware r]) L.reader,
      optional 1 (fun r => [ReaderSession.expected r]) L.reader, [L.nextPart],
      errorBytes L.errors, u8 L.settings.threshold, counterBytes L.settings.line,
      counterBytes L.settings.check, counterBytes L.settings.order]

/-- LANE STATUS (R135). -/
def laneStatus (lane : Byte) (s : State) : Reply :=
  match laneOf lane with
  | none => refuse s .range
  | some l => .answer s .done (laneStatusBytes s l)

/-- LANE STATUS (R135). -/
def execLaneStatus (tag lane : Byte) (s : State) : Host.Outcome State Fault Refusal :=
  .next (takeRequest 26 tag (laneStatus lane) s)

end Sys2Proof.Machine
end

