-- ==== Sys2Proof/Machine/Supervisor.lean ====
section
/-! DEFINITION. The lane error supervisor's request (Chapter 9): LANE CLEAR. The counters, the threshold
and its actions stand in Flags.lean. -/

namespace Sys2Proof.Machine

/-- LANE CLEAR (R159): the response carries the values it clears. -/
def laneClear (lane : Byte) : State → Reply :=
  withLane lane fun l s =>
    .answer (s.modLane l fun L => { L with errors := startErrors }) .done (errorBytes (s.lane l).errors)

/-- LANE CLEAR (R159). -/
def execLaneClear (tag lane : Byte) (s : State) : Host.Outcome State Fault Refusal :=
  .next (takeRequest 27 tag (laneClear lane) s)

end Sys2Proof.Machine
end

