-- ==== Sys2Proof/Machine/Transactions.lean ====
section
/-! DEFINITION. Transactions on the store port (R169 to R172): request transactions as bytes on SDI, read
transactions, and the start that a RESTART response read in full brings (R181). -/

namespace Sys2Proof.Machine

/-- What the block that owns a request does with it (Table 11-2); none for an event. -/
def handlerOf : Instr → Option (State → Reply)
  | .arm _ lane amount till => some (arm lane amount till)
  | .abandon _ h => some (abandon h)
  | .take _ h => some (takePayload h)
  | .peek _ h => some (peek h)
  | .settle _ h result approval decline => some (settle h result approval decline)
  | .confirm _ h present code => some (confirm h present code)
  | .reject _ h => some (reject h)
  | .adjust _ h amount => some (adjust h amount)
  | .void _ h => some (voidPayment h)
  | .collect _ h index => some (collect h index)
  | .retire _ h => some (retire h)
  | .readRecord _ h => some (readRecord h)
  | .find _ form lane payment till => some (find form lane payment till)
  | .laneList _ lane start => some (laneList lane start)
  | .tableStatus _ => some tableStatus
  | .exposureRead _ => some exposureRead
  | .setLimits _ fields => some (setLimits fields)
  | .setTimers _ present outcome delivery life a b => some (setTimers present outcome delivery life a b)
  | .keyLoad _ generation block check => some (keyLoad generation block check)
  | .keyRoll _ => some keyRoll
  | .keyDrop _ generation => some (keyDrop generation)
  | .keyStatus _ present lane => some (keyStatus present lane)
  | .laneHold _ lane => some (laneHold lane)
  | .laneOpen _ lane => some (laneOpen lane)
  | .laneSetup _ lane settings => some (laneSetup lane settings)
  | .laneStatus _ lane => some (laneStatus lane)
  | .laneClear _ lane => some (laneClear lane)
  | .nextAttention _ => some nextAttention
  | .attentionMask _ classes lanes => some (attentionMask classes lanes)
  | .caseRead _ => some caseRead
  | .startRead _ => some startRead
  | .commission _ chain store currency exponent key fitted erasure level =>
    some (commission chain store currency exponent key fitted erasure level)
  | .restart _ => some restart
  | .requestFrameRefused _ | .requestDiscarded _ | .readTransaction _ | .storeTick
  | .presentTimerExpiry _ | .outcomeTimerExpiry _ | .deliveryTimerExpiry _ | .deferredLifeExpiry _
  | .captureCompletion | .followUpCompletion | .keyUnwrapCompletion | .lineCharacter .. | .lineBreak _
  | .gap _ | .assemblerTakeByte _ | .readerHello _ | .readerCard _ | .waitingCardDispatch _
  | .readerCancel _ | .readerAck _ | .badlyFormedFrame _ | .frameMoveToTransmitFifo _
  | .transmitCharacter _ | .holdInChange .. | .supplyBelowLevel _ | .supplyAboveRecoveryLevel _
  | .supplyBelowRecoveryLevel _ | .recoveryTimerExpiry | .engineSupplyChange | .caseLineChange ..
  | .powerApplied | .supplySettled _ | .resetAsserted | .resetReleased | .lineReturnToMark _ => none

/-- A request that has passed the port's checks is handed to its owning block (R170). -/
def handOver (i : Instr) (s : State) : State :=
  match handlerOf i, requestParts i with
  | some handler, some (kind, tag, _) => takeRequest kind tag handler s
  | _, _ => s

/-- A request transaction ends, with the bytes behind its start byte (R170, R171). -/
def requestTransaction (frame : List Byte) (s : State) : State :=
  match judgeFrame frame with
  | .malformed kind tag => takeRequest kind tag (fun s => refuse s .malformed) s
  | .unknownRequest kind tag => takeRequest kind tag (fun s => refuse s .unknownRequest) s
  | .passed i => handOver i s

/-- A read transaction, with the count of bytes clocked after the read byte (R172, R180, R181): the last
byte of the response read, the port is IDLE, and a RESTART accepted brings its start. -/
def readTransaction (count : Nat) (s : State) : State :=
  let s1 : State := { s with port := { s.port with sdo := s.sdoRead count } }
  match s.port.state with
  | .idle => s1
  | .serving .. => s1
  | .answering r =>
    if s.phase = .running ∧ r.frame.length ≤ count then
      let s2 : State := { s1 with port := { s1.port with state := .idle } }
      if r.kind = Config.restartKind ∧ r.status = .done then s2.completeStart .request else s2
    else s1

/-- A transaction on the store port, sorted by its first byte (R170, R172): a request transaction, a read
transaction, or one that is ignored. -/
def portTransaction (bytes : List Byte) (s : State) : State :=
  match bytes with
  | [] => s
  | first :: rest =>
    if first = Config.requestStartByte then requestTransaction rest s
    else if first = Config.readByte then readTransaction rest.length s
    else s

/-- A request transaction whose frame the port refuses (R170), by its bytes on SDI. -/
def execRequestFrameRefused (bytes : List Byte) (s : State) : Host.Outcome State Fault Refusal :=
  .next (portTransaction bytes s)

/-- A request transaction that ends while the port is SERVING or ANSWERING (R171), by its bytes on SDI. -/
def execRequestDiscarded (bytes : List Byte) (s : State) : Host.Outcome State Fault Refusal :=
  .next (portTransaction bytes s)

/-- A read transaction (R172). -/
def execReadTransaction (count : Nat) (s : State) : Host.Outcome State Fault Refusal :=
  .next (readTransaction count s)

end Sys2Proof.Machine
end

