-- ==== Sys2Proof/Machine/Dispatch.lean ====
section
/-! DEFINITION. The meaning of every command, one arm per constructor of Instr. -/

namespace Sys2Proof.Machine

/-- The effect of a command on everything but the queue. -/
def exec (i : Instr) (s : State) : Host.Outcome State Fault Refusal :=
  match i with
  | .arm tag lane amount till => Sys2Proof.Machine.execArm tag lane amount till s
  | .abandon tag handle => Sys2Proof.Machine.execAbandon tag handle s
  | .take tag handle => Sys2Proof.Machine.execTake tag handle s
  | .peek tag handle => Sys2Proof.Machine.execPeek tag handle s
  | .settle tag handle result approval decline => Sys2Proof.Machine.execSettle tag handle result approval decline s
  | .confirm tag handle present code => Sys2Proof.Machine.execConfirm tag handle present code s
  | .reject tag handle => Sys2Proof.Machine.execReject tag handle s
  | .adjust tag handle amount => Sys2Proof.Machine.execAdjust tag handle amount s
  | .void tag handle => Sys2Proof.Machine.execVoid tag handle s
  | .collect tag handle index => Sys2Proof.Machine.execCollect tag handle index s
  | .retire tag handle => Sys2Proof.Machine.execRetire tag handle s
  | .readRecord tag handle => Sys2Proof.Machine.execReadRecord tag handle s
  | .find tag form lane payment till => Sys2Proof.Machine.execFind tag form lane payment till s
  | .laneList tag lane start => Sys2Proof.Machine.execLaneList tag lane start s
  | .tableStatus tag => Sys2Proof.Machine.execTableStatus tag s
  | .exposureRead tag => Sys2Proof.Machine.execExposureRead tag s
  | .setLimits tag fields => Sys2Proof.Machine.execSetLimits tag fields s
  | .setTimers tag present outcome delivery life outcomeAction deferredAction => Sys2Proof.Machine.execSetTimers tag present outcome delivery life outcomeAction deferredAction s
  | .keyLoad tag generation block check => Sys2Proof.Machine.execKeyLoad tag generation block check s
  | .keyRoll tag => Sys2Proof.Machine.execKeyRoll tag s
  | .keyDrop tag generation => Sys2Proof.Machine.execKeyDrop tag generation s
  | .keyStatus tag present lane => Sys2Proof.Machine.execKeyStatus tag present lane s
  | .laneHold tag lane => Sys2Proof.Machine.execLaneHold tag lane s
  | .laneOpen tag lane => Sys2Proof.Machine.execLaneOpen tag lane s
  | .laneSetup tag lane settings => Sys2Proof.Machine.execLaneSetup tag lane settings s
  | .laneStatus tag lane => Sys2Proof.Machine.execLaneStatus tag lane s
  | .laneClear tag lane => Sys2Proof.Machine.execLaneClear tag lane s
  | .nextAttention tag => Sys2Proof.Machine.execNextAttention tag s
  | .attentionMask tag classes lanes => Sys2Proof.Machine.execAttentionMask tag classes lanes s
  | .caseRead tag => Sys2Proof.Machine.execCaseRead tag s
  | .startRead tag => Sys2Proof.Machine.execStartRead tag s
  | .commission tag chain store currency exponent transportKey fitted erasure level => Sys2Proof.Machine.execCommission tag chain store currency exponent transportKey fitted erasure level s
  | .restart tag => Sys2Proof.Machine.execRestart tag s
  | .requestFrameRefused bytes => Sys2Proof.Machine.execRequestFrameRefused bytes s
  | .requestDiscarded bytes => Sys2Proof.Machine.execRequestDiscarded bytes s
  | .readTransaction count => Sys2Proof.Machine.execReadTransaction count s
  | .storeTick => Sys2Proof.Machine.execStoreTick s
  | .presentTimerExpiry slot => Sys2Proof.Machine.execPresentTimerExpiry slot s
  | .outcomeTimerExpiry slot => Sys2Proof.Machine.execOutcomeTimerExpiry slot s
  | .deliveryTimerExpiry slot => Sys2Proof.Machine.execDeliveryTimerExpiry slot s
  | .deferredLifeExpiry slot => Sys2Proof.Machine.execDeferredLifeExpiry slot s
  | .captureCompletion => Sys2Proof.Machine.execCaptureCompletion s
  | .followUpCompletion => Sys2Proof.Machine.execFollowUpCompletion s
  | .keyUnwrapCompletion => Sys2Proof.Machine.execKeyUnwrapCompletion s
  | .lineCharacter lane byte stopAtMark => Sys2Proof.Machine.execLineCharacter lane byte stopAtMark s
  | .lineBreak lane => Sys2Proof.Machine.execLineBreak lane s
  | .gap lane => Sys2Proof.Machine.execGap lane s
  | .assemblerTakeByte lane => Sys2Proof.Machine.execAssemblerTakeByte lane s
  | .readerHello lane => Sys2Proof.Machine.execReaderHello lane s
  | .readerCard lane => Sys2Proof.Machine.execReaderCard lane s
  | .waitingCardDispatch lane => Sys2Proof.Machine.execWaitingCardDispatch lane s
  | .readerCancel lane => Sys2Proof.Machine.execReaderCancel lane s
  | .readerAck lane => Sys2Proof.Machine.execReaderAck lane s
  | .badlyFormedFrame lane => Sys2Proof.Machine.execBadlyFormedFrame lane s
  | .frameMoveToTransmitFifo lane => Sys2Proof.Machine.execFrameMoveToTransmitFifo lane s
  | .transmitCharacter lane => Sys2Proof.Machine.execTransmitCharacter lane s
  | .holdInChange lane asserted => Sys2Proof.Machine.execHoldInChange lane asserted s
  | .supplyBelowLevel millivolts => Sys2Proof.Machine.execSupplyBelowLevel millivolts s
  | .supplyAboveRecoveryLevel millivolts => Sys2Proof.Machine.execSupplyAboveRecoveryLevel millivolts s
  | .supplyBelowRecoveryLevel millivolts => Sys2Proof.Machine.execSupplyBelowRecoveryLevel millivolts s
  | .recoveryTimerExpiry => Sys2Proof.Machine.execRecoveryTimerExpiry s
  | .engineSupplyChange => Sys2Proof.Machine.execEngineSupplyChange s
  | .caseLineChange line level => Sys2Proof.Machine.execCaseLineChange line level s
  | .powerApplied => Sys2Proof.Machine.execPowerApplied s
  | .supplySettled millivolts => Sys2Proof.Machine.execSupplySettled millivolts s
  | .resetAsserted => Sys2Proof.Machine.execResetAsserted s
  | .resetReleased => Sys2Proof.Machine.execResetReleased s
  | .lineReturnToMark lane => Sys2Proof.Machine.execLineReturnToMark lane s

end Sys2Proof.Machine
end

