-- ==== Sys2Proof/Safety.lean ====
section
/-! DEFINITION. What must hold of the part: the vocabulary of the statements, and the invariants that every
command keeps. -/

namespace Sys2Proof.Machine

/-! ## Vocabulary -/

/-- The port is IDLE in a running part: the next request transaction is taken (R171). -/
def State.accepts (s : State) : Prop :=
  s.phase = .running ∧ s.port.state = .idle

/-- The state with the record of an occupied slot replaced, its tag kept. -/
def State.withRecordAt (s : State) (slot : Slot) (r : Record) : State :=
  s.setCell slot { tag := (s.cell slot).tag, record := some r }

/-- The status of the first check that fails, in the order given; none when every check passes. -/
def firstFailing (checks : List (Bool × Status)) : Option Status :=
  (checks.find? fun c => c.1).map fun c => c.2

/-- The state with a reader's frame taken from a lane's slot and, on a READY lane, the expected reader
sequence advanced (R128, R140). -/
def State.frameTaken (s : State) (l : LaneId) : State :=
  (s.modLane l Lane.emptySlot).modLane l Lane.advanceExpected

/-- A good frame stands in a lane's slot, its sequence the one expected on a READY lane (R140). -/
def State.inTurn (s : State) (l : LaneId) (f : LaneFrame) : Prop :=
  s.phase = .running ∧ (s.lane l).mode = .ready ∧ (s.lane l).slot = some f ∧
    (s.lane l).reader.map (fun r => r.expected) = some f.sequence

/-- Every slot but one holds what it held. -/
def SlotsKept (s t : State) (slot : Slot) : Prop :=
  ∀ x, x ≠ slot → t.cell x = s.cell x

/-- Every lane but one is as it was. -/
def LanesKept (s t : State) (l : LaneId) : Prop :=
  ∀ x, x ≠ l → t.lane x = s.lane x

/-- Every lane's book but one is as it was. -/
def BooksKept (s t : State) (l : LaneId) : Prop :=
  ∀ x, x ≠ l → t.book x = s.book x

/-- The moves of a record's state from one event to the next (Chapters 2 to 4 and 10; R12, R26). -/
def PaymentState.mayBecome : PaymentState → PaymentState → Bool
  | .armed, .capturing | .armed, .cancelled | .armed, .failed => true
  | .capturing, .wrapped | .capturing, .cancelled | .capturing, .failed => true
  | .wrapped, .released | .wrapped, .cancelled => true
  | .released, .approved | .released, .declined | .released, .deferred | .released, .lapsed => true
  | .approved, .voided => true
  | .deferred, .approved | .deferred, .rejected | .deferred, .voided | .deferred, .lapsed => true
  | a, b => decide (a = b)

/-! ## Ranges (R50, R69, R134) -/

/-- A lane's settings lie in their ranges (R134). -/
def LaneSettings.inRange (c : LaneSettings) : Prop :=
  8 ≤ c.high ∧ c.high ≤ 127 ∧ c.low + 8 ≤ c.high ∧ 1 ≤ c.threshold ∧ c.threshold ≤ 255

/-- The limits lie in their ranges (R69). -/
def Limits.inRange (c : Limits) : Prop :=
  c.floor ≤ 99999999 ∧ c.laneCeiling ≤ 999999999 ∧ c.storeCeiling ≤ 999999999 ∧ c.adjustCap ≤ 50 ∧
    16 ≤ c.reserve ∧ c.reserve ≤ 4096 ∧ 1 ≤ c.warning ∧ c.warning ≤ 65535 ∧ c.lowMark ≤ 2047 ∧
    1 ≤ c.share ∧ c.share ≤ 2048

/-- The timer settings lie in their ranges (R50). -/
def TimerSettings.inRange (c : TimerSettings) : Prop :=
  10 ≤ c.present ∧ c.present ≤ 900 ∧ 10 ≤ c.outcome ∧ c.outcome ≤ 900 ∧ 2 ≤ c.delivery ∧
    c.delivery ≤ 120 ∧ 1 ≤ c.life ∧ c.life ≤ 168

/-- Every setting of the part lies in its range. -/
def State.settingsInRange (s : State) : Prop :=
  s.limits.inRange ∧ s.timers.inRange ∧ ∀ l, (s.lane l).settings.inRange

/-! ## Buffers and counters of a lane (R125, R129, R130, R152) -/

/-- A lane's buffers keep within their capacities, a receive fill at the high mark has its hold set, and its
error counters keep to 255. -/
def Lane.bounded (L : Lane) : Prop :=
  L.fill ≤ 128 ∧ L.txFifo.length ≤ 64 ∧ L.outbound.length ≤ 4 ∧
    (L.settings.high ≤ L.fill → L.fillHold = true) ∧
    L.errors.line.value ≤ 255 ∧ L.errors.check.value ≤ 255 ∧ L.errors.order.value ≤ 255

/-- A lane that neither receives nor transmits has empty buffers and no reader; a reader session is present
exactly while the lane is READY (R121, R132, R136). -/
def Lane.quiet (L : Lane) : Prop :=
  (L.runs = false → L.rxFifo = [] ∧ L.frame = [] ∧ L.replay = [] ∧ L.slot = none ∧ L.outbound = [] ∧
      L.txFifo = []) ∧
    (L.reader.isSome = true ↔ L.mode = .ready)

/-- Every lane is bounded and quiet. -/
def State.lanesWellFormed (s : State) : Prop :=
  ∀ l, (s.lane l).bounded ∧ (s.lane l).quiet

/-! ## The engine's shares (R79, R81, R107, R108) -/

/-- The requested and automatic shares keep to their capacities. -/
def State.sharesHold (s : State) : Prop :=
  s.requestedCount ≤ 15 ∧ s.automaticCount ≤ 8

/-! ## The slots (R4, R6, R7) -/

/-- Every slot is on the free list or occupied, never both, and the lane lists hold exactly the occupied
slots of their lanes, each once. -/
def State.slotsPartitioned (s : State) : Prop :=
  s.table.free.Nodup ∧ (∀ slot, slot ∈ s.table.free ↔ s.recordAt slot = none) ∧
    (∀ l, (s.book l).list.Nodup) ∧
    ∀ l slot, slot ∈ (s.book l).list ↔ ∃ r, s.recordAt slot = some r ∧ r.lane = l

/-! ## The deferral account (R59) -/

/-- What a slot adds to the deferral total of a lane. -/
def State.deferredAmount (s : State) (l : LaneId) (slot : Slot) : Nat :=
  match s.recordAt slot with
  | some r => if r.state = .deferred ∧ r.lane = l then r.current else 0
  | none => 0

/-- What a slot adds to the deferred count of a lane. -/
def State.deferredOne (s : State) (l : LaneId) (slot : Slot) : Nat :=
  match s.recordAt slot with
  | some r => if r.state = .deferred ∧ r.lane = l then 1 else 0
  | none => 0

/-- Each lane's total and count are those of its DEFERRED records, and the store total is the sum of the
lanes' totals. -/
def State.accountHolds (s : State) : Prop :=
  (∀ l, (s.book l).total = ∑ slot, s.deferredAmount l slot) ∧
    (∀ l, (s.book l).count = ∑ slot, s.deferredOne l slot) ∧
    s.table.storeTotal = ∑ l, (s.book l).total

/-! ## A record's own fields (R12, R13, R16 to R19, R58) -/

/-- The states in which a record holds a capture payload (R16, R36). -/
def PaymentState.hasPayload : PaymentState → Bool
  | .wrapped | .released | .approved | .declined | .deferred | .rejected | .voided | .lapsed => true
  | .armed | .capturing | .cancelled | .failed => false

/-- The states in which a record may hold a card block (R58). -/
def PaymentState.mayHoldCard : PaymentState → Bool
  | .capturing | .wrapped | .released | .approved | .deferred | .voided | .lapsed => true
  | .armed | .declined | .rejected | .cancelled | .failed => false

/-- The states in which a state timer may run (R19). -/
def PaymentState.mayHaveTimer : PaymentState → Bool
  | .armed | .released | .deferred => true
  | .capturing | .wrapped | .approved | .declined | .rejected | .voided | .lapsed | .cancelled
  | .failed => false

/-- The states in which a record may hold follow-ups (R75, R77, R80). -/
def PaymentState.mayHoldFollowUps : PaymentState → Bool
  | .approved | .deferred | .rejected | .voided | .lapsed => true
  | .armed | .capturing | .wrapped | .released | .declined | .cancelled | .failed => false

/-- The states a record with a REVERSAL is in (R18, R75). -/
def PaymentState.mayHoldReversal : PaymentState → Bool
  | .voided | .lapsed => true
  | .armed | .capturing | .wrapped | .released | .approved | .declined | .deferred | .rejected
  | .cancelled | .failed => false

/-- A record's fields agree with its state: end reason (R13), delivery (R17, R48), timers and cancel pending
(R19), capture payload (R16), card block (R14, R58), follow-ups (R18), amounts (R12). -/
structure Record.WellFormed (r : Record) : Prop where
  endReason : r.endReason.isSome = true ↔ r.state = .cancelled ∨ r.state = .failed
  engaging : r.state.isEngaging = true → r.delivery.value = .none
  deliveryKind : r.delivery.kind.isSome = true ↔ r.delivery.value ≠ .none
  deliveryTimer : r.deliveryTimer.isSome = true ↔ r.delivery.value = .sent
  cancelPending : r.cancelPending.isSome = true → r.state = .capturing
  stateTimer : r.stateTimer.isSome = true → r.state.mayHaveTimer = true
  payload : r.payload.isSome = true ↔ r.state.hasPayload = true
  card : r.card.isSome = true → r.bound = true ∧ r.state.mayHoldCard = true
  bound : r.bound = true → r.binding.isSome = true ∧ r.summary.isSome = true
  followUps : r.followUps ≠ [] → r.state.mayHoldFollowUps = true
  adjusts : r.adjustCount ≤ 2
  reversal : (∃ f ∈ r.followUps, f.kind = .reversal) → r.state.mayHoldReversal = true
  reversalLast : ∀ f ∈ r.followUps.dropLast, f.kind = .adjust
  amounts : 1 ≤ r.original ∧ r.original ≤ 99999999 ∧ 1 ≤ r.current ∧ r.current ≤ 99999999

/-- Every record is well formed. -/
def State.recordsWellFormed (s : State) : Prop :=
  ∀ slot r, s.recordAt slot = some r → r.WellFormed

/-! ## The key table (R88, R89) -/

/-- An EMPTY entry holds no key, no binding and no counter; an entry that is not EMPTY holds a key; no
counter passes 65536 (R88). -/
def KeyEntry.WellFormed (e : KeyEntry) : Prop :=
  (e.state = .empty → e = KeyEntry.vacant) ∧ (e.state ≠ .empty → e.material.isSome = true) ∧
    ∀ l, look e.counters l ≤ 65536

/-- Every entry is well formed, and at most one is ACTIVE (R88, R89). -/
def State.keysWellFormed (s : State) : Prop :=
  (∀ i, (s.entry i).WellFormed) ∧
    ∀ i j, (s.entry i).state = .active → (s.entry j).state = .active → i = j

/-- At most one entry is PENDING, no two entries carry one generation number, and none carries 0 or a number
above the highest generation number (R89, R93). -/
def State.generationsHold (s : State) : Prop :=
  (∀ i j, (s.entry i).state = .pending → (s.entry j).state = .pending → i = j) ∧
    (∀ i j m n, (s.entry i).material = some m → (s.entry j).material = some n →
      m.generation = n.generation → i = j) ∧
    (∀ i m, (s.entry i).material = some m → 1 ≤ m.generation ∧ m.generation ≤ s.keys.highest) ∧
    s.keys.highest ≤ 65535

/-! ## Bindings (R97) -/

/-- A record is bound to a generation (R14, R97). -/
def Record.boundTo (r : Record) (generation : Nat) : Bool :=
  r.bound && decide (r.binding.map (fun b => b.generation) = some generation)

/-- The number of occupied records bound to a generation (R97). -/
def State.boundCount (s : State) (generation : Nat) : Nat :=
  ((List.finRange 2048).filter fun slot => (s.recordAt slot).any fun r => r.boundTo generation).length

/-- An entry's binding count is the number of records bound to its generation, every bound record is bound to
an ACTIVE or DRAINING entry (R97), and an ARMED record has no binding (R14). -/
def State.bindingsHold (s : State) : Prop :=
  (∀ i m, (s.entry i).material = some m → (s.entry i).bindings = s.boundCount m.generation) ∧
    (∀ slot r b, s.recordAt slot = some r → r.bound = true → r.binding = some b →
      ∃ i, s.entryOf b.generation = some i ∧
        ((s.entry i).state = .active ∨ (s.entry i).state = .draining)) ∧
    ∀ slot r, s.recordAt slot = some r → r.state = .armed → r.binding = none

/-! ## Engagements (R10) -/

/-- A lane's engaged handle is the current handle of an engaged record of that lane, and every engaged record
is named by its lane's engaged handle. -/
def State.engagementsHold (s : State) : Prop :=
  (∀ l h, (s.book l).engaged = some h →
      ∃ r, s.current? h = some r ∧ r.lane = l ∧ r.engaged = true) ∧
    ∀ slot r, s.recordAt slot = some r → r.engaged = true →
      (s.book r.lane).engaged = some (s.handleOf slot)

/-! ## Jobs (R107, R108) and WAITING reversals (R81) -/

/-- The job in service and the jobs of the queue, oldest first (R107). -/
def State.jobs (s : State) : List Job :=
  match s.engine.service with
  | .serving job _ => job :: s.engine.queue
  | .idle => s.engine.queue
  | .held => s.engine.queue

/-- What a job works for: the record and the part of it, or the one key table entry to load (R107). -/
def Job.target : Job → Option (Handle × Nat)
  | .capture h l g c => some (h, (Job.capture h l g c).part)
  | .followUp kind share h i l g c => some (h, (Job.followUp kind share h i l g c).part)
  | .unwrap .. => none

/-- A job agrees with what it works for: a capture job with its CAPTURING record, a follow-up job with its
WRAPPING entry (R107), a key-unwrap job with the KEY LOAD in service and what R91 keeps. -/
def State.jobHolds (s : State) : Job → Prop
  | .capture h l g c => ∃ r, s.current? h = some r ∧ r.state = .capturing ∧ r.lane = l ∧
      r.binding = some { generation := g, counter := c }
  | .followUp kind _ h i l g c => ∃ r b e, s.current? h = some r ∧ r.lane = l ∧ r.binding = some b ∧
      b.generation = g ∧ r.followUps[i]? = some e ∧ e.status = .wrapping ∧ e.kind = kind ∧
      e.counter = some c
  | .unwrap g _ _ => (∃ tag, s.port.state = .serving 19 tag) ∧ s.keys.highest < g ∧ g ≤ 65535 ∧
      (∀ i, (s.entry i).state ≠ .pending) ∧ ∃ i, (s.entry i).state = .empty

/-- Every job agrees with what it works for, and no two jobs work for the same (R107). -/
def State.jobsHold (s : State) : Prop :=
  (∀ job ∈ s.jobs, s.jobHolds job) ∧ (s.jobs.map Job.target).Nodup

/-- The WAITING set is ascending and holds exactly the records with a WAITING entry, which is a REVERSAL
without a counter on a record with its card block; while one waits the automatic share is full (R81). -/
def State.waitingHolds (s : State) : Prop :=
  s.table.waiting.Pairwise (fun a b => a < b) ∧
    (∀ slot, slot ∈ s.table.waiting ↔
      ∃ r, s.recordAt slot = some r ∧ ∃ f ∈ r.followUps, f.status = .waiting) ∧
    (∀ slot r f, s.recordAt slot = some r → f ∈ r.followUps → f.status = .waiting →
      f.kind = .reversal ∧ f.counter = none ∧ r.card.isSome = true) ∧
    (s.table.waiting ≠ [] → 8 ≤ s.automaticCount)

/-! ## Everything together -/

/-- The blocks agree with one another. The parts are kept together: each step keeps each of them from all. -/
structure State.Consistent (s : State) : Prop where
  slots : s.slotsPartitioned
  records : s.recordsWellFormed
  keys : s.keysWellFormed
  shares : s.sharesHold
  engagements : s.engagementsHold
  generations : s.generationsHold
  bindings : s.bindingsHold
  jobs : s.jobsHold
  waiting : s.waitingHolds

/-! ## Attention causes (R173, R174) -/

/-- The place of a cause in the reporting order: its class, then what R174 orders its class by. -/
def Cause.rank : Cause → Nat × Nat × Nat
  | .caseEvent _ => (1, 0, 0)
  | .supply _ => (2, 0, 0)
  | .drained g => (3, 0, g)
  | .warning l g => (3, l.val + 1, g)
  | .laneUp l => (4, l.val, 1)
  | .laneDown l => (4, l.val, 2)
  | .laneFaulted l _ => (4, l.val, 3)
  | .laneThreshold l kind => (4, l.val, 3 + kind.code)
  | .late l slot => (5, l.val, slot.val)
  | .ready l slot => (6, l.val, slot.val)
  | .ended l slot => (7, l.val, slot.val)
  | .table => (8, 0, 0)

/-- A cause is reported before another, or at the same place (R174). -/
def Cause.notAfter (a b : Cause) : Prop :=
  a.rank.1 < b.rank.1 ∨ a.rank.1 = b.rank.1 ∧
    (a.rank.2.1 < b.rank.2.1 ∨ a.rank.2.1 = b.rank.2.1 ∧ a.rank.2.2 ≤ b.rank.2.2)

/-- The members of the KEYS class stand in their order, each once (R173, R174). -/
def State.keysCausesOrdered (s : State) : Prop :=
  s.attention.drained.Pairwise (fun a b => a < b) ∧
    s.attention.warnings.Pairwise fun a b => a.1 < b.1 ∨ a.1 = b.1 ∧ a.2 < b.2

end Sys2Proof.Machine
end

