-- ==== Sys2Proof/Certificates/Slice0/Obligations.lean ====
section
/-! DEFINITION. The statements for the provers. Each is about every state and every operand that meets its
hypotheses; a response's flags are those of `State.respond`, and an equation of states says what stays. -/

open Sys2Proof Sys2Proof.Machine

/-! ## The step, reset and starts -/

/-- A step runs the command at the front on the state with the queue's rest. On an empty queue the part
idles: the model's choice, log entry 1. -/
def Obligations.StepRunsTheFrontCommand : Prop :=
  (∀ (c : Instr) (rest : List Instr) (s : State),
    step { s with pending := c :: rest } = exec c { s with pending := rest }) ∧
  ∀ s : State, s.pending = [] → step s = .next s

/-- Every command answers a next state in every state, never a fault or a refusal, and leaves the queue alone.
It says nothing of what that state holds, and many commands change nothing in many states: it is no completion
statement. That the commands stand in a queue is the model's choice, log entry 1; that a command whose
condition does not hold, or one in a state no rule reaches, is answered at all is log entries 3 and 16. -/
def Obligations.EveryCommandAnswersNext : Prop :=
  ∀ (i : Instr) (s : State), ∃ t, exec i s = .next t ∧ t.pending = s.pending

/-- The part right after reset: a factory part with every block at its start value, field by field. The pins,
hold-in among them, the start cause and the voltage are the model's choice, log entry 2; so are the line
receiver at mark, log entry 19, and the values last carried on SDO and on the transmit lines, log entry 20. -/
def Obligations.ResetIsTheFactoryPart : Prop :=
  State.reset.pending = [] ∧ State.reset.phase = .running ∧ State.reset.startCause = .power ∧
  State.reset.startUnread = true ∧ State.reset.resetPin = false ∧ State.reset.commission = none ∧
  State.reset.supply = { millivolts := 3300, state := .normal, recovering := false } ∧
  State.reset.caseMon =
    { lineA := .closed, lineB := .closed, registered := .closed, latch := none, erased := false } ∧
  State.reset.limits =
    { floor := 0, laneCeiling := 0, storeCeiling := 0, adjustCap := 25, reserve := 256
      warning := 60000, lowMark := 64, share := 256 } ∧
  State.reset.timers =
    { present := 120, outcome := 60, delivery := 15, life := 72
      outcomeAction := .notify, deferredAction := .notify } ∧
  (∀ slot, State.reset.cell slot = { tag := 0, record := none }) ∧
  State.reset.table.free = List.finRange 2048 ∧ State.reset.table.lowMarkArmed = true ∧
  State.reset.table.storeTotal = 0 ∧ State.reset.table.waiting = [] ∧
  (∀ l, State.reset.book l =
    { list := [], engaged := none, nextPayment := 1, expired := none, total := 0, count := 0 }) ∧
  (∀ i, State.reset.entry i =
    { state := .empty, material := none, bindings := 0, counters := Vector.replicate 16 0 }) ∧
  State.reset.keys.highest = 0 ∧ State.reset.engine = { queue := [], service := .idle } ∧
  (∀ l, (State.reset.lane l).mode = .off ∧ (State.reset.lane l).reader = none ∧
    (State.reset.lane l).settings.speed = .b38400 ∧ (State.reset.lane l).settings.high = 96 ∧
    (State.reset.lane l).settings.low = 32 ∧ (State.reset.lane l).settings.threshold = 16 ∧
    (∀ kind, (State.reset.lane l).settings.counter kind =
        { enable := true, terminal := .hold, attend := true, fault := false } ∧
      (State.reset.lane l).errors.get kind = { value := 0, terminal := false }) ∧
    (State.reset.lane l).rxFifo = [] ∧ (State.reset.lane l).fillHold = false ∧
    (State.reset.lane l).assembler = .hunt ∧ (State.reset.lane l).frame = [] ∧
    (State.reset.lane l).replay = [] ∧ (State.reset.lane l).slot = none ∧
    (State.reset.lane l).outbound = [] ∧ (State.reset.lane l).txFifo = [] ∧
    (State.reset.lane l).nextPart = 0 ∧ (State.reset.lane l).holdIn = false ∧
    (State.reset.lane l).rxLine = .mark ∧ (State.reset.lane l).txLine = none) ∧
  State.reset.attention.supply = none ∧ State.reset.attention.drained = [] ∧
  State.reset.attention.warnings = [] ∧ State.reset.attention.table = false ∧
  (∀ l, look State.reset.attention.lanes l =
    { up := false, down := false, faulted := none
      thresholdLine := false, thresholdCheck := false, thresholdOrder := false }) ∧
  State.reset.attention.classes = 0xFF ∧ State.reset.attention.laneMask = 0xFFFF ∧
  State.reset.port = { state := .idle, discarded := false, sdo := [] }

/-- The state after reset meets every invariant below. -/
def Obligations.ResetMeetsEveryInvariant : Prop :=
  State.reset.settingsInRange ∧ State.reset.lanesWellFormed ∧ State.reset.sharesHold ∧
  State.reset.slotsPartitioned ∧ State.reset.accountHolds ∧ State.reset.recordsWellFormed ∧
  State.reset.keysWellFormed ∧ State.reset.engagementsHold ∧ State.reset.generationsHold ∧
  State.reset.bindingsHold ∧ State.reset.jobsHold ∧ State.reset.waitingHolds ∧
  State.reset.keysCausesOrdered

/-- The four commands of a start leave every block at its start value (R180): the commissioning record, the
pins and the commands waiting stay, every fitted lane of a commissioned part is DOWN and every other lane
OFF, and the supply state is the comparison of the voltage with the level in force. The phases of a start
are the model's, log entry 13; a supply that settles outside a POWER start is no event, log entry 3. That
every lane's line receiver then stands at mark is the model's choice and not R180's, log entry 19, and so is
the cleared value of its transmit line, log entry 20.
Four outputs, as the state stands after each event (LTXD is stated with the transmit side): ATTENTION is
asserted exactly while an enabled, unmasked cause is pending (R177), ANSWER exactly in ANSWERING (R171, R172),
a lane's hold-out is released exactly in DOWN and READY with the fill hold clear (R125), and SDO carries the
idle byte throughout a request transaction and an ignored one, and in a read transaction the response and then
the idle byte (R170, R172; what it carries with the read byte is log entry 20). During a start ATTENTION and
ANSWER are released, every hold-out is asserted and SDO carries the idle byte (R180); that they stand so below
2.70 V too is the model's choice, log entry 13. -/
def Obligations.StartsLeaveTheStartValues : Prop :=
  (∀ s, exec .powerApplied s = .next (s.startValues (.starting .power) .power)) ∧
  (∀ s mv, s.phase = .starting .power → 2700 ≤ mv →
    exec (.supplySettled mv) s =
      .next ({ s with supply := { s.supply with millivolts := mv } }.startValues .running .power)) ∧
  (∀ s, s.phase = .running →
    exec .resetAsserted s =
      .next ({ s with resetPin := true }.startValues (.starting .pin) .pin)) ∧
  (∀ s, s.phase = .starting .pin →
    exec .resetReleased s = .next ({ s with resetPin := false }.startValues .running .pin)) ∧
  (∀ s mv, s.phase ≠ .starting .power ∨ mv < 2700 → exec (.supplySettled mv) s = .next s) ∧
  (∀ (s t : State) phase cause, t = s.startValues phase cause →
    t.pending = s.pending ∧ t.phase = phase ∧ t.startCause = cause ∧ t.startUnread = true ∧
    t.resetPin = s.resetPin ∧ t.commission = s.commission ∧
    t.supply = { millivolts := s.supply.millivolts,
                 state := if levelInForce s.commission < s.supply.millivolts then .normal else .low,
                 recovering := false } ∧
    t.caseMon = { lineA := s.caseMon.lineA, lineB := s.caseMon.lineB, registered := s.caseMon.current
                  latch := none, erased := false } ∧
    t.limits = State.reset.limits ∧ t.timers = State.reset.timers ∧ t.table = State.reset.table ∧
    t.keys = State.reset.keys ∧ t.attention = State.reset.attention ∧
    t.engine = { queue := [], service := if t.supply.state = .low then .held else .idle } ∧
    (∀ l, t.lane l =
      { State.reset.lane l with
        mode := if ∃ c, s.commission = some c ∧ l.val < c.fitted then .down else .off
        holdIn := (s.lane l).holdIn }) ∧
    t.port.state = .idle ∧ t.port.discarded = false) ∧
  ∀ s : State,
    (s.attentionOut = true ↔ s.phase = .running ∧ ∃ cause ∈ s.pendingCauses,
      s.attention.classes.getLsbD (cause.classNumber - 1) = true ∧
        ∀ l, cause.lane = some l → s.attention.laneMask.getLsbD l.val = true) ∧
    (s.answerOut = true ↔ s.phase = .running ∧ ∃ r, s.port.state = .answering r) ∧
    (∀ l, s.holdOut l = false ↔ s.phase = .running ∧
      ((s.lane l).mode = .down ∨ (s.lane l).mode = .ready) ∧ (s.lane l).fillHold = false) ∧
    (∀ (first : Byte) rest, first ≠ 0x5A →
      s.sdoOut (first :: rest) = 0xFF :: List.replicate rest.length 0xFF) ∧
    (∀ (r : Response) (rest : List Byte), s.phase = .running → s.port.state = .answering r →
      s.sdoOut (0x5A :: rest) =
        0xFF :: (r.frame.take rest.length ++ List.replicate (rest.length - r.frame.length) 0xFF)) ∧
    (∀ rest : List Byte, (∀ r, s.port.state ≠ .answering r) →
      s.sdoOut (0x5A :: rest) = 0xFF :: List.replicate rest.length 0xFF) ∧
    (s.phase ≠ .running → s.attentionOut = false ∧ s.answerOut = false ∧
      (∀ l, s.holdOut l = true) ∧ ∀ bytes, s.sdoOut bytes = List.replicate bytes.length 0xFF)

/-! ## Request frames and the port -/

/-- A request's frame on the bus, behind its start byte, is judged to be that request with every operand
(R170, R183, R184), and on the bus it does what the request does, under either command that carries the
bytes of a request transaction: for those two rows the model's choice, log entry 4.
The frame of each of the thirty-three requests is its kind, its tag, the length of its body, the body and the
check, the body being the fields in their order, each at its size (R183, R184, Table 12-1). -/
def Obligations.RequestFramesDecodeToTheirRequests : Prop :=
  (∀ (i : Instr) (frame : List Byte), requestFrame i = some frame →
    frame.head? = some 0xA5 ∧ judgeFrame frame.tail = .passed i ∧
    ∀ s, exec (.requestDiscarded frame) s = exec i s ∧ exec (.requestFrameRefused frame) s = exec i s) ∧
  let framed (i : Instr) (kind tag : Byte) (body : List Byte) : Prop :=
    let checked := [kind, tag] ++ bytesOf 2 body.length ++ body
    requestFrame i = some (0xA5 :: (checked ++ checkBytes checked))
  (∀ tag (h : Handle),
    let handle := bytesOf 2 h.toNat
    framed (.abandon tag h) 2 tag handle ∧ framed (.take tag h) 3 tag handle ∧
    framed (.peek tag h) 4 tag handle ∧ framed (.reject tag h) 7 tag handle ∧
    framed (.void tag h) 9 tag handle ∧ framed (.retire tag h) 11 tag handle ∧
    framed (.readRecord tag h) 12 tag handle ∧
    (∀ result (approval : Code6) decline, framed (.settle tag h result approval decline) 5 tag
      (handle ++ [result] ++ bytesOf 6 approval.toNat ++ [decline])) ∧
    (∀ present (code : Code6),
      framed (.confirm tag h present code) 6 tag (handle ++ [present] ++ bytesOf 6 code.toNat)) ∧
    (∀ amount : Word, framed (.adjust tag h amount) 8 tag (handle ++ bytesOf 4 amount.toNat)) ∧
    ∀ index, framed (.collect tag h index) 10 tag (handle ++ [index])) ∧
  (∀ tag lane,
    framed (.laneHold tag lane) 23 tag [lane] ∧ framed (.laneOpen tag lane) 24 tag [lane] ∧
    framed (.laneStatus tag lane) 26 tag [lane] ∧ framed (.laneClear tag lane) 27 tag [lane] ∧
    (∀ amount till : Word,
      framed (.arm tag lane amount till) 1 tag ([lane] ++ bytesOf 4 amount.toNat ++ bytesOf 4 till.toNat)) ∧
    (∀ form (payment : Half) (till : Word), framed (.find tag form lane payment till) 13 tag
      ([form, lane] ++ bytesOf 2 payment.toNat ++ bytesOf 4 till.toNat)) ∧
    (∀ start : Half, framed (.laneList tag lane start) 14 tag ([lane] ++ bytesOf 2 start.toNat)) ∧
    (∀ present, framed (.keyStatus tag present lane) 22 tag [present, lane]) ∧
    ∀ fields : Vector OptByte 16, framed (.laneSetup tag lane fields) 25 tag
      (lane :: (List.finRange 16).flatMap fun i => [(look fields i).present, (look fields i).value])) ∧
  ∀ tag,
    framed (.tableStatus tag) 15 tag [] ∧ framed (.exposureRead tag) 16 tag [] ∧
    framed (.keyRoll tag) 20 tag [] ∧ framed (.nextAttention tag) 28 tag [] ∧
    framed (.caseRead tag) 30 tag [] ∧ framed (.startRead tag) 31 tag [] ∧
    framed (.restart tag) 33 tag [] ∧
    (∀ fields : Vector OptWord 8, framed (.setLimits tag fields) 17 tag
      ((List.finRange 8).flatMap fun i => (look fields i).present :: bytesOf 4 (look fields i).value.toNat)) ∧
    (∀ (present outcome : Half) delivery life outcomeAction deferredAction,
      framed (.setTimers tag present outcome delivery life outcomeAction deferredAction) 18 tag
        (bytesOf 2 present.toNat ++ bytesOf 2 outcome.toNat ++
          [delivery, life, outcomeAction, deferredAction])) ∧
    (∀ (generation : Half) (key : Block) (check : BitVec 64), framed (.keyLoad tag generation key check) 19
      tag (bytesOf 2 generation.toNat ++ bytesOf 16 key.toNat ++ bytesOf 8 check.toNat)) ∧
    (∀ generation : Half, framed (.keyDrop tag generation) 21 tag (bytesOf 2 generation.toNat)) ∧
    (∀ classes (lanes : Half), framed (.attentionMask tag classes lanes) 29 tag
      ([classes] ++ bytesOf 2 lanes.toNat)) ∧
    ∀ (chain store : Word) (currency : Half) exponent (key : Block) fitted erasure level,
      framed (.commission tag chain store currency exponent key fitted erasure level) 32 tag
        (bytesOf 4 chain.toNat ++ bytesOf 4 store.toNat ++ bytesOf 2 currency.toNat ++ [exponent] ++
          bytesOf 16 key.toNat ++ [fitted, erasure, level])

/-- A response is formed with the flags of the moment: discarded request, which is cleared, ATTENTION, and
start unread (R171, R172); nothing but the port changes.
A read transaction carries the response from its start byte, then FFh, and FFh alone when no response
waits; the port is IDLE after the last byte of the response and keeps it until then (R172).
RESTART is answered DONE and changes nothing else; a read transaction that carries the whole of its
response brings a start with cause REQUEST (R181). The bytes of the last read transaction are kept in the
state: log entry 20.
The flags byte holds the three indications in bits 0, 1 and 2 and zeros above (R184), the status codes are
the twenty-seven of Table 11-1, and a number stands in its bytes most significant first (R183). -/
def Obligations.PortAnswersAndIsRead : Prop :=
  (∀ (s : State) kind tag status body,
     s.respond kind tag status body =
       { s with port :=
           { state := .answering
               { kind := kind, tag := tag, status := status
                 flags :=
                   { discarded := s.port.discarded, attention := s.attentionOut
                     startUnread := s.startUnread }
                 body := body }
             discarded := false
             sdo := s.port.sdo } }) ∧
  ((∀ s n, s.phase = .running → (∀ r, s.port.state ≠ .answering r) →
     exec (.readTransaction n) s =
       .next { s with port := { s.port with sdo := List.replicate n 0xFF } }) ∧
   (∀ s (r : Response) n, s.phase = .running → s.port.state = .answering r → n < r.frame.length →
     exec (.readTransaction n) s = .next { s with port := { s.port with sdo := r.frame.take n } }) ∧
   (∀ s (r : Response) n, s.phase = .running → s.port.state = .answering r → r.frame.length ≤ n →
     (r.kind = 33 → r.status ≠ .done) →
     exec (.readTransaction n) s =
       .next { s with port :=
         { s.port with state := .idle
                       sdo := r.frame ++ List.replicate (n - r.frame.length) 0xFF } }) ∧
   ∀ r : Response, r.frame =
     0xC3 :: ([r.kind, r.tag, BitVec.ofNat 8 r.status.code, r.flags.byte] ++ bytesOf 2 r.body.length ++
       r.body ++ checkBytes ([r.kind, r.tag, BitVec.ofNat 8 r.status.code, r.flags.byte] ++
         bytesOf 2 r.body.length ++ r.body))) ∧
  ((∀ s tag, s.accepts → exec (.restart tag) s = .next (s.respond 33 tag .done [])) ∧
   ∀ s (r : Response) n, s.phase = .running → s.port.state = .answering r → r.kind = 33 →
     r.status = .done → r.frame.length ≤ n →
     ∃ t, exec (.readTransaction n) s = .next t ∧ t.phase = .running ∧ t.startCause = .request ∧
       t = { s with port := { s.port with sdo := sdoBytes r.frame n } }.startValues .running .request) ∧
  (∀ f : ResponseFlags, f.byte.getLsbD 0 = f.discarded ∧ f.byte.getLsbD 1 = f.attention ∧
    f.byte.getLsbD 2 = f.startUnread ∧ ∀ i, 3 ≤ i → f.byte.getLsbD i = false) ∧
  [Status.done, .malformed, .unknownRequest, .notCommissioned, .locked, .range, .staleHandle, .wrongState,
      .notFound, .laneNotReady, .laneEngaged, .laneShare, .tableFull, .supplyLow, .caseOpen, .keyMissing,
      .keySpent, .keysLost, .exposure, .tooLate, .busyRecord, .engineFull, .genOrder, .pendingExists,
      .keyTableFull, .keyCheck, .noPending].map Status.code = List.range 27 ∧
  ∀ x, bytesOf 0 x = [] ∧ ∀ n, bytesOf (n + 1) x = BitVec.ofNat 8 (x / 256 ^ n) :: bytesOf n x

/-- The port refuses a frame with MALFORMED or UNKNOWN_REQUEST by the checks of R170, in their order, and
changes nothing else; a transaction that ends before the kind or the tag is MALFORMED with 0 in that place;
the thirty-three kinds have the body lengths of Table 12-1, and the requests with a frame are those a block
owns; a transaction whose first byte is neither the
request start byte nor the read byte is ignored (R170). A request transaction that ends while the port is
SERVING or ANSWERING is discarded, the mark set and nothing else changed (R171).
While the part does not run, no transaction is taken, a read transaction carries the idle byte alone, and no
event inside the part acts. For a start that is R180; below 2.70 V it is the model's choice, log entry 13, and
that such an event is answered at all is log entry 3. The bytes of the last read transaction are kept in the
state: log entry 20.
The rows REQUEST_FRAME_REFUSED and REQUEST_DISCARDED act by the bytes they carry and the port's state, and a
store request row that meets a busy port is discarded as its frame would be: the model's choice, log entry
4. -/
def Obligations.PortRefusesAndDiscards : Prop :=
  (∀ s (frame : List Byte) kind tag, s.accepts → judgeFrame frame = .malformed kind tag →
    exec (.requestFrameRefused (0xA5 :: frame)) s = .next (s.respond kind tag .malformed [])) ∧
  (∀ s (frame : List Byte) kind tag, s.accepts → judgeFrame frame = .unknownRequest kind tag →
    exec (.requestFrameRefused (0xA5 :: frame)) s = .next (s.respond kind tag .unknownRequest [])) ∧
  (∀ (kind tag a b : Byte) (rest : List Byte),
    let frame := kind :: tag :: a :: b :: rest
    let length := a.toNat * 256 + b.toNat
    let whole := length ≤ 512 ∧ length + 2 ≤ rest.length
    let checked := frame.take (length + 4)
    let sound := whole ∧ (rest.drop length).take 2 = checkBytes checked
    (¬ sound → judgeFrame frame = .malformed kind tag) ∧
    (sound → requestLength kind = none → judgeFrame frame = .unknownRequest kind tag) ∧
    (sound → (∃ n, requestLength kind = some n ∧ length ≠ n) →
      judgeFrame frame = .malformed kind tag)) ∧
  judgeFrame [] = .malformed 0 0 ∧ (∀ kind, judgeFrame [kind] = .malformed kind 0) ∧
  (∀ kind tag (rest : List Byte), rest.length < 2 →
    judgeFrame (kind :: tag :: rest) = .malformed kind tag) ∧
  ((List.range 34).map fun k => requestLength (BitVec.ofNat 8 k)) =
    none :: [9, 2, 2, 2, 10, 9, 2, 6, 2, 3, 2, 2, 8, 3, 0, 0, 40, 8, 26, 0, 2, 2, 1, 1, 33, 1, 1, 0, 3, 0, 0,
      30, 0].map some ∧
  (∀ kind : Byte, 34 ≤ kind.toNat → requestLength kind = none) ∧
  (∀ i, (handlerOf i).isSome = (requestFrame i).isSome) ∧
  (∀ s, exec (.requestFrameRefused []) s = .next s ∧ exec (.requestDiscarded []) s = .next s ∧
    ∀ (first : Byte) rest, first ≠ 0xA5 → first ≠ 0x5A →
      exec (.requestFrameRefused (first :: rest)) s = .next s ∧
      exec (.requestDiscarded (first :: rest)) s = .next s) ∧
  (∀ s, s.phase ≠ .running →
    (∀ i f, handlerOf i = some f → exec i s = .next s) ∧
    (∀ rest, exec (.requestFrameRefused (0xA5 :: rest)) s = .next s ∧
      exec (.requestDiscarded (0xA5 :: rest)) s = .next s) ∧
    (∀ n, exec (.readTransaction n) s =
      .next { s with port := { s.port with sdo := List.replicate n 0xFF } }) ∧
    (∀ i ∈ [Instr.storeTick, .captureCompletion, .followUpCompletion, .keyUnwrapCompletion,
      .recoveryTimerExpiry, .engineSupplyChange], exec i s = .next s) ∧
    (∀ slot, ∀ i ∈ [Instr.presentTimerExpiry slot, .outcomeTimerExpiry slot, .deliveryTimerExpiry slot,
      .deferredLifeExpiry slot], exec i s = .next s) ∧
    ∀ l byte stopAtMark, ∀ i ∈ [Instr.lineCharacter l byte stopAtMark, .lineBreak l, .lineReturnToMark l,
      .gap l, .assemblerTakeByte l, .readerHello l, .readerCard l, .waitingCardDispatch l, .readerCancel l,
      .readerAck l, .badlyFormedFrame l, .frameMoveToTransmitFifo l, .transmitCharacter l],
      exec i s = .next s) ∧
  (∀ (i : Instr) f s, handlerOf i = some f → s.phase = .running → s.port.state ≠ .idle →
    exec i s = .next { s with port := { s.port with discarded := true } }) ∧
  ∀ (frame : List Byte) s, s.phase = .running → s.port.state ≠ .idle →
    exec (.requestDiscarded (0xA5 :: frame)) s =
      .next { s with port := { s.port with discarded := true } }

/-- The frame check of R186, by its rule for one bit and its value over the nine digits; its two bytes stand
high byte first. -/
def Obligations.FrameCheckFollowsItsRule : Prop :=
  (∀ bytes, checkBytes bytes =
    [BitVec.ofNat 8 ((crc16 bytes).toNat / 256), BitVec.ofNat 8 (crc16 bytes).toNat]) ∧
  (∀ bytes b, crc16 [] = 0xFFFF ∧ crc16 (bytes ++ [b]) = (bitsOf b).foldl crcBit (crc16 bytes)) ∧
  (∀ b i, (h : i < 8) → (bitsOf b)[i]'(by simpa [bitsOf] using h) = b.getLsbD (7 - i)) ∧
  (∀ register bit, crcBit register bit =
    if register.getLsbD 15 = bit then register <<< 1 else (register <<< 1) ^^^ 0x1021) ∧
  crc16 [0x31, 0x32, 0x33, 0x34, 0x35, 0x36, 0x37, 0x38, 0x39] = 0x29B1 ∧
  ∀ bytes, checkBytes bytes =
    [(crc16 bytes).extractLsb' 8 8, (crc16 bytes).extractLsb' 0 8]

/-! ## Invariants every step keeps -/

/-- The limits, the timer settings and every lane's settings stay in their ranges (R50, R69, R134). -/
def Obligations.SettingsStayInRange : Prop :=
  ∀ s t : State, s.settingsInRange → step s = .next t → t.settingsInRange

/-- A lane's FIFOs, outbound list and error counters stay within their capacities, its fill hold is set
whenever its fill is at the high mark, a lane that neither receives nor transmits stays empty, and a
reader session is present exactly on a READY lane. -/
def Obligations.LanesStayWellFormed : Prop :=
  ∀ s t : State, s.settingsInRange → s.lanesWellFormed → step s = .next t → t.lanesWellFormed

/-- The requested share holds at most 15 jobs and the automatic share at most 8 (R79, R81).
From a state whose blocks agree with one another, every step leaves each job in agreement with what it works
for, no two jobs for the same record and part, and no two key unwraps (R107), and the WAITING set ascending
and exact, with the automatic share full while an entry waits (R81). So the queue holds at most 40 jobs, at
most one capture job for a lane and at most one key-unwrap job (R107, R108). -/
def Obligations.SharesStayWithinCapacity : Prop :=
  (∀ s t : State, s.sharesHold → step s = .next t → t.sharesHold) ∧
  (∀ s : State,
    s.requestedCount = (s.engine.queue.filter fun job => match job with
      | .followUp _ share .. => decide (share = .requested)
      | .capture .. => false
      | .unwrap .. => false).length ∧
    s.automaticCount = (s.engine.queue.filter fun job => match job with
      | .followUp _ share .. => decide (share = .automatic)
      | .capture .. => false
      | .unwrap .. => false).length) ∧
  (∀ s t : State, s.Consistent → step s = .next t → t.jobsHold ∧ t.waitingHolds) ∧
  ∀ s : State, s.Consistent →
    s.engine.queue.length ≤ 40 ∧
    (∀ l : LaneId, (s.engine.queue.filter fun job => match job with
      | .capture _ x _ _ => decide (x = l)
      | .followUp .. => false
      | .unwrap .. => false).length ≤ 1) ∧
    (s.engine.queue.filter fun job => match job with
      | .unwrap .. => true
      | .capture .. => false
      | .followUp .. => false).length ≤ 1

/-- Every slot stays either on the free list or occupied, and the lane lists stay exactly the occupied
slots of their lanes, each once (R4, R6, R7).
The free count and the occupied count together are 2048, and a lane list's length is the number of the
occupied records of its lane (R7). -/
def Obligations.SlotsStayPartitioned : Prop :=
  (∀ s t : State, s.slotsPartitioned → step s = .next t → t.slotsPartitioned) ∧
  (∀ s : State, s.slotsPartitioned →
     s.freeCount + s.occupiedCount = 2048 ∧
     s.occupiedCount = ((List.finRange 2048).filter fun slot => (s.recordAt slot).isSome).length ∧
     ∀ l, (s.book l).list.length =
       ((List.finRange 2048).filter fun slot => (s.recordAt slot).map Record.lane = some l).length)

/-- Each lane's deferral total and count stay those of its DEFERRED records, and the store total stays the
sum of the lanes' totals (R59). -/
def Obligations.AccountStaysExact : Prop :=
  ∀ s t : State, s.slotsPartitioned → s.accountHolds → step s = .next t → t.accountHolds

/-- A record's fields stay in agreement with its state (R13, R16 to R19, R58). -/
def Obligations.RecordsStayWellFormed : Prop :=
  ∀ s t : State, s.slotsPartitioned → s.recordsWellFormed → step s = .next t → t.recordsWellFormed

/-- Key table entries stay well formed, with at most one ACTIVE (R88, R89).
From a state whose blocks agree with one another, every step leaves at most one entry PENDING, the generation
numbers distinct and none above the highest generation number (R89, R93), each binding count the number of
records bound to its generation, and every bound record on an ACTIVE or DRAINING entry (R97). -/
def Obligations.KeyTableStaysWellFormed : Prop :=
  (∀ s t : State, s.keysWellFormed → step s = .next t → t.keysWellFormed) ∧
  ∀ s t : State, s.Consistent → step s = .next t → t.generationsHold ∧ t.bindingsHold

/-- A record keeps its handle, lane, payment number, till reference and original amount while it occupies
its slot, and a slot's reuse tag advances by one at an allocation and otherwise stays, apart from a start,
which discards every record (R2, R3, R11).
From a state whose blocks agree with one another, every step leaves each lane's engaged handle the current
handle of its one engaged record, and none when it has no engaged record (R10).
A handle names the slot that is its remainder by 2048 and carries the tag that is its quotient; it is current
exactly when that slot is occupied and its tag is the one carried, and the current handle of a slot is its tag
× 2048 + the slot number (R3). A record is engaged in the four engaging states and while its delivery is QUEUED
or SENT (R10). -/
def Obligations.RecordIdentityIsKept : Prop :=
  (∀ (s : State) (h : Handle), (slotOf h).val = h.toNat % 2048 ∧ tagOf h = h.toNat / 2048 ∧
    ∀ r, s.current? h = some r ↔
      s.recordAt (slotOf h) = some r ∧ (s.cell (slotOf h)).tag.val = tagOf h) ∧
  (∀ tag slot, (handleAt tag slot).toNat = tag.val * 2048 + slot.val ∧
    slotOf (handleAt tag slot) = slot ∧ tagOf (handleAt tag slot) = tag.val) ∧
  (∀ (s : State) slot, s.handleOf slot = handleAt (s.cell slot).tag slot ∧
    s.current? (s.handleOf slot) = s.recordAt slot) ∧
  (∀ r : Record, r.engaged = true ↔
    r.state ∈ [PaymentState.armed, .capturing, .wrapped, .released] ∨
      r.delivery.value = .queued ∨ r.delivery.value = .sent) ∧
  (∀ s t : State, s.Consistent → step s = .next t → t.engagementsHold) ∧
  ∀ s t : State, s.slotsPartitioned → step s = .next t →
    t.table = State.reset.table ∨
    ∀ slot,
      (∀ r q, s.recordAt slot = some r → t.recordAt slot = some q →
        (t.cell slot).tag = (s.cell slot).tag ∧ q.lane = r.lane ∧ q.payment = r.payment ∧
          q.till = r.till ∧ q.original = r.original) ∧
      (t.recordAt slot = none → (t.cell slot).tag = (s.cell slot).tag) ∧
      (s.recordAt slot = none → ∀ q, t.recordAt slot = some q →
        (t.cell slot).tag = (s.cell slot).tag + 1 ∧ q.state = .armed)

/-- A record's state moves only along the transitions of Chapters 2 to 4 and 10, one at a time. -/
def Obligations.RecordsMoveAlongTheirTransitions : Prop :=
  (∀ a b : PaymentState, a.mayBecome b = true ↔ a = b ∨ (a, b) ∈
    [ (PaymentState.armed, PaymentState.capturing), (.armed, .cancelled), (.armed, .failed),
      (.capturing, .wrapped), (.capturing, .cancelled), (.capturing, .failed), (.wrapped, .released),
      (.wrapped, .cancelled), (.released, .approved), (.released, .declined), (.released, .deferred),
      (.released, .lapsed), (.approved, .voided), (.deferred, .approved), (.deferred, .rejected),
      (.deferred, .voided), (.deferred, .lapsed) ]) ∧
  ∀ s t : State, s.slotsPartitioned → step s = .next t → ∀ slot r q,
    s.recordAt slot = some r → t.recordAt slot = some q → r.state.mayBecome q.state = true

/-- While an entry keeps its generation its lane counters never fall (R102). A counter taken from an entry
and a counter taken from it for the same lane after any one step differ, the later one greater: a take
advances the counter, and no step takes it back (R99, R102). -/
def Obligations.CountersAreNotHandedOutTwice : Prop :=
  (∀ (s t : State) (i : Fin 4) m m', s.keysWellFormed → step s = .next t →
    (s.entry i).material = some m → (t.entry i).material = some m' → m.generation = m'.generation →
    m' = m ∧ ∀ l, look (s.entry i).counters l ≤ look (t.entry i).counters l) ∧
  ∀ (s s1 t t1 : State) (i : Fin 4) g l limit limit' c c', s1.keysWellFormed →
    s.takeCounter g l limit = some (c, s1) → s1.entryOf g = some i → step s1 = .next t →
    t.entryOf g = some i → t.takeCounter g l limit' = some (c', t1) → c < c'

/-! ## Requests on payments -/

/-- ARM is checked in the order of R27: the first check that fails gives the status, and a refused ARM
changes nothing but the port. A lane byte names the lane of its number, and none above 15. -/
def Obligations.ArmIsRefusedInOrder : Prop :=
  (∀ (lane : Byte) l, laneOf lane = some l ↔ lane.toNat = l.val) ∧
  ∀ s tag (lane : Byte) (amount till : Word) status, s.accepts →
    firstFailing
      [ (s.commission.isNone, .notCommissioned),
        (decide (15 < lane.toNat ∨ amount.toNat = 0 ∨ 99999999 < amount.toNat), .range),
        (decide (∀ l, laneOf lane = some l → (s.lane l).mode ≠ .ready), .laneNotReady),
        (decide (s.supply.state = .low), .supplyLow),
        (decide (∀ l, laneOf lane = some l → (s.book l).engaged ≠ none), .laneEngaged),
        (decide (∀ i, (s.entry i).state ≠ .active), .keyMissing),
        (decide (∀ l, laneOf lane = some l → ∀ i, s.entryIn .active = some i →
          65536 - s.limits.reserve ≤ look (s.entry i).counters l), .keySpent),
        (decide (∀ l, laneOf lane = some l → s.limits.share ≤ (s.book l).list.length), .laneShare),
        (s.table.free.isEmpty, .tableFull) ] = some status →
    exec (.arm tag lane amount till) s = .next (s.respond 1 tag status [])

/-- An ARM that passes every check allocates the slot at the head of the free list: the tag advances, an
ARMED record stands there with its present timer, the slot joins the lane list, the lane is engaged, the
low mark is examined, a PRESENT is offered, and the response carries the handle and the payment number
(R2, R5, R9, R11, R28, R29). Nothing else changes. -/
def Obligations.ArmAllocatesAndPresents : Prop :=
  ∀ s tag (lane : Byte) (amount till : Word) c l i slot rest, s.accepts → s.commission = some c →
    laneOf lane = some l → 1 ≤ amount.toNat → amount.toNat ≤ 99999999 → (s.lane l).mode = .ready →
    s.supply.state = .normal → (s.book l).engaged = none → s.entryIn .active = some i →
    look (s.entry i).counters l < 65536 - s.limits.reserve →
    (s.book l).list.length < s.limits.share → s.table.free = slot :: rest →
    let handle := handleAt ((s.cell slot).tag + 1) slot
    let payment := (s.book l).nextPayment
    let crossed : Bool := decide (rest.length ≤ s.limits.lowMark) && s.table.lowMarkArmed
    ∃ t, exec (.arm tag lane amount till) s =
        .next (t.respond 1 tag .done (u16 handle.toNat ++ u16 payment)) ∧
      t = { s with table := t.table, lanes := t.lanes, attention := t.attention } ∧
      t.table.free = rest ∧
      t.cell slot =
        { tag := (s.cell slot).tag + 1
          record := some
            { lane := l, payment := payment, till := till, state := .armed
              original := amount.toNat, current := amount.toNat, endReason := none, binding := none
              bound := false, summary := none, card := none, payload := none, outcome := none
              delivery := { value := .none, kind := none, sequence := none }, followUps := []
              stateTimer := some { remaining := s.timers.present, action := none }
              deliveryTimer := none, cancelPending := none, late := false, ended := false } } ∧
      SlotsKept s t slot ∧
      t.book l = { s.book l with
        list := (s.book l).list ++ [slot], engaged := some handle
        nextPayment := if payment = 65535 then 1 else payment + 1 } ∧
      BooksKept s t l ∧
      t.table.lowMarkArmed = (s.table.lowMarkArmed && !crossed) ∧
      t.attention = { s.attention with table := s.attention.table || crossed } ∧
      t.table.storeTotal = s.table.storeTotal ∧ t.table.waiting = s.table.waiting ∧
      t.lane l = { s.lane l with
        outbound := offerTo (s.lane l).outbound (.present payment amount.toNat c.exponent) } ∧
      LanesKept s t l

/-- ABANDON acts by the record's state (R38, R39): ARMED, WRAPPED, and CAPTURING with its job still queued
become CANCELLED without timer, payload and card block, with a CLOSE queued; CAPTURING with its job in
service waits with the cancel pending; every other state refuses. The Ended mark is not set (R56). The body
codes are log entries 9 and 10. -/
def Obligations.AbandonActsByState : Prop :=
  (∀ st : PaymentState, st.isEngaging = true ↔ st ∈ [.armed, .capturing, .wrapped, .released]) ∧
  (∀ h job, Job.isCaptureOf h job = true ↔ ∃ l g c, job = .capture h l g c) ∧
  ∀ s tag h (r : Record), s.accepts → s.current? h = some r →
    let slot := slotOf h
    let cancelled : Record :=
      { r with
        state := .cancelled, endReason := some .abandoned, stateTimer := none, cancelPending := none
        payload := none, card := none }
    let t := (s.withRecordAt slot cancelled).queueClose slot .abandoned
    let withdrawn := s.setQueue (s.engine.queue.eraseP (Job.isCaptureOf h))
    let t' := (withdrawn.withRecordAt slot cancelled).queueClose slot .abandoned
    (r.state = .armed ∨ r.state = .wrapped →
      exec (.abandon tag h) s = .next (t.respond 2 tag .done [11, 0, 0])) ∧
    (r.state = .capturing → r.cancelPending = none → s.engine.queue.any (Job.isCaptureOf h) = true →
      exec (.abandon tag h) s = .next (t'.respond 2 tag .done [11, 0, 0])) ∧
    (r.state = .capturing → r.cancelPending = none → s.engine.queue.any (Job.isCaptureOf h) = false →
      exec (.abandon tag h) s =
        .next ((s.withRecordAt slot { r with cancelPending := some .abandoned }).respond 2 tag .done
          [2, 1, 2])) ∧
    (∀ reason, r.state = .capturing → r.cancelPending = some reason →
      exec (.abandon tag h) s =
        .next (s.respond 2 tag .done [2, 1, BitVec.ofNat 8 reason.code])) ∧
    (r.state.isEngaging = false ∨ r.state = .released →
      exec (.abandon tag h) s = .next (s.respond 2 tag .wrongState []))

/-- TAKE of a WRAPPED record returns its payload and makes it RELEASED with the outcome timer and action in
force; in every other state it is refused and changes nothing (R35).
COLLECT of a READY entry returns its kind, amount, counter and payload and makes it COLLECTED; nothing
else changes (R85). -/
def Obligations.PayloadsAreHandedOver : Prop :=
  (∀ s tag h (r : Record), s.accepts → s.current? h = some r →
     (∀ payload, r.state = .wrapped → r.payload = some payload →
       exec (.take tag h) s =
         .next ((s.withRecordAt (slotOf h)
           { r with
             state := .released
             stateTimer :=
               some { remaining := s.timers.outcome, action := some s.timers.outcomeAction } }).respond
           3 tag .done (bytesOf 2 payload.length ++ payload))) ∧
     (r.state ≠ .wrapped → exec (.take tag h) s = .next (s.respond 3 tag .wrongState []))) ∧
  (∀ s tag h (index : Byte) (r : Record) e c payload, s.accepts → s.current? h = some r →
     index.toNat ≤ 2 → r.followUps[index.toNat]? = some e → e.status = .ready → e.counter = some c →
     e.payload = some payload →
     exec (.collect tag h index) s =
       .next ((s.withRecordAt (slotOf h)
         { r with followUps := r.followUps.set index.toNat { e with status := .collected } }).respond
         10 tag .done
         (bytesOf 1 e.kind.code ++ bytesOf 4 e.amount ++ bytesOf 2 c ++ bytesOf 2 payload.length ++
           payload)))

/-- PEEK (R36): DONE with the length and the payload when the record holds one, WRONG_STATE when it holds
none, STALE_HANDLE for a stale handle; nothing but the port changes, so the READY condition of a WRAPPED
record stays. Under the invariant of records a payload is held from WRAPPED on, and an ARMED, CAPTURING,
CANCELLED or FAILED record holds none. -/
def Obligations.PeekReturnsThePayload : Prop :=
  (∀ s tag h, s.accepts → s.current? h = none →
    exec (.peek tag h) s = .next (s.respond 4 tag .staleHandle [])) ∧
  (∀ s tag h (r : Record) payload, s.accepts → s.current? h = some r → r.payload = some payload →
    exec (.peek tag h) s = .next (s.respond 4 tag .done (bytesOf 2 payload.length ++ payload))) ∧
  (∀ s tag h (r : Record), s.accepts → s.current? h = some r → r.payload = none →
    exec (.peek tag h) s = .next (s.respond 4 tag .wrongState [])) ∧
  (∀ (s : State) kind tag status body, { s.respond kind tag status body with port := s.port } = s) ∧
  ∀ (s : State) h (r : Record), s.recordsWellFormed → s.current? h = some r →
    (r.state = .armed ∨ r.state = .capturing ∨ r.state = .cancelled ∨ r.state = .failed →
      r.payload = none) ∧
    (r.state ≠ .armed → r.state ≠ .capturing → r.state ≠ .cancelled → r.state ≠ .failed →
      r.payload.isSome = true)

/-- An accepted SETTLE with APPROVE or DECLINE stores the outcome, stops the outcome timer, clears the Late
mark and queues the OUTCOME; DECLINED loses the card block (R42). The field the result does not use is
ignored (R41).
SETTLE with DEFER: the exposure checks of R60 in their order, each refusal naming its check and changing
nothing; past them the record is DEFERRED with its deferred-life timer, the account is raised and an
OUTCOME with result APPROVED is queued (R61). An approval code is six characters, each a digit or a capital
letter from A to Z (R16, R41). -/
def Obligations.SettlePostsTheOutcome : Prop :=
  (∀ code : Code6, codeBytes code = bytesOf 6 code.toNat) ∧
  (∀ b : Byte, isCodeChar b = true ↔
    0x30 ≤ b.toNat ∧ b.toNat ≤ 0x39 ∨ 0x41 ≤ b.toNat ∧ b.toNat ≤ 0x5A) ∧
  (∀ s tag h (approval : Code6) (decline : Byte) (r : Record), s.accepts → s.current? h = some r →
     r.state = .released → r.delivery.value = .none →
     let slot := slotOf h
     let approved : Record :=
       { r with
         state := .approved, stateTimer := none, late := false
         outcome := some { result := .approve, approval := some approval, decline := none } }
     let declined : Record :=
       { r with
         state := .declined, stateTimer := none, late := false, card := none
         outcome := some { result := .decline, approval := none, decline := some decline } }
     let told (q : Record) (code : Option Code6) : State :=
       (s.offer r.lane (.outcome r.payment code r.current)).withRecordAt slot
         { q with delivery := { value := .queued, kind := some .outcome, sequence := none } }
     let untold (q : Record) : State :=
       (s.modBook r.lane fun b => { b with engaged := none }).withRecordAt slot
         { q with delivery := { value := .unconfirmed, kind := some .outcome, sequence := none } }
     ((codeBytes approval).all isCodeChar = true →
       ((s.lane r.lane).mode = .ready →
         exec (.settle tag h 1 approval decline) s =
           .next ((told approved (some approval)).respond 5 tag .done [2])) ∧
       ((s.lane r.lane).mode ≠ .ready →
         exec (.settle tag h 1 approval decline) s =
           .next ((untold approved).respond 5 tag .done [5]))) ∧
     (decline.toNat ≤ 99 →
       ((s.lane r.lane).mode = .ready →
         exec (.settle tag h 2 approval decline) s =
           .next ((told declined none).respond 5 tag .done [2])) ∧
       ((s.lane r.lane).mode ≠ .ready →
         exec (.settle tag h 2 approval decline) s =
           .next ((untold declined).respond 5 tag .done [5])))) ∧
  (∀ s tag h (approval : Code6) (decline : Byte) (r : Record), s.accepts → s.current? h = some r →
     r.state = .released → (codeBytes approval).all isCodeChar = true →
     let slot := slotOf h
     let floorFails := s.limits.floor = 0 ∨ s.limits.floor < r.current
     let laneFails := s.limits.laneCeiling < (s.book r.lane).total + r.current
     let storeFails := s.limits.storeCeiling < s.table.storeTotal + r.current
     let raised := (s.modBook r.lane fun b =>
       { b with total := b.total + r.current, count := b.count + 1 })
     let account : State :=
       { raised with table := { raised.table with storeTotal := s.table.storeTotal + r.current } }
     let deferred : Record :=
       { r with
         state := .deferred, late := false
         outcome := some { result := .defer, approval := some approval, decline := none }
         stateTimer := some
           { remaining := s.timers.life * 3600, action := some s.timers.deferredAction } }
     let totals := bytesOf 4 ((s.book r.lane).total + r.current) ++
       bytesOf 4 (s.table.storeTotal + r.current)
     (floorFails → exec (.settle tag h 3 approval decline) s = .next (s.respond 5 tag .exposure [1])) ∧
     (¬ floorFails → laneFails →
       exec (.settle tag h 3 approval decline) s = .next (s.respond 5 tag .exposure [2])) ∧
     (¬ floorFails → ¬ laneFails → storeFails →
       exec (.settle tag h 3 approval decline) s = .next (s.respond 5 tag .exposure [3])) ∧
     (¬ floorFails → ¬ laneFails → ¬ storeFails → r.delivery.value = .none →
       ((s.lane r.lane).mode = .ready →
         exec (.settle tag h 3 approval decline) s =
           .next (((account.offer r.lane (.outcome r.payment (some approval) r.current)).withRecordAt slot
             { deferred with
               delivery := { value := .queued, kind := some .outcome, sequence := none } }).respond
             5 tag .done ([2] ++ totals))) ∧
       ((s.lane r.lane).mode ≠ .ready →
         exec (.settle tag h 3 approval decline) s =
           .next (((account.modBook r.lane fun b => { b with engaged := none }).withRecordAt slot
             { deferred with
               delivery := { value := .unconfirmed, kind := some .outcome, sequence := none } }).respond
             5 tag .done ([5] ++ totals)))))

/-- The requests on a record are refused in the orders of R3, R21, R35, R39, R41, R63, R64, R75, R77 and
R85: the first check that fails gives the status, and nothing but the port changes. A presence byte above 1
refuses CONFIRM with RANGE: log entry 11. -/
def Obligations.RecordRequestsAreRefusedInOrder : Prop :=
  ∀ s tag (h : Handle), s.accepts →
    let stale : Bool × Status := ((s.current? h).isNone, .staleHandle)
    let holds (test : Record → Bool) : Bool := (s.current? h).any test
    let tooLate : Bool × Status := (holds fun r => decide (r.state = .lapsed), .tooLate)
    let shareFull : Bool × Status := (decide (15 ≤ s.requestedCount), .engineFull)
    let spent : Bool × Status := (holds fun r => decide (∀ b, r.binding = some b →
      ∀ i, s.entryOf b.generation = some i → 65536 ≤ look (s.entry i).counters r.lane), .keySpent)
    let busy : Bool × Status := (holds fun r => r.followUps.any fun f =>
      decide (f.status = .waiting ∨ f.status = .wrapping), .busyRecord)
    let lost : Bool × Status := (holds fun r => r.card.isNone && r.binding.isSome && !r.bound, .keysLost)
    let cardless : Bool × Status := (holds fun r => r.card.isNone, .wrongState)
    let notApproved : Bool × Status := (holds fun r =>
      decide (r.state ≠ .approved ∧ r.state ≠ .deferred), .wrongState)
    let refuses (i : Instr) (kind : Byte) (checks : List (Bool × Status)) : Prop :=
      ∀ status, firstFailing checks = some status → exec i s = .next (s.respond kind tag status [])
    refuses (.take tag h) 3 [stale, (holds fun r => decide (r.state ≠ .wrapped), .wrongState)] ∧
    refuses (.abandon tag h) 2 [stale, (holds fun r => decide
      (r.state ≠ .armed ∧ r.state ≠ .capturing ∧ r.state ≠ .wrapped), .wrongState)] ∧
    refuses (.retire tag h) 11 [stale, (holds fun r => !r.closed, .wrongState)] ∧
    refuses (.readRecord tag h) 12 [stale] ∧
    (∀ (result : Byte) (approval : Code6) (decline : Byte),
      refuses (.settle tag h result approval decline) 5
        [stale,
          (decide (result ≠ 1 ∧ result ≠ 2 ∧ result ≠ 3 ∨
            (result = 1 ∨ result = 3) ∧ (codeBytes approval).all isCodeChar = false ∨
            result = 2 ∧ 99 < decline.toNat), .range),
          tooLate, (holds fun r => decide (r.state ≠ .released), .wrongState)]) ∧
    (∀ (present : Byte) (code : Code6),
      refuses (.confirm tag h present code) 6
        [stale, (decide (1 < present.toNat ∨ present = 1 ∧ (codeBytes code).all isCodeChar = false), .range),
          tooLate, (holds fun r => decide (r.state ≠ .deferred), .wrongState)]) ∧
    refuses (.reject tag h) 7
      [stale, tooLate, (holds fun r => decide (r.state ≠ .deferred), .wrongState),
        (holds fun r => r.followUps.any fun f => decide (f.status = .wrapping), .busyRecord)] ∧
    (∀ amount : Word,
      refuses (.adjust tag h amount) 8
        [stale, tooLate, notApproved,
          (holds fun r => decide (amount.toNat = 0 ∨
            min (r.original * (100 + s.limits.adjustCap) / 100) 99999999 < amount.toNat), .range),
          (holds fun r => decide (2 ≤ (r.followUps.filter fun f => f.kind = .adjust).length), .wrongState),
          lost, cardless, busy, shareFull, spent]) ∧
    refuses (.void tag h) 9 [stale, tooLate, notApproved, lost, cardless, busy, shareFull, spent] ∧
    ∀ index : Byte,
      refuses (.collect tag h index) 10
        [stale, (decide (2 < index.toNat), .range),
          (holds fun r => decide (r.followUps.length ≤ index.toNat), .notFound),
          (holds fun r => r.followUps[index.toNat]?.any fun f => decide (f.status ≠ .ready), .wrongState)]

/-- CONFIRM and REJECT take a DEFERRED record out of the account with its current amount (R62): CONFIRM
makes it APPROVED, with the new approval code when one is present (R63); REJECT makes it REJECTED without
its card block (R64). No frame is queued and the delivery stays. -/
def Obligations.ConfirmAndRejectLeaveTheAccount : Prop :=
  ∀ s tag h (r : Record), s.accepts → s.current? h = some r → r.state = .deferred →
    let slot := slotOf h
    let lowered := (s.modBook r.lane fun b =>
      { b with total := b.total - r.current, count := b.count - 1 })
    let account : State :=
      { lowered with table := { lowered.table with storeTotal := s.table.storeTotal - r.current } }
    let totals := bytesOf 4 ((s.book r.lane).total - r.current) ++
      bytesOf 4 (s.table.storeTotal - r.current)
    (∀ code : Code6,
      exec (.confirm tag h 0 code) s =
        .next ((account.withRecordAt slot { r with state := .approved, stateTimer := none }).respond
          6 tag .done totals)) ∧
    (∀ (code : Code6) o, (codeBytes code).all isCodeChar = true → r.outcome = some o →
      exec (.confirm tag h 1 code) s =
        .next ((account.withRecordAt slot
          { r with
            state := .approved, stateTimer := none
            outcome := some { o with approval := some code } }).respond 6 tag .done totals)) ∧
    ((∀ f ∈ r.followUps, f.status ≠ .wrapping) →
      exec (.reject tag h) s =
        .next ((account.withRecordAt slot
          { r with state := .rejected, stateTimer := none, card := none }).respond 7 tag .done totals))

/-- The adjust ceiling of R74: the original amount by the cap, rounded down and limited to 99,999,999; an
ADJUST passes the ceiling check exactly for an amount from 1 to it, in its place in the order of R75. -/
def Obligations.AdjustCeilingFollowsTheCap : Prop :=
  (∀ cap original, adjustCeiling cap original =
    if original * (100 + cap) / 100 ≤ 99999999 then original * (100 + cap) / 100 else 99999999) ∧
  adjustCeiling 25 4500 = 5625 ∧ adjustCeiling 25 999 = 1248 ∧ adjustCeiling 0 1000 = 1000 ∧
  adjustCeiling 50 80000000 = 99999999 ∧
  ∀ s tag h (r : Record) (amount : Word), s.accepts → s.current? h = some r →
    r.state = .approved ∨ r.state = .deferred →
    ((amount.toNat < 1 ∨ adjustCeiling s.limits.adjustCap r.original < amount.toNat) →
      exec (.adjust tag h amount) s = .next (s.respond 8 tag .range [])) ∧
    (1 ≤ amount.toNat → amount.toNat ≤ adjustCeiling s.limits.adjustCap r.original →
      ∀ t, exec (.adjust tag h amount) s = .next t →
        ∀ answer, t.port.state = .answering answer → answer.status ≠ .range)

/-- An accepted ADJUST adds a WRAPPING entry with its counter, sets the current amount, moves the account of
a DEFERRED record by the difference and places its job in the requested share (R67, R73, R76); one that
would pass a ceiling is refused with EXPOSURE and changes nothing (R67).
An accepted VOID adds a WRAPPING REVERSAL for the current amount with its counter, makes the record
VOIDED, takes a DEFERRED record out of the account and places its job in the requested share (R62, R68,
R73, R78). The totals' bytes in the response are log entry 9. -/
def Obligations.AdjustAndVoidAddAFollowUp : Prop :=
  (∀ s tag h (amount : Word) (r : Record) b c s', s.accepts → s.current? h = some r →
     1 ≤ amount.toNat → amount.toNat ≤ adjustCeiling s.limits.adjustCap r.original →
     (r.followUps.filter fun f => f.kind = .adjust).length < 2 → r.card.isSome = true →
     (∀ f ∈ r.followUps, f.status ≠ .waiting ∧ f.status ≠ .wrapping) → s.requestedCount < 15 →
     r.binding = some b → s.takeCounter b.generation r.lane 65536 = some (c, s') →
     let slot := slotOf h
     let index := r.followUps.length
     let adjusted : Record :=
       { r with
         current := amount.toNat
         followUps := r.followUps ++
           [{ kind := .adjust, amount := amount.toNat, counter := some c, status := .wrapping
              payload := none }] }
     let job : Job := .followUp .adjust .requested h index r.lane b.generation c
     let entry := bytesOf 1 index ++ bytesOf 2 c ++ bytesOf 4 amount.toNat
     let laneTotal := (s.book r.lane).total + amount.toNat - r.current
     let storeTotal := s.table.storeTotal + amount.toNat - r.current
     let moved := s'.modBook r.lane fun k => { k with total := laneTotal }
     let account : State := { moved with table := { moved.table with storeTotal := storeTotal } }
     (r.state = .approved →
       exec (.adjust tag h amount) s =
         .next (((s'.withRecordAt slot adjusted).placeJob job).respond 8 tag .done
           (entry ++ List.replicate 9 0))) ∧
     (r.state = .deferred → r.current < amount.toNat →
       s.limits.laneCeiling < (s.book r.lane).total + (amount.toNat - r.current) →
       exec (.adjust tag h amount) s = .next (s.respond 8 tag .exposure [2])) ∧
     (r.state = .deferred → r.current < amount.toNat →
       (s.book r.lane).total + (amount.toNat - r.current) ≤ s.limits.laneCeiling →
       s.limits.storeCeiling < s.table.storeTotal + (amount.toNat - r.current) →
       exec (.adjust tag h amount) s = .next (s.respond 8 tag .exposure [3])) ∧
     (r.state = .deferred →
       (r.current < amount.toNat →
         (s.book r.lane).total + (amount.toNat - r.current) ≤ s.limits.laneCeiling ∧
         s.table.storeTotal + (amount.toNat - r.current) ≤ s.limits.storeCeiling) →
       exec (.adjust tag h amount) s =
         .next (((account.withRecordAt slot adjusted).placeJob job).respond 8 tag .done
           (entry ++ [1] ++ bytesOf 4 laneTotal ++ bytesOf 4 storeTotal)))) ∧
  (∀ s tag h (r : Record) b c s', s.accepts → s.current? h = some r → r.card.isSome = true →
     (∀ f ∈ r.followUps, f.status ≠ .waiting ∧ f.status ≠ .wrapping) → s.requestedCount < 15 →
     r.binding = some b → s.takeCounter b.generation r.lane 65536 = some (c, s') →
     let slot := slotOf h
     let index := r.followUps.length
     let voided : Record :=
       { r with
         state := .voided, stateTimer := none
         followUps := r.followUps ++
           [{ kind := .reversal, amount := r.current, counter := some c, status := .wrapping
              payload := none }] }
     let job : Job := .followUp .reversal .requested h index r.lane b.generation c
     let entry := bytesOf 1 index ++ bytesOf 2 c ++ bytesOf 4 r.current
     let laneTotal := (s.book r.lane).total - r.current
     let storeTotal := s.table.storeTotal - r.current
     let moved := s'.modBook r.lane fun k => { k with total := laneTotal, count := k.count - 1 }
     let account : State := { moved with table := { moved.table with storeTotal := storeTotal } }
     (r.state = .approved →
       exec (.void tag h) s =
         .next (((s'.withRecordAt slot voided).placeJob job).respond 9 tag .done
           (entry ++ List.replicate 9 0))) ∧
     (r.state = .deferred →
       exec (.void tag h) s =
         .next (((account.withRecordAt slot voided).placeJob job).respond 9 tag .done
           (entry ++ [1] ++ bytesOf 4 laneTotal ++ bytesOf 4 storeTotal))))

/-- RETIRE of a closed record frees its slot: the record is gone and its tag stays, the slot leaves its lane
list and joins the free list at the tail, the low-mark indicator may re-arm, and a bound record lowers its
generation's binding count, which drains a DRAINING entry at 0 (R9, R21, R97, R98).
A record is closed when its state is a closing one, its delivery is NONE, ACKED or UNCONFIRMED, and each of its
follow-ups is COLLECTED or FAILED (R20). A generation number joins "generation drained" once, in its place. -/
def Obligations.RetireFreesTheSlot : Prop :=
  (∀ r : Record, r.closed = true ↔
    r.state ∈ [PaymentState.approved, .declined, .rejected, .voided, .lapsed, .cancelled, .failed] ∧
      r.delivery.value ∈ [DeliveryValue.none, .acked, .unconfirmed] ∧
      ∀ f ∈ r.followUps, f.status = .collected ∨ f.status = .failed) ∧
  (∀ (g : Nat) drained, drained.Pairwise (fun a b => a < b) →
    (insertBy (fun x y => decide (x < y)) g drained).Pairwise (fun a b => a < b) ∧
      ∀ x, x ∈ insertBy (fun x y => decide (x < y)) g drained ↔ x = g ∨ x ∈ drained) ∧
  ∀ s tag h (r : Record), s.accepts → s.current? h = some r → r.closed = true →
    let slot := slotOf h
    ∃ t, exec (.retire tag h) s = .next (t.respond 11 tag .done (bytesOf 4 (s.freeCount + 1))) ∧
      t = { s with table := t.table, keys := t.keys, attention := t.attention } ∧
      t.cell slot = { tag := (s.cell slot).tag, record := none } ∧ SlotsKept s t slot ∧
      t.table.free = s.table.free ++ [slot] ∧
      t.book r.lane = { s.book r.lane with list := (s.book r.lane).list.erase slot } ∧
      BooksKept s t r.lane ∧
      t.table.lowMarkArmed =
        (s.table.lowMarkArmed || decide (s.limits.lowMark < s.freeCount + 1)) ∧
      t.table.storeTotal = s.table.storeTotal ∧ t.table.waiting = s.table.waiting ∧
      (r.bound = false ∨ r.binding = none → t.keys = s.keys ∧ t.attention = s.attention) ∧
      ∀ b i, r.bound = true → r.binding = some b → s.entryOf b.generation = some i →
        t.keys.highest = s.keys.highest ∧ (∀ j, j ≠ i → t.entry j = s.entry j) ∧
        ((s.entry i).state = .draining → (s.entry i).bindings = 1 →
          t.entry i =
            { state := .empty, material := none, bindings := 0, counters := Vector.replicate 16 0 } ∧
          t.attention = { s.attention with
            drained := insertBy (fun x y => decide (x < y)) b.generation s.attention.drained }) ∧
        ((s.entry i).state ≠ .draining ∨ 2 ≤ (s.entry i).bindings →
          t.entry i = { s.entry i with bindings := (s.entry i).bindings - 1 } ∧
          t.attention = s.attention)

/-- The reading requests answer DONE in every state of the part and change nothing but the port: READ RECORD
(R22), FIND (R23), LANE LIST (R24), TABLE STATUS (R25), EXPOSURE READ (R71), KEY STATUS (R104) and LANE
STATUS (R135), each with the bytes of its items in the order of its table, an item that may be absent behind
its presence indication (R183). They are refused with STALE_HANDLE, RANGE and NOT_FOUND as those rules give.
The body layouts are the model's choice where R183 leaves them open, log entry 9; a timer at 0 is absent, log
entry 5; the codes of values no table numbers, the low-mark indicator among them, are log entry 10; a
presence byte of KEY STATUS above 1 is RANGE, log entry 11. -/
def Obligations.ReadingRequestsAnswer : Prop :=
  (∀ s tag, s.accepts →
    (∀ h r, s.current? h = some r →
      exec (.readRecord tag h) s = .next (s.respond 12 tag .done (recordBytes h r))) ∧
    (∀ (lane : Byte) (payment : Half) till l slot rest, laneOf lane = some l → payment ≠ 0 →
      (s.book l).list.filter (fun x => (s.recordAt x).any fun r => r.payment = payment.toNat) =
        slot :: rest →
      exec (.find tag 1 lane payment till) s =
        .next (s.respond 13 tag .done
          (bytesOf 2 (s.handleOf slot).toNat ++ bytesOf 2 (rest.length + 1)))) ∧
    (∀ (lane : Byte) (payment : Half) till slot rest,
      (List.finRange 2048).filter (fun x => (s.recordAt x).any fun r => r.till = till) = slot :: rest →
      exec (.find tag 2 lane payment till) s =
        .next (s.respond 13 tag .done
          (bytesOf 2 (s.handleOf slot).toNat ++ bytesOf 2 (rest.length + 1)))) ∧
    (∀ (lane : Byte) (start : Half) l, laneOf lane = some l → start.toNat ≤ 2047 →
      ∃ page : List Slot, page.length = min 64 ((s.book l).list.length - start.toNat) ∧
        page <+: (s.book l).list.drop start.toNat ∧
        exec (.laneList tag lane start) s =
          .next (s.respond 14 tag .done
            (bytesOf 2 (s.book l).list.length ++
              page.flatMap fun x => bytesOf 2 (s.handleOf x).toNat))) ∧
    exec (.tableStatus tag) s =
      .next (s.respond 15 tag .done (List.flatten
        [ bytesOf 4 s.freeCount, bytesOf 4 s.occupiedCount, bytesOf 4 s.limits.lowMark,
          [if s.table.lowMarkArmed then 1 else 2], bytesOf 4 s.limits.share,
          (List.finRange 16).flatMap fun l => bytesOf 2 (s.book l).list.length,
          (List.finRange 16).flatMap fun l => match (s.book l).engaged with
            | some h => 1 :: bytesOf 2 h.toNat
            | none => [0, 0, 0],
          (List.finRange 16).flatMap fun l => bytesOf 2 (s.book l).nextPayment ])) ∧
    exec (.exposureRead tag) s =
      .next (s.respond 16 tag .done (List.flatten
        [ bytesOf 4 s.table.storeTotal,
          (List.finRange 16).flatMap fun l => bytesOf 4 (s.book l).total,
          (List.finRange 16).flatMap fun l => bytesOf 2 (s.book l).count,
          bytesOf 2 ((List.finRange 16).map fun l => (s.book l).count).sum,
          bytesOf 4 s.limits.floor, bytesOf 4 s.limits.laneCeiling,
          bytesOf 4 s.limits.storeCeiling ])) ∧
    (∀ lane : Byte,
      exec (.keyStatus tag 0 lane) s = .next (s.respond 22 tag .done (keyStatusBytes s none))) ∧
    ∀ (lane : Byte) l, laneOf lane = some l →
      exec (.keyStatus tag 1 lane) s = .next (s.respond 22 tag .done (keyStatusBytes s (some l))) ∧
      exec (.laneStatus tag lane) s = .next (s.respond 26 tag .done (laneStatusBytes s l))) ∧
  (∀ s tag, s.accepts →
    (∀ h, s.current? h = none →
      exec (.readRecord tag h) s = .next (s.respond 12 tag .staleHandle [])) ∧
    (∀ (form lane : Byte) (payment : Half) till,
      form ≠ 1 ∧ form ≠ 2 ∨ form = 1 ∧ (15 < lane.toNat ∨ payment = 0) →
      exec (.find tag form lane payment till) s = .next (s.respond 13 tag .range [])) ∧
    (∀ (lane : Byte) (payment : Half) till l, laneOf lane = some l → payment ≠ 0 →
      (∀ x ∈ (s.book l).list, ∀ r, s.recordAt x = some r → r.payment ≠ payment.toNat) →
      exec (.find tag 1 lane payment till) s = .next (s.respond 13 tag .notFound [])) ∧
    (∀ (lane : Byte) (payment : Half) till, (∀ x r, s.recordAt x = some r → r.till ≠ till) →
      exec (.find tag 2 lane payment till) s = .next (s.respond 13 tag .notFound [])) ∧
    (∀ (lane : Byte) (start : Half), 15 < lane.toNat ∨ 2047 < start.toNat →
      exec (.laneList tag lane start) s = .next (s.respond 14 tag .range [])) ∧
    (∀ present lane : Byte, 1 < present.toNat ∨ present = 1 ∧ 15 < lane.toNat →
      exec (.keyStatus tag present lane) s = .next (s.respond 22 tag .range [])) ∧
    ∀ lane : Byte, 15 < lane.toNat →
      exec (.laneStatus tag lane) s = .next (s.respond 26 tag .range [])) ∧
  let flag (b : Bool) : Byte := if b then 1 else 0
  let item (size : Nat) (given : Option (List Byte)) : List Byte := match given with
    | some bytes => 1 :: bytes
    | none => 0 :: List.replicate size 0
  let seconds (n : Option Nat) : List Byte := match n with
    | some (k + 1) => 1 :: bytesOf 4 (k + 1)
    | some 0 => [0, 0, 0, 0, 0]
    | none => [0, 0, 0, 0, 0]
  (∀ h (r : Record), recordBytes h r = List.flatten
    [ bytesOf 2 h.toNat, bytesOf 1 r.lane.val, bytesOf 2 r.payment, bytesOf 4 r.till.toNat,
      bytesOf 1 r.state.code, [flag r.closed], bytesOf 4 r.original, bytesOf 4 r.current,
      item 1 (r.endReason.map fun e => bytesOf 1 e.code),
      item 4 (r.binding.map fun b => bytesOf 2 b.generation ++ bytesOf 2 b.counter), [flag r.bound],
      item 7 (r.summary.map fun c => List.flatten
        [ bytesOf 1 c.entry.code, packPlaces c.issuerDigits, packPlaces c.lastFour,
          bytesOf 1 c.verify.code ]),
      [flag r.card.isSome], item 2 (r.payload.map fun x => bytesOf 2 x.length),
      item 10 (r.outcome.map fun o => List.flatten
        [ bytesOf 1 o.result.code, item 6 (o.approval.map fun c => bytesOf 6 c.toNat),
          item 1 (o.decline.map fun d => [d]) ]),
      bytesOf 1 r.delivery.value.code, item 1 (r.delivery.kind.map fun k => bytesOf 1 k.code),
      item 1 (r.delivery.sequence.map fun q => [q]),
      seconds (r.stateTimer.map fun x => x.remaining), seconds r.deliveryTimer,
      item 1 (r.cancelPending.map fun c => bytesOf 1 c.code), [flag r.late, flag r.ended],
      bytesOf 1 r.followUps.length,
      r.followUps.flatMap fun f => List.flatten
        [ bytesOf 1 f.kind.code, bytesOf 4 f.amount, item 2 (f.counter.map fun c => bytesOf 2 c),
          bytesOf 1 f.status.code, item 2 (f.payload.map fun x => bytesOf 2 x.length) ] ]) ∧
  (∀ (s : State) lane, keyStatusBytes s lane = List.flatten
    [ bytesOf 2 s.keys.highest, bytesOf 4 (65536 - s.limits.reserve), bytesOf 4 s.limits.warning,
      (List.finRange 4).flatMap fun i => List.flatten
        [ bytesOf 1 (s.entry i).state.code,
          item 2 ((s.entry i).material.map fun m => bytesOf 2 m.generation),
          item 3 ((s.entry i).material.map fun m => bytesOf 3 m.checkValue.toNat),
          bytesOf 2 (s.entry i).bindings ],
      item 16 (lane.map fun l =>
        (List.finRange 4).flatMap fun i => bytesOf 4 (look (s.entry i).counters l)) ]) ∧
  (∀ (s : State) l, laneStatusBytes s l =
    let L := s.lane l
    let counter (c : CounterSettings) : List Byte :=
      [flag c.enable] ++ bytesOf 1 c.terminal.code ++ [flag c.attend, flag c.fault]
    List.flatten
      [ bytesOf 1 L.mode.code, bytesOf 1 L.settings.speed.code, bytesOf 1 L.settings.high,
        bytesOf 1 L.settings.low, bytesOf 1 L.fill, bytesOf 1 L.assembler.code,
        item 1 (L.slot.map fun f => [f.kind]), bytesOf 1 L.txFifo.length,
        bytesOf 2 L.outbound.length, [flag (s.holdOut l), flag L.holdIn],
        item 8 (L.reader.map fun x => bytesOf 8 x.identity.toNat),
        item 1 (L.reader.map fun x => [x.firmware]), item 1 (L.reader.map fun x => [x.expected]),
        [L.nextPart], bytesOf 1 L.errors.line.value, bytesOf 1 L.errors.check.value,
        bytesOf 1 L.errors.order.value,
        [flag L.errors.line.terminal, flag L.errors.check.terminal, flag L.errors.order.terminal],
        bytesOf 1 L.settings.threshold, counter L.settings.line, counter L.settings.check,
        counter L.settings.order ]) ∧
  [PaymentState.armed, .capturing, .wrapped, .released, .approved, .declined, .deferred, .rejected,
      .voided, .lapsed, .cancelled, .failed].map PaymentState.code =
    [1, 2, 3, 4, 5, 6, 7, 8, 9, 10, 11, 12] ∧
  [EndReason.reader, .abandoned, .presentTimeout, .laneLost, .laneHeld, .keysLost, .keySpent,
      .badCard].map EndReason.code = [1, 2, 3, 4, 5, 6, 7, 8] ∧
  [EntryState.empty, .pending, .active, .draining].map EntryState.code = [1, 2, 3, 4] ∧
  [LaneMode.off, .down, .ready, .held, .faulted].map LaneMode.code = [1, 2, 3, 4, 5] ∧
  [AssemblerState.hunt, .length, .collect, .stalled].map AssemblerState.code = [1, 2, 3, 4] ∧
  [FollowUpStatus.waiting, .wrapping, .ready, .collected, .failed].map FollowUpStatus.code =
    [1, 2, 3, 4, 5] ∧
  [DeliveryValue.none, .queued, .sent, .acked, .unconfirmed].map DeliveryValue.code = [1, 2, 3, 4, 5] ∧
  [EntryMethod.tap, .dip, .swipe, .keyed].map EntryMethod.code = [1, 2, 3, 4] ∧
  [VerifyMethod.none, .signature, .chipPin, .device].map VerifyMethod.code = [0, 1, 2, 3] ∧
  [SettleResult.approve, .decline, .defer].map SettleResult.code = [1, 2, 3] ∧
  [EndFrameKind.outcome, .close].map EndFrameKind.code = [0x84, 0x85] ∧
  [CancelReason.reader, .abandoned].map CancelReason.code = [1, 2] ∧
  [FollowUpKind.adjust, .reversal].map FollowUpKind.code = [1, 2] ∧
  [TerminalChoice.hold, .wrap].map TerminalChoice.code = [1, 2] ∧
  [Speed.b9600, .b19200, .b38400, .b57600, .b115200, .b230400].map Speed.code = [1, 2, 3, 4, 5, 6] ∧
  (∀ (a b : Nibble) rest,
    packPlaces (a :: b :: rest) = BitVec.ofNat 8 (16 * a.toNat + b.toNat) :: packPlaces rest) ∧
  (∀ a : Nibble, packPlaces [a] = [BitVec.ofNat 8 (16 * a.toNat + 15)]) ∧ packPlaces [] = []

/-- SET LIMITS replaces the values present and keeps the others, and applies a new low mark to the free
count at once; a value present outside its range refuses the request and changes nothing (R9, R69).
SET TIMERS in range sets the six values for timers started afterwards; a running timer keeps its seconds
and its action, since no record changes. Out of range it is refused and changes nothing (R50). The action
codes are log entry 10. A presence byte above 1 is out of range: log entry 11. -/
def Obligations.SettingsAreReplacedWithinTheirRanges : Prop :=
  (∀ s tag (fields : Vector OptWord 8), s.accepts →
     let low : List Nat := [0, 0, 0, 0, 16, 1, 0, 1]
     let high : List Nat := [99999999, 999999999, 999999999, 50, 4096, 65535, 2047, 2048]
     let old : List Nat :=
       [ s.limits.floor, s.limits.laneCeiling, s.limits.storeCeiling, s.limits.adjustCap,
         s.limits.reserve, s.limits.warning, s.limits.lowMark, s.limits.share ]
     let allowed (i : Fin 8) : Prop :=
       (look fields i).present = 0 ∨
       (look fields i).present = 1 ∧ low.getD i.val 0 ≤ (look fields i).value.toNat ∧
         (look fields i).value.toNat ≤ high.getD i.val 0
     let new (i : Fin 8) : Nat :=
       if (look fields i).present = 1 then (look fields i).value.toNat else old.getD i.val 0
     ((∃ i, ¬ allowed i) → exec (.setLimits tag fields) s = .next (s.respond 17 tag .range [])) ∧
     ((∀ i, allowed i) →
       ∃ t : State, exec (.setLimits tag fields) s =
           .next (t.respond 17 tag .done ((List.finRange 8).flatMap fun i => bytesOf 4 (new i))) ∧
         t.limits =
           { floor := new 0, laneCeiling := new 1, storeCeiling := new 2, adjustCap := new 3
             reserve := new 4, warning := new 5, lowMark := new 6, share := new 7 } ∧
         t = { s with
           limits := t.limits
           table := { s.table with lowMarkArmed := t.table.lowMarkArmed }
           attention := { s.attention with table := t.attention.table } } ∧
         ((look fields 6).present = 0 →
           t.table.lowMarkArmed = s.table.lowMarkArmed ∧ t.attention.table = s.attention.table) ∧
         ((look fields 6).present = 1 → new 6 < s.freeCount →
           t.table.lowMarkArmed = true ∧ t.attention.table = s.attention.table) ∧
         ((look fields 6).present = 1 → s.freeCount ≤ new 6 →
           t.table.lowMarkArmed = false ∧
           t.attention.table = (s.attention.table || s.table.lowMarkArmed)))) ∧
  (∀ s tag (present outcome : Half) (delivery life a b : Byte), s.accepts →
     let inRange := 10 ≤ present.toNat ∧ present.toNat ≤ 900 ∧ 10 ≤ outcome.toNat ∧
       outcome.toNat ≤ 900 ∧ 2 ≤ delivery.toNat ∧ delivery.toNat ≤ 120 ∧ 1 ≤ life.toNat ∧
       life.toNat ≤ 168 ∧ (a = 1 ∨ a = 2) ∧ (b = 1 ∨ b = 2)
     (inRange →
       exec (.setTimers tag present outcome delivery life a b) s =
         .next ({ s with timers :=
           { present := present.toNat, outcome := outcome.toNat, delivery := delivery.toNat
             life := life.toNat, outcomeAction := if a = 1 then .notify else .lapse
             deferredAction := if b = 1 then .notify else .lapse } }.respond 18 tag .done
           (bytesOf 2 present.toNat ++ bytesOf 2 outcome.toNat ++ [delivery, life, a, b]))) ∧
     (¬ inRange →
       exec (.setTimers tag present outcome delivery life a b) s = .next (s.respond 18 tag .range [])))

/-! ## Keys and the engine -/

/-- KEY LOAD is checked in the order of R90; accepted, its unwrap job joins the queue and the port holds the
request in service without a response (R90, R91). -/
def Obligations.KeyLoadIsCheckedThenHeld : Prop :=
  ∀ s tag (generation : Half) block check, s.accepts →
    let checks : List (Bool × Status) :=
      [ (s.commission.isNone, .notCommissioned), (decide (generation.toNat = 0), .range),
        (decide (s.caseMon.current = .opened), .caseOpen), (decide (s.supply.state = .low), .supplyLow),
        (decide (generation.toNat ≤ s.keys.highest), .genOrder),
        (decide (∃ i, (s.entry i).state = .pending), .pendingExists),
        (decide (∀ i, (s.entry i).state ≠ .empty), .keyTableFull) ]
    let placed := s.placeJob (.unwrap generation.toNat block check)
    (∀ status, firstFailing checks = some status →
      exec (.keyLoad tag generation block check) s = .next (s.respond 19 tag status [])) ∧
    (firstFailing checks = none →
      exec (.keyLoad tag generation block check) s =
        .next { placed with port := { s.port with state := .serving 19 tag } })

/-- KEY ROLL makes the PENDING entry ACTIVE and turns the earlier ACTIVE entry DRAINING while records are
bound to it, EMPTY with "generation drained" latched otherwise (R94).
KEY DROP empties the PENDING entry that carries the generation and keeps the highest generation number;
its refusals stand in the order of R96. The earlier entry's bytes in the response are log entry 9. -/
def Obligations.KeyRollAndKeyDropTurnTheEntries : Prop :=
  (∀ (s : State) st, (∀ i, s.entryIn st = some i ↔
      (s.entry i).state = st ∧ ∀ j, j < i → (s.entry j).state ≠ st) ∧
    (s.entryIn st = none ↔ ∀ i, (s.entry i).state ≠ st)) ∧
  ((∀ s tag, s.accepts → s.commission = none →
     exec (.keyRoll tag) s = .next (s.respond 20 tag .notCommissioned [])) ∧
   (∀ s tag c, s.accepts → s.commission = some c → (∀ i, (s.entry i).state ≠ .pending) →
     exec (.keyRoll tag) s = .next (s.respond 20 tag .noPending [])) ∧
   ∀ s tag c (p : Fin 4) m, s.accepts → s.commission = some c → s.entryIn .pending = some p →
     (s.entry p).material = some m →
     let named := bytesOf 1 p.val ++ bytesOf 2 m.generation ++ bytesOf 3 m.checkValue.toNat
     let rolled (t : State) : State := t.setEntry p { s.entry p with state := .active }
     ((∀ i, (s.entry i).state ≠ .active) →
       exec (.keyRoll tag) s =
         .next ((rolled s).respond 20 tag .done (named ++ [0, 0, 0, 0]))) ∧
     ∀ a k, s.entryIn .active = some a → (s.entry a).material = some k →
       (0 < (s.entry a).bindings →
         exec (.keyRoll tag) s =
           .next ((rolled (s.setEntry a { s.entry a with state := .draining })).respond 20 tag .done
             (named ++ [1] ++ bytesOf 2 k.generation ++ [4]))) ∧
       ((s.entry a).bindings = 0 →
         exec (.keyRoll tag) s =
           .next ((rolled ((s.setEntry a
               { state := .empty, material := none, bindings := 0
                 counters := Vector.replicate 16 0 }).latchDrained k.generation)).respond 20 tag .done
             (named ++ [1] ++ bytesOf 2 k.generation ++ [1])))) ∧
  (∀ s tag (generation : Half), s.accepts →
     (generation = 0 → exec (.keyDrop tag generation) s = .next (s.respond 21 tag .range [])) ∧
     (generation ≠ 0 → s.entryOf generation.toNat = none →
       exec (.keyDrop tag generation) s = .next (s.respond 21 tag .notFound [])) ∧
     ∀ i, generation ≠ 0 → s.entryOf generation.toNat = some i →
       ((s.entry i).state ≠ .pending →
         exec (.keyDrop tag generation) s = .next (s.respond 21 tag .wrongState [])) ∧
       ((s.entry i).state = .pending →
         exec (.keyDrop tag generation) s =
           .next ((s.setEntry i
             { state := .empty, material := none, bindings := 0
               counters := Vector.replicate 16 0 }).respond 21 tag .done (bytesOf 1 i.val))))

/-- A counter is taken from the entry that carries the generation: below the limit its value is returned and
advanced by one, with a counter warning latched when it becomes the warning level in force; at or above the
limit the answer is "spent" (R99, R101). No other counter, entry or record changes. -/
def Obligations.TakingACounterAdvancesIt : Prop :=
  (∀ (s : State) g,
    let carries (i : Fin 4) : Prop := (s.entry i).material.map (fun m => m.generation) = some g
    (∀ i, s.entryOf g = some i ↔ carries i ∧ ∀ j, j < i → ¬ carries j) ∧
    (s.entryOf g = none ↔ ∀ i, ¬ carries i)) ∧
  ∀ (s : State) g l limit i, s.entryOf g = some i →
    let c := look (s.entry i).counters l
    (limit ≤ c → s.takeCounter g l limit = none) ∧
    (c < limit → ∃ t, s.takeCounter g l limit = some (c, t) ∧
      t = { s with keys := t.keys, attention := t.attention } ∧ t.keys.highest = s.keys.highest ∧
      (∀ j, j ≠ i → t.entry j = s.entry j) ∧ look (t.entry i).counters l = c + 1 ∧
      (∀ x, x ≠ l → look (t.entry i).counters x = look (s.entry i).counters x) ∧
      t.entry i = { s.entry i with counters := (t.entry i).counters } ∧
      (c + 1 ≠ s.limits.warning → t.attention = s.attention) ∧
      (c + 1 = s.limits.warning →
        t.attention = { s.attention with warnings := t.attention.warnings } ∧
        ∀ w, w ∈ t.attention.warnings ↔ w = (l, g) ∨ w ∈ s.attention.warnings))

/-- The completions of the record table's jobs. A capture makes its record WRAPPED with the payload, or
CANCELLED by the pending cancel (R34); a follow-up makes its entry READY with the payload, and a REVERSAL
erases the card block (R83, R87). The next job is then served (R110).
The completion of an unwrap: a failed check is answered KEY_CHECK and changes no entry; a passed one
makes the lowest EMPTY entry PENDING with the key, sets the highest generation number and is answered with
the entry, the generation and the check value (R92, R93, R120). The next job is then served (R110). That the
entry number takes one byte is the model's choice, log entry 9. The cipher is AES-128 as FIPS 197 gives it:
log entry 15. -/
def Obligations.CompletionsReportTheirResult : Prop :=
  ((∀ s h l g c w (r : Record), s.phase = .running →
     s.engine.service = .serving (.capture h l g c) (.wrap w) → s.recordAt (slotOf h) = some r →
     r.state = .capturing →
     let cancelled (reason : EndReason) : Record :=
       { r with
         state := .cancelled, endReason := some reason, stateTimer := none, cancelPending := none
         payload := none, card := none }
     (r.cancelPending = none →
       exec .captureCompletion s =
         .next (s.withRecordAt (slotOf h)
           { r with state := .wrapped, payload := some (payloadOf (.capture h l g c) w) }).afterJob) ∧
     (r.cancelPending = some .reader →
       exec .captureCompletion s =
         .next ((s.withRecordAt (slotOf h) { cancelled .reader with ended := true }).queueClose
           (slotOf h) .reader).afterJob) ∧
     (r.cancelPending = some .abandoned →
       exec .captureCompletion s =
         .next ((s.withRecordAt (slotOf h) (cancelled .abandoned)).queueClose (slotOf h)
           .abandoned).afterJob)) ∧
   ∀ s kind share h i l g c w (r : Record) e, s.phase = .running →
     s.engine.service = .serving (.followUp kind share h i l g c) (.wrap w) →
     s.recordAt (slotOf h) = some r → r.followUps[i]? = some e →
     exec .followUpCompletion s =
       .next (s.withRecordAt (slotOf h)
         { r with
           followUps := r.followUps.set i
             { e with
               status := .ready
               payload := some (payloadOf (.followUp kind share h i l g c) w) }
           card := if kind = .reversal then none else r.card }).afterJob) ∧
  (∀ s g block check transportKey tag, s.phase = .running →
     s.engine.service = .serving (.unwrap g block check) (.unwrap transportKey) →
     s.port.state = .serving 19 tag →
     (check64 transportKey (bytesOf 2 g ++ blockBytes block) ≠ check →
       exec .keyUnwrapCompletion s = .next (s.respond 19 tag .keyCheck []).afterJob) ∧
     ∀ i : Fin 4, check64 transportKey (bytesOf 2 g ++ blockBytes block) = check →
       (s.entry i).state = .empty → (∀ j, j < i → (s.entry j).state ≠ .empty) →
       let key := Aes.decipher transportKey block
       let checkValue := (Aes.encipher key 0).extractLsb' 104 24
       let filled := s.setEntry i
         { state := .pending
           material := some { generation := g, key := key, checkValue := checkValue }
           bindings := 0, counters := Vector.replicate 16 0 }
       let stored : State := { filled with keys := { filled.keys with highest := g } }
       exec .keyUnwrapCompletion s =
         .next (stored.respond 19 tag .done
           (bytesOf 1 i.val ++ bytesOf 2 g ++ bytesOf 3 checkValue.toNat)).afterJob)

/-- The engine's service (R109, R110, R114): a placed job joins the tail; an IDLE engine serves it at once;
under LOW supply nothing enters service; on the supply's return the head enters service with its copies, and
an empty queue leaves the engine IDLE; a job in service goes on. After a completion, and for a job placed at
an IDLE engine, the queue is served as on the supply's return.
When an automatic job leaves the queue for service, the WAITING reversal of the lowest slot is admitted with
its counter; one whose counter is spent fails with the Late mark and without its card block, and the next is
taken (R81). A job gathers the copies of R111; a follow-up job whose record holds no card block ends at once,
its entry FAILED with its counter kept and the Late mark set, and the next job is then served (R82, R110).
The supply's change reaches the engine by a command of its own: log entry 8. What a capture or unwrap job
with nothing to gather does is log entry 16. -/
def Obligations.EngineServesAndAdmitsInOrder : Prop :=
  ((∀ (s : State) job, s.engine.service ≠ .idle →
     s.placeJob job = { s with engine := { s.engine with queue := s.engine.queue ++ [job] } }) ∧
   (∀ (s : State) job inputs, s.engine.service = .idle → s.engine.queue = [] → s.supply.state = .normal →
     job.isAutomatic = false → s.gather job = some inputs →
     s.placeJob job = { s with engine := { queue := [], service := .serving job inputs } }) ∧
   (∀ s job inputs, s.phase = .running → s.engine.service = .serving job inputs →
     exec .engineSupplyChange s = .next s) ∧
   (∀ s, s.phase = .running → s.engine.service = .idle → s.supply.state = .low →
     exec .engineSupplyChange s = .next { s with engine := { s.engine with service := .held } }) ∧
   (∀ s, s.phase = .running → s.engine.service = .held → s.supply.state = .normal → s.engine.queue = [] →
     exec .engineSupplyChange s = .next { s with engine := { queue := [], service := .idle } }) ∧
   ∀ s job rest inputs, s.phase = .running → s.engine.service = .held → s.supply.state = .normal →
     s.engine.queue = job :: rest → job.isAutomatic = false → s.gather job = some inputs →
     exec .engineSupplyChange s =
       .next { s with engine := { queue := rest, service := .serving job inputs } }) ∧
  ((∀ s job rest, s.phase = .running → s.engine.service = .held → s.supply.state = .normal →
      s.engine.queue = job :: rest →
      let left : State := { s with engine := { s.engine with queue := rest } }
      let admitted := if job.isAutomatic then State.admitFrom s.table.waiting left else left
      (∀ inputs, admitted.gather job = some inputs →
        exec .engineSupplyChange s =
          .next { admitted with
            engine := { admitted.engine with service := .serving job inputs } }) ∧
      (admitted.gather job = none →
        exec .engineSupplyChange s = exec .engineSupplyChange (admitted.endAtOnce job))) ∧
    (∀ s : State, s.phase = .running → s.supply.state = .normal →
      exec .engineSupplyChange { s with engine := { s.engine with service := .held } } =
        .next s.afterJob) ∧
    (∀ s : State, s.supply.state = .low →
      s.afterJob = { s with engine := { s.engine with service := .held } }) ∧
    (∀ (s : State) job, s.phase = .running → s.supply.state = .normal → s.engine.service = .idle →
      exec .engineSupplyChange
          { s with engine := { queue := s.engine.queue ++ [job], service := .held } } =
        .next (s.placeJob job)) ∧
    ∀ s : State, s.phase = .running → ∃ t, exec .engineSupplyChange s = .next t) ∧
  ((∀ (s : State) (r : Record) card c b i m h l g k, s.current? h = some r → r.card = some card →
      s.commission = some c → r.binding = some b → s.entryOf g = some i →
      (s.entry i).material = some m →
      let copies (amount : Nat) : JobInputs := .wrap
        { card := card, payment := r.payment, captureCounter := b.counter, amount := amount
          chain := c.chain, store := c.store, currency := c.currency, key := m.key }
      s.gather (.capture h l g k) = some (copies r.current) ∧
      ∀ kind share index e, r.followUps[index]? = some e →
        s.gather (.followUp kind share h index l g k) = some (copies e.amount)) ∧
    (∀ (s : State) c g block check, s.commission = some c →
      s.gather (.unwrap g block check) = some (.unwrap c.transportKey)) ∧
    ∀ (s : State) kind share h index l g k (r : Record), s.current? h = some r → r.card = none →
      s.gather (.followUp kind share h index l g k) = none ∧
      ∀ e, r.followUps[index]? = some e →
        s.endAtOnce (.followUp kind share h index l g k) =
          s.withRecordAt (slotOf h)
            { r with
              followUps := r.followUps.set index { e with status := .failed }, late := true }) ∧
  (∀ (s : State) slot rest (r : Record) b, s.recordAt slot = some r → r.binding = some b →
     let i := r.followUps.findIdx fun e => decide (e.status = .waiting)
     ∀ e, r.followUps[i]? = some e →
       (∀ c s', s.takeCounter b.generation r.lane 65536 = some (c, s') →
         let admitted := s'.withRecordAt slot
           { r with followUps := r.followUps.set i { e with status := .wrapping, counter := some c } }
         State.admitFrom (slot :: rest) s =
           { admitted with
             table := { admitted.table with waiting := rest }
             engine := { s.engine with
               queue := s.engine.queue ++
                 [.followUp .reversal .automatic (s.handleOf slot) i r.lane b.generation c] } }) ∧
       (s.takeCounter b.generation r.lane 65536 = none →
         State.admitFrom (slot :: rest) s =
           State.admitFrom rest (s.withRecordAt slot
             { r with
               followUps := r.followUps.set i { e with status := .failed }
               late := true, card := none })))

/-! ## Timers -/

/-- The store tick lowers every running timer of every record by one and changes nothing else (R49); a timer
at 0 stands for an expiry still to be taken: the model's choice, log entry 5.
The expiries: the present timer cancels an ARMED record (R51); the outcome timer marks a RELEASED record
Late under NOTIFY and lapses it under LAPSE (R52, R53); the deferred-life timer does the same for a DEFERRED
record, which leaves the account at its lapse and queues no frame (R65, R66); the delivery timer makes a
SENT delivery UNCONFIRMED, ends the engagement and keeps the sequence as the lane's expired one (R47). -/
def Obligations.TickAndExpiriesActOnTheirRecords : Prop :=
  (∀ s, s.phase = .running → ∃ t, exec .storeTick s = .next t ∧
     t = { s with table := { s.table with slots := t.table.slots } } ∧
     ∀ slot, (t.cell slot).tag = (s.cell slot).tag ∧
       t.recordAt slot = (s.recordAt slot).map fun r =>
         { r with
           stateTimer := r.stateTimer.map fun x => { x with remaining := x.remaining - 1 }
           deliveryTimer := r.deliveryTimer.map fun n => n - 1 }) ∧
  (∀ s slot (r : Record), s.phase = .running → s.recordAt slot = some r →
     let lowered := s.modBook r.lane fun b =>
       { b with total := b.total - r.current, count := b.count - 1 }
     let account : State :=
       { lowered with table := { lowered.table with storeTotal := s.table.storeTotal - r.current } }
     let lapsed : Record := { r with state := .lapsed, stateTimer := none, ended := true }
     let late := s.withRecordAt slot { r with stateTimer := none, late := true }
     (∀ action, r.state = .armed → r.stateTimer = some { remaining := 0, action := action } →
       exec (.presentTimerExpiry slot) s =
         .next ((s.withRecordAt slot
           { r with
             state := .cancelled, endReason := some .presentTimeout, stateTimer := none
             ended := true }).queueClose slot .timeout)) ∧
     (r.state = .released → r.stateTimer = some { remaining := 0, action := some .notify } →
       exec (.outcomeTimerExpiry slot) s = .next late) ∧
     (r.state = .released → r.stateTimer = some { remaining := 0, action := some .lapse } →
       exec (.outcomeTimerExpiry slot) s =
         .next (((s.withRecordAt slot lapsed).automaticReversal slot).queueClose slot .notCompleted)) ∧
     (r.state = .deferred → r.stateTimer = some { remaining := 0, action := some .notify } →
       exec (.deferredLifeExpiry slot) s = .next late) ∧
     (r.state = .deferred → r.stateTimer = some { remaining := 0, action := some .lapse } →
       exec (.deferredLifeExpiry slot) s =
         .next ((account.withRecordAt slot lapsed).automaticReversal slot)) ∧
     (∀ kind sequence, r.delivery = { value := .sent, kind := kind, sequence := some sequence } →
       r.deliveryTimer = some 0 →
       exec (.deliveryTimerExpiry slot) s =
         .next ((s.withRecordAt slot
           { r with
             delivery := { value := .unconfirmed, kind := kind, sequence := some sequence }
             deliveryTimer := none }).modBook r.lane fun b =>
           { b with engaged := none, expired := some sequence })))

/-- The automatic REVERSAL of a lapse (R80), in its order: without a card block or with a spent counter it is
created FAILED with the Late mark; with the automatic share full it is WAITING and takes no counter;
otherwise it is WRAPPING with its counter and its job is placed in the automatic share. -/
def Obligations.LapsesAddTheirReversal : Prop :=
  ∀ (s : State) slot (r : Record), s.recordAt slot = some r →
    let withEntry (q : Record) (counter : Option Nat) (status : FollowUpStatus) : Record :=
      { q with followUps := r.followUps ++
          [{ kind := .reversal, amount := r.current, counter := counter, status := status
             payload := none }] }
    let failed := s.withRecordAt slot (withEntry { r with late := true, card := none } none .failed)
    (r.card = none → s.automaticReversal slot = failed) ∧
    ∀ b, r.card ≠ none → r.binding = some b →
      (s.takeCounter b.generation r.lane 65536 = none → s.automaticReversal slot = failed) ∧
      ∀ c s', s.takeCounter b.generation r.lane 65536 = some (c, s') →
        (8 ≤ s.automaticCount → ∃ t, s.automaticReversal slot = t ∧
          t.recordAt slot = some (withEntry r none .waiting) ∧ SlotsKept s t slot ∧
          (∀ x, x ∈ t.table.waiting ↔ x = slot ∨ x ∈ s.table.waiting) ∧
          t = { s with table := { s.table with
            slots := t.table.slots, waiting := t.table.waiting } }) ∧
        (s.automaticCount < 8 →
          s.automaticReversal slot =
            (s'.withRecordAt slot (withEntry r (some c) .wrapping)).placeJob
              (.followUp .reversal .automatic (s.handleOf slot) r.followUps.length r.lane b.generation
                c))

/-- The payload of a capture or a follow-up (R117, R119, R187): a 24-byte header of the fields of R187, the
ciphertext of whole blocks, and an 8-byte check over both; with a card block within its limits it is 64 to
160 bytes long. The one-time keys are the derivation block enciphered under the period key, with the payload
kind in its last byte for the cipher key and that byte's complement for the check key (R116). The content
holds the fields of R117 at the places of R187, the card number's digits two to a byte with 15 in the places
behind the last digit; it is padded with 80h and the fewest zeros to whole blocks (R117) and enciphered block
by block, each combined with the ciphertext block before it and the first with zeros (R118). The check chains
its input's blocks in the same way, the last one, always short (R119, R120), filled with 80h and zeros and
combined with the second subkey, and is the first eight bytes of the last enciphered block; the subkeys come
of the enciphered zero block, each a shift left by one bit, combined with 135 when the bit shifted out was 1
(R119). The cipher is AES-128 as FIPS 197 gives it: log entry 15. -/
def Obligations.PayloadsHaveTheirLayout : Prop :=
  (∀ (job : Job) (w : WrapInputs), job.payloadKind ≠ 0 → w.card.digits.length ≤ 20 →
    w.card.chip.length ≤ 96 →
    let payload := payloadOf job w
    let text := payload.length - 32
    64 ≤ payload.length ∧ payload.length ≤ 160 ∧ payload.length % 16 = 0 ∧
    payload.take 24 =
      [BitVec.ofNat 8 job.payloadKind, 1] ++ bytesOf 4 w.chain.toNat ++ bytesOf 4 w.store.toNat ++
        bytesOf 2 w.currency ++ bytesOf 1 job.lane ++ bytesOf 2 job.generation ++
        bytesOf 2 job.counter ++ bytesOf 2 w.captureCounter ++ bytesOf 2 w.payment ++
        bytesOf 1 job.part ++ bytesOf 1 w.card.entry.code ++ bytesOf 1 text ∧
    (payload.drop 24).take text = ciphertext (cipherKey job w) (padded (content job w)) ∧
    payload.drop (24 + text) =
      bytesOf 8 (check64 (checkKey job w) (payload.take (24 + text))).toNat) ∧
  (∀ h l g c, Job.payloadKind (.capture h l g c) = 1 ∧ Job.part (.capture h l g c) = 0) ∧
  (∀ kind share h i l g c, Job.part (.followUp kind share h i l g c) = i + 1 ∧
    Job.payloadKind (.followUp kind share h i l g c) = if kind = .adjust then 2 else 3) ∧
  (∀ (job : Job) (w : WrapInputs), job.payloadKind ≠ 0 →
    let block (last : Nat) : List Byte :=
      bytesOf 4 w.chain.toNat ++ bytesOf 4 w.store.toNat ++ bytesOf 2 job.generation ++
        bytesOf 1 job.lane ++ bytesOf 2 job.counter ++ [0, 0, BitVec.ofNat 8 last]
    cipherKey job w = Aes.encipher w.key (blockOf (block job.payloadKind)) ∧
    checkKey job w = Aes.encipher w.key (blockOf (block (255 - job.payloadKind))) ∧
    ∀ last, (block last).length = 16 ∧ blockBytes (blockOf (block last)) = block last) ∧
  (∀ (job : Job) (w : WrapInputs), job.payloadKind ≠ 0 → w.card.digits.length ≤ 20 →
    let place (i : Nat) : Nibble := w.card.digits.getD i 15
    let entry : Byte := match w.card.entry with
      | .tap => 1
      | .dip => 2
      | .swipe => 3
      | .keyed => 4
    let verify : Byte := match w.card.verify with
      | .none => 0
      | .signature => 1
      | .chipPin => 2
      | .device => 3
    content job w = List.flatten
      [ bytesOf 1 w.card.digits.length,
        (List.range 10).map fun i => (place (2 * i) ++ place (2 * i + 1) : Byte),
        [w.card.year, w.card.month, entry, verify], bytesOf 4 w.amount, bytesOf 2 w.payment,
        if job.payloadKind = 1 then [] else bytesOf 2 w.captureCounter,
        bytesOf 1 w.card.chip.length, w.card.chip ]) ∧
  (∀ bytes : List Byte, ∃ zeros < 16, padded bytes = bytes ++ 0x80 :: List.replicate zeros 0 ∧
    (padded bytes).length % 16 = 0) ∧
  (∀ b : Block, subkey b = if b.getLsbD 127 = true then (b <<< 1) ^^^ 135 else b <<< 1) ∧
  (∀ (key : Block) (bytes : List Byte), bytes.length % 16 ≠ 0 →
    let whole := bytes.length / 16
    let block (i : Nat) : Block := blockOf ((bytes.drop (16 * i)).take 16)
    let chained : Block := (List.range whole).foldl (fun before i => Aes.encipher key (block i ^^^ before)) 0
    let last := bytes.drop (16 * whole)
    let filled : Block := blockOf (last ++ 0x80 :: List.replicate (15 - last.length) 0)
    let code := Aes.encipher key (filled ^^^ subkey (subkey (Aes.encipher key 0)) ^^^ chained)
    bytesOf 8 (check64 key bytes).toNat = (blockBytes code).take 8) ∧
  ∀ (key : Block) (clear : List Byte), clear.length % 16 = 0 →
    let text := ciphertext key clear
    text.length = clear.length ∧
    ∀ n, 16 * (n + 1) ≤ clear.length →
      let before : Block := if n = 0 then 0 else blockOf ((text.drop (16 * (n - 1))).take 16)
      (text.drop (16 * n)).take 16 =
        blockBytes (Aes.encipher key (blockOf ((clear.drop (16 * n)).take 16) ^^^ before))

/-! ## Lanes -/

/-- The line receiver (R123, R125, R127): from a line at mark a character with its stop bit at mark joins the
receive FIFO and sets the fill hold at the high mark; it is lost and counted as a LINE error at a full FIFO;
a stop bit at space waits for the line, whose return to mark counts the LINE error; after a break the
return to mark only re-arms the receiver; a gap adds a marker, which takes no place. -/
def Obligations.LineReceiverFillsTheFifo : Prop :=
  ∀ s (l : LaneId) (b : Byte), s.phase = .running → (s.lane l).runs = true →
    ((s.lane l).rxLine = .mark → (s.lane l).fill < 128 →
      exec (.lineCharacter l b true) s =
        .next (s.modLane l fun L =>
          { L with
            rxFifo := L.rxFifo ++ [.byte b]
            fillHold := L.fillHold || decide (L.settings.high ≤ L.fill + 1) })) ∧
    ((s.lane l).rxLine = .mark → 128 ≤ (s.lane l).fill →
      exec (.lineCharacter l b true) s = .next (s.reportError l .line)) ∧
    ((s.lane l).rxLine = .mark →
      exec (.lineCharacter l b false) s = .next (s.modLane l fun L => { L with rxLine := .stopAtSpace })) ∧
    ((s.lane l).rxLine = .stopAtSpace →
      exec (.lineReturnToMark l) s =
        .next ((s.modLane l fun L => { L with rxLine := .mark }).reportError l .line)) ∧
    ((s.lane l).rxLine = .inBreak →
      exec (.lineReturnToMark l) s = .next (s.modLane l fun L => { L with rxLine := .mark })) ∧
    exec (.gap l) s = .next (s.modLane l fun L => { L with rxFifo := L.rxFifo ++ [.gap] }) ∧
    ((s.modLane l fun L => { L with rxFifo := L.rxFifo ++ [.gap] }).lane l).fill = (s.lane l).fill

/-- A break takes a READY lane to DOWN with both sides cleared and "down" latched, and clears a DOWN lane
without a cause (R124, R132, R151). On a lane that neither receives nor transmits no break is detected, but
the line is past 2 character times at space, so its return to mark reports no LINE error (R123, R152; log
entry 23).
A lane's leaving READY at the record table (R54, R55): an ARMED engaged record is CANCELLED, LANE_HELD
for LANE HOLD without the Ended mark, LANE_LOST otherwise with it, and the engagement ends; a QUEUED or SENT
delivery becomes UNCONFIRMED without its timer and the engagement ends; CAPTURING, WRAPPED and RELEASED
records stay engaged as they are; the expired delivery sequence becomes absent in every case. -/
def Obligations.BreaksAndLeavingReady : Prop :=
  (∀ s (l : LaneId), s.phase = .running → (s.lane l).rxLine ≠ .inBreak →
     let broken (L : Lane) : Lane :=
       { L with
         mode := .down, rxLine := .inBreak, reader := none, rxFifo := [], fillHold := false
         assembler := .hunt, frame := [], replay := [], slot := none, outbound := [], txFifo := []
         nextPart := 0 }
     ((s.lane l).mode = .ready →
       exec (.lineBreak l) s =
         .next (((s.leaveReady l .lost).modLane l broken).modCauses l fun c => { c with down := true })) ∧
     ((s.lane l).mode = .down → exec (.lineBreak l) s = .next (s.modLane l broken)) ∧
     ((s.lane l).runs = false →
       exec (.lineBreak l) s = .next (s.modLane l fun L => { L with rxLine := .inBreak }))) ∧
  (∀ (s : State) (l : LaneId) cause,
     let forgotten (t : State) : State := t.modBook l fun b => { b with expired := none }
     let ended (t : State) : State := t.modBook l fun b => { b with engaged := none, expired := none }
     ((s.book l).engaged = none → s.leaveReady l cause = forgotten s) ∧
     ∀ h (r : Record), (s.book l).engaged = some h → s.current? h = some r →
       (r.state = .armed →
         s.leaveReady l cause = ended (s.withRecordAt (slotOf h)
           { r with
             state := .cancelled, stateTimer := none
             endReason := some (if cause = .held then .laneHeld else .laneLost)
             ended := r.ended || decide (cause = .lost) })) ∧
       (r.state ≠ .armed → r.delivery.value = .queued ∨ r.delivery.value = .sent →
         s.leaveReady l cause = ended (s.withRecordAt (slotOf h)
           { r with
             delivery := { r.delivery with value := .unconfirmed }, deliveryTimer := none })) ∧
       (r.state ≠ .armed → r.delivery.value ≠ .queued → r.delivery.value ≠ .sent →
         s.leaveReady l cause = forgotten s))

/-- Queueing an end frame (R44, R48): on a READY lane the frame is offered and the delivery is QUEUED with
its kind; otherwise nothing is offered, the delivery is UNCONFIRMED with its kind and the engagement ends;
a delivery that has left NONE queues nothing (R17). -/
def Obligations.EndFramesFollowTheLane : Prop :=
  ∀ (s : State) slot kind (frame : Record → PartFrame) (r : Record), s.recordAt slot = some r →
    (r.delivery.value = .none → (s.lane r.lane).mode = .ready →
      s.queueEndFrame slot kind frame =
        (s.offer r.lane (frame r)).withRecordAt slot
          { r with delivery := { value := .queued, kind := some kind, sequence := none } }) ∧
    (r.delivery.value = .none → (s.lane r.lane).mode ≠ .ready →
      s.queueEndFrame slot kind frame =
        (s.modBook r.lane fun b => { b with engaged := none }).withRecordAt slot
          { r with delivery := { value := .unconfirmed, kind := some kind, sequence := none } }) ∧
    (r.delivery.value ≠ .none → s.queueEndFrame slot kind frame = s) ∧
    (∀ reason, s.queueClose slot reason =
      s.queueEndFrame slot .close fun q => .close q.payment reason) ∧
    ∀ code, s.queueOutcome slot code =
      s.queueEndFrame slot .outcome fun q => .outcome q.payment code q.current

/-- The outbound list of four (R129): a frame joins the tail while there is room on a DOWN or READY lane; at
four a REFUSE is dropped, and any other frame takes the place of the REFUSE nearest the tail; an OFF, HELD or
FAULTED lane takes none. -/
def Obligations.OutboundListTakesFourFrames : Prop :=
  (∀ (s : State) l f, s.offer l f = s.modLane l fun L => L.offer f) ∧
  (∀ (L : Lane) f, L.mode = .down ∨ L.mode = .ready →
    L.offer f = { L with outbound := offerTo L.outbound f }) ∧
  (∀ f : PartFrame, f.isRefuse = true ↔ ∃ reason sequence, f = .refuse reason sequence) ∧
  (∀ (L : Lane) f, L.mode = .off ∨ L.mode = .held ∨ L.mode = .faulted → L.offer f = L) ∧
  (∀ (L : Lane) f, L.mode = .down ∨ L.mode = .ready → L.outbound.length < 4 →
    L.offer f = { L with outbound := L.outbound ++ [f] }) ∧
  (∀ (L : Lane) reason sequence, L.mode = .down ∨ L.mode = .ready → L.outbound.length = 4 →
    L.offer (.refuse reason sequence) = L) ∧
  ∀ (L : Lane) before after reason sequence f, L.mode = .down ∨ L.mode = .ready →
    L.outbound = before ++ .refuse reason sequence :: after → L.outbound.length = 4 →
    (∀ g ∈ after, g.isRefuse = false) → f.isRefuse = false →
    L.offer f = { L with outbound := before ++ after ++ [f] }

/-- The frame assembler (R126 to R128, R185): a start byte begins a frame; a length byte to 240 is collected
and a greater one is a CHECK error; the last byte of a frame whose check holds puts the frame in the slot
and stalls the assembler; a mismatch is a CHECK error and the bytes behind its start byte are hunted through
again, one a command, in every state of the assembler and before any byte of the FIFO, which stays with its
fill hold meanwhile: the model's choice, log entry 7; a gap inside a frame is a CHECK error; a byte taken
from the FIFO clears the fill hold at the low mark. The assembler takes nothing while it is STALLED or the
slot is occupied, and is STALLED as soon as the frame stands in the slot: log entry 6. With nothing to take,
and on a lane that does not run, nothing changes: log entry 3. -/
def Obligations.AssemblerCollectsFrames : Prop :=
  ∀ s (l : LaneId), s.phase = .running →
    let L := s.lane l
    let put (M : Lane) : State := s.modLane l fun _ => M
    let next (b : Byte) (M : Lane) : Prop :=
      (∃ more, L.replay = b :: more ∧ M = { L with replay := more }) ∨
      ∃ rest, L.replay = [] ∧ L.rxFifo = .byte b :: rest ∧
        M = { L with
          rxFifo := rest
          fillHold := L.fillHold &&
            decide (L.settings.low < (rest.filter fun x => x ≠ .gap).length) }
    (L.runs = false ∨ L.assembler = .stalled ∨ L.slot ≠ none ∨ L.replay = [] ∧ L.rxFifo = [] →
      exec (.assemblerTakeByte l) s = .next s) ∧
    (L.runs = true → L.slot = none →
      (∀ b M, next b M →
        (L.assembler = .hunt → b = 0x7E →
          exec (.assemblerTakeByte l) s =
            .next (put { M with assembler := .length, frame := [b] })) ∧
        (L.assembler = .hunt → b ≠ 0x7E → exec (.assemblerTakeByte l) s = .next (put M)) ∧
        (L.assembler = .length → b.toNat ≤ 240 →
          exec (.assemblerTakeByte l) s =
            .next (put { M with assembler := .collect, frame := L.frame ++ [b] })) ∧
        (L.assembler = .length → 240 < b.toNat →
          exec (.assemblerTakeByte l) s =
            .next ((put { M with assembler := .hunt, frame := [] }).reportError l .check)) ∧
        (L.assembler = .collect →
          let bytes := L.frame ++ [b]
          let n := bytes.length
          (n < (bytes.getD 1 0).toNat + 6 →
            exec (.assemblerTakeByte l) s = .next (put { M with frame := bytes })) ∧
          ((bytes.getD 1 0).toNat + 6 ≤ n →
            bytes.drop (n - 2) = checkBytes ((bytes.drop 1).take (n - 3)) →
            exec (.assemblerTakeByte l) s =
              .next (put { M with
                assembler := .stalled, frame := []
                slot := some
                  { kind := bytes.getD 2 0, sequence := bytes.getD 3 0
                    body := (bytes.drop 4).take (n - 6) } })) ∧
          ((bytes.getD 1 0).toNat + 6 ≤ n →
            bytes.drop (n - 2) ≠ checkBytes ((bytes.drop 1).take (n - 3)) →
            exec (.assemblerTakeByte l) s =
              .next ((put { M with
                assembler := .hunt, frame := []
                replay := bytes.drop 1 ++ M.replay }).reportError l .check)))) ∧
      ∀ rest, L.replay = [] → L.rxFifo = .gap :: rest →
        (L.assembler = .hunt → exec (.assemblerTakeByte l) s = .next (put { L with rxFifo := rest })) ∧
        (L.assembler = .length ∨ L.assembler = .collect →
          exec (.assemblerTakeByte l) s =
            .next ((put { L with rxFifo := rest, assembler := .hunt, frame := [] }).reportError l
              .check)))

/-- The transmit side (R45, R130, R131): the head part frame moves whole, stamped with the next part
sequence, when it fits the 64 bytes; an end frame that was QUEUED becomes SENT with that sequence and its
delivery timer, and the expired sequence becomes absent; one byte leaves at a time unless hold-in is
asserted. That it leaves the FIFO as its character begins is the model's choice, log entry 22. The byte last
driven is kept in the state: log entry 20.
The six part frames have the kinds 81h to 86h and the bodies of R138 and R185, CLOSE and REFUSE with their
reasons numbered in order; with DECLINED, the OUTCOME's code is six spaces. An OUTCOME and a CLOSE are end
frames. -/
def Obligations.TransmitSideSendsWholeFrames : Prop :=
  (∀ (store : Word) (lane : LaneId),
    (PartFrame.welcome store lane).kind = 0x81 ∧
    (PartFrame.welcome store lane).body = bytesOf 4 store.toNat ++ bytesOf 1 lane.val ++ [0]) ∧
  (∀ payment amount exponent,
    (PartFrame.present payment amount exponent).kind = 0x82 ∧
    (PartFrame.present payment amount exponent).body =
      bytesOf 2 payment ++ bytesOf 4 amount ++ bytesOf 1 exponent) ∧
  (∀ payment, (PartFrame.taken payment).kind = 0x83 ∧
    (PartFrame.taken payment).body = bytesOf 2 payment) ∧
  (∀ payment amount,
    (∀ code : Code6, (PartFrame.outcome payment (some code) amount).kind = 0x84 ∧
      (PartFrame.outcome payment (some code) amount).body =
        bytesOf 2 payment ++ [1] ++ bytesOf 6 code.toNat ++ bytesOf 4 amount) ∧
    (PartFrame.outcome payment none amount).kind = 0x84 ∧
    (PartFrame.outcome payment none amount).body =
      bytesOf 2 payment ++ [2] ++ [0x20, 0x20, 0x20, 0x20, 0x20, 0x20] ++ bytesOf 4 amount) ∧
  (∀ payment reason, (PartFrame.close payment reason).kind = 0x85 ∧
    (PartFrame.close payment reason).body = bytesOf 2 payment ++ bytesOf 1 (match reason with
      | .reader => 1
      | .abandoned => 2
      | .timeout => 3
      | .notCompleted => 4
      | .tryAgain => 5)) ∧
  (∀ reason sequence, (PartFrame.refuse reason sequence).kind = 0x86 ∧
    (PartFrame.refuse reason sequence).body = bytesOf 1 (match reason with
      | .notGreeted => 1
      | .badFrame => 2
      | .outOfSequence => 3
      | .notArmed => 4
      | .wrongPayment => 5
      | .badCard => 6
      | .tooLate => 7) ++ [sequence]) ∧
  (∀ f : PartFrame,
    (f.endKind = some .outcome ↔ f.kind = 0x84) ∧ (f.endKind = some .close ↔ f.kind = 0x85)) ∧
  (∀ L : Lane, L.runs = true ↔ L.mode = .down ∨ L.mode = .ready) ∧
  ∀ s (l : LaneId), s.phase = .running →
    (∀ asserted, exec (.holdInChange l asserted) s =
      .next (s.modLane l fun L => { L with holdIn := asserted })) ∧
    ((s.lane l).runs = true →
      (∀ (b : Byte) rest, (s.lane l).txFifo = b :: rest →
        ((s.lane l).holdIn = false →
          exec (.transmitCharacter l) s =
            .next (s.modLane l fun L => { L with txFifo := rest, txLine := some b })) ∧
        ((s.lane l).holdIn = true → exec (.transmitCharacter l) s = .next s)) ∧
      ∀ f rest, (s.lane l).outbound = f :: rest →
        let sequence := (s.lane l).nextPart
        let checked := [BitVec.ofNat 8 f.body.length, f.kind, sequence] ++ f.body
        let bytes := [0x7E] ++ checked ++ checkBytes checked
        let moved := s.modLane l fun L =>
          { L with outbound := rest, txFifo := L.txFifo ++ bytes, nextPart := sequence + 1 }
        (64 < (s.lane l).txFifo.length + bytes.length →
          exec (.frameMoveToTransmitFifo l) s = .next s) ∧
        ((s.lane l).txFifo.length + bytes.length ≤ 64 → f.endKind = none →
          exec (.frameMoveToTransmitFifo l) s = .next moved) ∧
        ∀ h (r : Record) k, (s.lane l).txFifo.length + bytes.length ≤ 64 → f.endKind = some k →
          (s.book l).engaged = some h → s.current? h = some r → r.delivery.value = .queued →
          exec (.frameMoveToTransmitFifo l) s =
            .next ((moved.withRecordAt (slotOf h)
              { r with
                delivery := { r.delivery with value := .sent, sequence := some sequence }
                deliveryTimer := some s.timers.delivery }).modBook l fun b =>
              { b with expired := none }))

/-- LANE HOLD takes a lane that is not HELD out of READY, clears both sides and makes it HELD; LANE OPEN
makes a HELD lane DOWN and refuses any other; both refuse a lane above 15 or OFF (R133).
LANE SETUP on a HELD lane replaces the settings present when every value is in its range and the low
mark stands at least 8 below the high mark; otherwise it is refused with RANGE, on a lane that is not HELD
with WRONG_STATE, and for a lane above 15 or OFF with RANGE first (R134). Counters and flags stay (R158). A
presence or yes-or-no byte above 1 is out of range: log entry 11. The terminal choices HOLD 1 and WRAP 2 are
log entry 10, and the response's bytes log entry 9. -/
def Obligations.LanesAreHeldOpenedAndSetUp : Prop :=
  (∀ s tag (lane : Byte), s.accepts →
     (16 ≤ lane.toNat →
       exec (.laneHold tag lane) s = .next (s.respond 23 tag .range []) ∧
       exec (.laneOpen tag lane) s = .next (s.respond 24 tag .range [])) ∧
     ∀ l, laneOf lane = some l →
       let held (t : State) : State := t.modLane l fun L =>
         { L with
           mode := .held, reader := none, rxFifo := [], fillHold := false, assembler := .hunt
           frame := [], replay := [], slot := none, outbound := [], txFifo := [], nextPart := 0 }
       ((s.lane l).mode = .off →
         exec (.laneHold tag lane) s = .next (s.respond 23 tag .range []) ∧
         exec (.laneOpen tag lane) s = .next (s.respond 24 tag .range [])) ∧
       ((s.lane l).mode = .ready →
         exec (.laneHold tag lane) s =
           .next ((held (s.leaveReady l .held)).respond 23 tag .done [4])) ∧
       ((s.lane l).mode = .down ∨ (s.lane l).mode = .faulted →
         exec (.laneHold tag lane) s = .next ((held s).respond 23 tag .done [4])) ∧
       ((s.lane l).mode = .held →
         exec (.laneHold tag lane) s = .next (s.respond 23 tag .done [4]) ∧
         exec (.laneOpen tag lane) s =
           .next ((s.modLane l fun L => { L with mode := .down }).respond 24 tag .done [2])) ∧
       ((s.lane l).mode = .down ∨ (s.lane l).mode = .ready ∨ (s.lane l).mode = .faulted →
         exec (.laneOpen tag lane) s = .next (s.respond 24 tag .wrongState []))) ∧
  (∀ s tag (lane : Byte) (fields : Vector OptByte 16), s.accepts →
     15 < lane.toNat ∨ (∃ l, laneOf lane = some l ∧ (s.lane l).mode = .off) →
     exec (.laneSetup tag lane fields) s = .next (s.respond 25 tag .range [])) ∧
  (∀ s tag (lane : Byte) (fields : Vector OptByte 16) l, s.accepts → laneOf lane = some l →
     (s.lane l).mode ≠ .off →
     let at' (i : Fin 16) : OptByte := look fields i
     let given (i : Fin 16) (low high : Nat) : Prop := (at' i).present = 0 ∨
       (at' i).present = 1 ∧ low ≤ (at' i).value.toNat ∧ (at' i).value.toNat ≤ high
     let number (i : Fin 16) (old : Nat) : Nat := if (at' i).present = 1 then (at' i).value.toNat else old
     let flag (i : Fin 16) (old : Bool) : Bool :=
       if (at' i).present = 1 then decide ((at' i).value = 1) else old
     let choice (i : Fin 16) (old : TerminalChoice) : TerminalChoice :=
       if (at' i).present = 1 then (if (at' i).value = 1 then .hold else .wrap) else old
     let counter (i : Fin 16) (old : CounterSettings) : CounterSettings :=
       { enable := flag i old.enable, terminal := choice (i + 1) old.terminal
         attend := flag (i + 2) old.attend, fault := flag (i + 3) old.fault }
     let counterGiven (i : Fin 16) : Prop :=
       given i 0 1 ∧ given (i + 1) 1 2 ∧ given (i + 2) 0 1 ∧ given (i + 3) 0 1
     let old := (s.lane l).settings
     let high := number 1 old.high
     let low := number 2 old.low
     let ok := given 0 1 6 ∧ given 1 8 127 ∧ given 2 0 127 ∧ given 3 1 255 ∧ counterGiven 4 ∧
       counterGiven 8 ∧ counterGiven 12 ∧ low + 8 ≤ high
     ((s.lane l).mode ≠ .held →
       exec (.laneSetup tag lane fields) s = .next (s.respond 25 tag .wrongState [])) ∧
     ((s.lane l).mode = .held → ¬ ok →
       exec (.laneSetup tag lane fields) s = .next (s.respond 25 tag .range [])) ∧
     ((s.lane l).mode = .held → ok →
       ∃ new : LaneSettings,
         new = { old with
           speed := new.speed, high := high, low := low, threshold := number 3 old.threshold
           line := counter 4 old.line, check := counter 8 old.check, order := counter 12 old.order } ∧
         new.speed.code = number 0 old.speed.code ∧
         exec (.laneSetup tag lane fields) s =
           .next ((s.modLane l fun L => { L with settings := new }).respond 25 tag .done
             (settingsBytes new)))) ∧
  ∀ c : LaneSettings,
    let flag (b : Bool) : Byte := if b then 1 else 0
    let terminal (x : TerminalChoice) : Byte := match x with
      | .hold => 1
      | .wrap => 2
    let counter (x : CounterSettings) : List Byte :=
      [flag x.enable, terminal x.terminal, flag x.attend, flag x.fault]
    settingsBytes c = List.flatten
      [ bytesOf 1 c.speed.code, bytesOf 1 c.high, bytesOf 1 c.low, bytesOf 1 c.threshold,
        counter c.line, counter c.check, counter c.order ]

/-! ## Error supervision -/

/-- An error reported to an enabled counter advances it by the table of R154, and the threshold actions of
the counter apply when an advance that takes the test leaves it at the threshold (R155 to R157); a counter
that is not enabled takes no report (R153). Every counter is enabled with choice HOLD after a start. ATTEND
latches "error threshold" of the counter's kind and no other cause of the lane (R156). -/
def Obligations.ErrorReportsAdvanceTheirCounter : Prop :=
  (∀ c : LaneCauses, c.latchThreshold .line = { c with thresholdLine := true } ∧
    c.latchThreshold .check = { c with thresholdCheck := true } ∧
    c.latchThreshold .order = { c with thresholdOrder := true }) ∧
  (∀ (c : LaneSettings) (e : ErrorCounters),
    c.counter .line = c.line ∧ c.counter .check = c.check ∧ c.counter .order = c.order ∧
    e.get .line = e.line ∧ e.get .check = e.check ∧ e.get .order = e.order ∧
    ∀ x, e.set .line x = { e with line := x } ∧ e.set .check x = { e with check := x } ∧
      e.set .order x = { e with order := x }) ∧
  (∀ choice (c : ErrorCounter),
    (c.value ≤ 253 → advanceCounter choice c = ({ c with value := c.value + 1 }, true)) ∧
    (c.value = 254 → advanceCounter choice c = ({ value := 255, terminal := true }, true)) ∧
    (c.value = 255 → advanceCounter .hold c = (c, false)) ∧
    (c.value = 255 → advanceCounter .wrap c = ({ value := 0, terminal := true }, true))) ∧
  (∀ (s : State) phase cause l kind,
    (((s.startValues phase cause).lane l).settings.counter kind).terminal = .hold ∧
    (((s.startValues phase cause).lane l).settings.counter kind).enable = true) ∧
  ∀ (s : State) (l : LaneId) kind,
    let c := (s.lane l).settings.counter kind
    let after := advanceCounter c.terminal ((s.lane l).errors.get kind)
    let counted := s.modLane l fun L => { L with errors := L.errors.set kind after.1 }
    let met := after.2 = true ∧ after.1.value = (s.lane l).settings.threshold
    let attended := if c.attend then counted.modCauses l fun x => x.latchThreshold kind else counted
    let faulted (t : State) : State :=
      (t.modLane l fun L =>
        { L with
          mode := .faulted, reader := none, rxFifo := [], fillHold := false, assembler := .hunt
          frame := [], replay := [], slot := none, outbound := [], txFifo := [], nextPart := 0 }).modCauses
        l fun x => { x with faulted := some kind }
    (c.enable = false → s.reportError l kind = s) ∧
    (c.enable = true → ¬ met → s.reportError l kind = counted) ∧
    (c.enable = true → met → c.fault = false → s.reportError l kind = attended) ∧
    (c.enable = true → met → c.fault = true → (s.lane l).mode = .down →
      s.reportError l kind = faulted attended) ∧
    (c.enable = true → met → c.fault = true → (s.lane l).mode = .ready →
      s.reportError l kind = faulted (attended.leaveReady l .lost))

/-- LANE CLEAR (R159): RANGE for a lane above 15 or OFF; otherwise the response carries the three values and
flags as they stood, and then all three counters are 0 with their flags clear and nothing else changed; an
error reported afterwards advances an enabled counter from 0 to 1, and with a threshold of 1 its actions
apply. -/
def Obligations.LaneClearReturnsTheCounters : Prop :=
  ∀ s tag (lane : Byte), s.accepts →
    (15 < lane.toNat → exec (.laneClear tag lane) s = .next (s.respond 27 tag .range [])) ∧
    ∀ l, laneOf lane = some l →
      let e := (s.lane l).errors
      let cleared := s.modLane l fun L =>
        { L with
          errors :=
            { line := { value := 0, terminal := false }, check := { value := 0, terminal := false }
              order := { value := 0, terminal := false } } }
      let flag (b : Bool) : Byte := if b then 1 else 0
      ((s.lane l).mode = .off → exec (.laneClear tag lane) s = .next (s.respond 27 tag .range [])) ∧
      ((s.lane l).mode ≠ .off →
        exec (.laneClear tag lane) s =
          .next (cleared.respond 27 tag .done
            [ BitVec.ofNat 8 e.line.value, BitVec.ofNat 8 e.check.value, BitVec.ofNat 8 e.order.value,
              flag e.line.terminal, flag e.check.terminal, flag e.order.terminal ])) ∧
      ∀ kind, (((cleared.lane l).settings.counter kind).enable = true →
        let t := cleared.reportError l kind
        (t.lane l).errors.get kind = { value := 1, terminal := false } ∧
        (((s.lane l).settings.threshold = 1 →
          (((s.lane l).settings.counter kind).attend = true →
            (look t.attention.lanes l).latchThreshold kind = look t.attention.lanes l) ∧
          (((s.lane l).settings.counter kind).fault = true →
            (s.lane l).mode = .down ∨ (s.lane l).mode = .ready → (t.lane l).mode = .faulted)))) ∧
        ∀ other, (cleared.lane l).errors.get other = { value := 0, terminal := false }

/-! ## The reader dialogue -/

/-- HELLO greets a DOWN lane and restarts the dialogue of a READY one (R143, R144, R151): the frame leaves the
slot, the lane is READY with the session and the expected sequence base plus 1, a WELCOME alone on its
outbound list and its numbering from 0, and "up" is latched. A restart first leaves READY and clears the
transmit FIFO; a greeting keeps it. -/
def Obligations.HelloGreetsAndRestarts : Prop :=
  ∀ s (l : LaneId) f identity firmware base c, s.phase = .running → s.commission = some c →
    (s.lane l).slot = some f → f.read = .hello identity firmware base →
    let greeted (L : Lane) : Lane :=
      { L with
        slot := none, assembler := if L.assembler = .stalled then .hunt else L.assembler
        mode := .ready, outbound := [.welcome c.store l], nextPart := 0
        reader := some { expected := base + 1, identity := identity, firmware := firmware } }
    ((s.lane l).mode = .down →
      exec (.readerHello l) s =
        .next ((s.modLane l greeted).modCauses l fun x => { x with up := true })) ∧
    ((s.lane l).mode = .ready →
      exec (.readerHello l) s =
        .next (((s.leaveReady l .lost).modLane l fun L => { greeted L with txFifo := [] }).modCauses l
          fun x => { x with up := true }))

/-- Frames that are refused before they are read further: on a DOWN lane every frame but a HELLO, without a
count (R143); on a READY lane one out of its sequence, which keeps the expected sequence, and a badly formed
one, which uses it unless it is a HELLO (R140, R144, R145); a CARD under LOW supply stays in its slot
(R142).
How a frame that is no CARD is read (R137, R185; a CARD is read in the next statement): kind 01h with a body
of 10 bytes is a HELLO, 03h with 2 bytes and a payment number that is not 0 a CANCEL, 04h with 1 byte an ACK;
any other body of these kinds, and every kind but 01h to 04h, is badly formed. Taking a frame in its turn
empties the slot and advances the expected sequence (R128, R140). -/
def Obligations.FramesAreRefusedBeforeTheyAct : Prop :=
  (∀ f : LaneFrame,
    let byte (i : Nat) : Byte := f.body.getD i 0
    let payment := 256 * (byte 0).toNat + (byte 1).toNat
    (∀ a b c d e g h i firmware base : Byte, f.kind = 1 →
      f.body = [a, b, c, d, e, g, h, i, firmware, base] →
      f.read = .hello (a ++ b ++ c ++ d ++ e ++ g ++ h ++ i) firmware base) ∧
    (f.kind = 1 → f.body.length ≠ 10 → f.read = .badlyFormed) ∧
    (f.kind = 3 → f.body.length = 2 → payment ≠ 0 → f.read = .cancel payment) ∧
    (f.kind = 3 → f.body.length ≠ 2 ∨ payment = 0 → f.read = .badlyFormed) ∧
    (f.kind = 4 → f.body.length = 1 → f.read = .ack (byte 0)) ∧
    (f.kind = 4 → f.body.length ≠ 1 → f.read = .badlyFormed) ∧
    (f.kind ≠ 1 → f.kind ≠ 2 → f.kind ≠ 3 → f.kind ≠ 4 → f.read = .badlyFormed)) ∧
  (∀ g : ReaderFrame, (g.isHello = true ↔ ∃ identity firmware base, g = .hello identity firmware base) ∧
    (g.isCard = true ↔ ∃ payment fields, g = .card payment fields) ∧
    (g.isCancel = true ↔ ∃ payment, g = .cancel payment) ∧
    (g.isAck = true ↔ ∃ acknowledged, g = .ack acknowledged)) ∧
  (∀ (s : State) l, s.frameTaken l = s.modLane l fun L =>
    { L with
      slot := none, assembler := if L.assembler = .stalled then .hunt else L.assembler
      reader := L.reader.map fun x => { x with expected := x.expected + 1 } }) ∧
  ∀ s (l : LaneId) f, s.phase = .running → (s.lane l).slot = some f →
    let emptied := s.modLane l fun L =>
      { L with slot := none, assembler := if L.assembler = .stalled then .hunt else L.assembler }
    let refused (t : State) (reason : RefuseReason) : State :=
      t.modLane l fun L => L.offer (.refuse reason f.sequence)
    let waits := f.kind = 2 ∧ s.supply.state = .low
    let takes (i : Instr) : Prop :=
      i = .badlyFormedFrame l ∧ f.read = .badlyFormed ∨
      i = .readerCard l ∧ f.read.isCard = true ∨ i = .waitingCardDispatch l ∧ f.kind = 2 ∨
      i = .readerCancel l ∧ f.read.isCancel = true ∨ i = .readerAck l ∧ f.read.isAck = true
    (∀ i, takes i → waits → exec i s = .next s) ∧
    (∀ i, takes i → ¬ waits → (s.lane l).mode = .down →
      exec i s = .next (refused emptied (if f.kind = 1 then .badFrame else .notGreeted))) ∧
    (∀ i, takes i → ¬ waits → (s.lane l).mode = .ready → f.kind ≠ 1 →
      (s.lane l).reader.map (fun r => r.expected) ≠ some f.sequence →
      exec i s = .next ((refused emptied .outOfSequence).reportError l .order)) ∧
    ((s.lane l).mode = .ready → f.kind = 1 → f.read = .badlyFormed →
      exec (.badlyFormedFrame l) s = .next ((refused emptied .badFrame).reportError l .order)) ∧
    (¬ waits → s.inTurn l f → f.kind ≠ 1 → f.read = .badlyFormed →
      exec (.badlyFormedFrame l) s =
        .next ((refused (s.frameTaken l) .badFrame).reportError l .order))

/-- A CARD in its turn (R31 to R33, R146 to R148): refused and counted when no record is ARMED or the payment
number differs; invalid content fails the record BAD_CARD behind a REFUSE; a counter at the capture limit
fails it KEY_SPENT; otherwise the counter is taken, the record is bound and CAPTURING with its card, the job
is placed and TAKEN is offered. A CARD left waiting is taken in the same way (R142).
How a frame of kind 02h is read (R137, R185): with the body length 18 more than its chip data length, a payment
number that is not 0, an entry method from 1 to 4, a verification method from 0 to 3, a year to 99 and no
place above 9 within the card number length, it is a CARD with those fields, two places to a byte and the first
in the upper half; otherwise it is badly formed. Places beyond the length, and beyond the tenth byte, are not
examined. -/
def Obligations.CardIsCaptured : Prop :=
  (∀ f : LaneFrame, f.kind = 2 →
    let byte (i : Nat) : Byte := f.body.getD i 0
    let payment := 256 * (byte 0).toNat + (byte 1).toNat
    let place (i : Nat) : Nibble :=
      BitVec.ofNat 4 (if i % 2 = 0 then (byte (4 + i / 2)).toNat / 16 else (byte (4 + i / 2)).toNat % 16)
    let examined := min (byte 3).toNat 20
    let wellFormed := f.body.length = 18 + (byte 17).toNat ∧ payment ≠ 0 ∧ 1 ≤ (byte 2).toNat ∧
      (byte 2).toNat ≤ 4 ∧ (byte 16).toNat ≤ 3 ∧ (byte 14).toNat ≤ 99 ∧
      ∀ i, i < examined → (place i).toNat ≤ 9
    (¬ wellFormed → f.read = .badlyFormed) ∧
    (wellFormed → ∃ entry verify,
      [EntryMethod.tap, .dip, .swipe, .keyed][(byte 2).toNat - 1]? = some entry ∧
      [VerifyMethod.none, .signature, .chipPin, .device][(byte 16).toNat]? = some verify ∧
      f.read = .card payment
        { entry := entry, numberLength := (byte 3).toNat, digits := (List.range examined).map place
          year := byte 14, month := byte 15, verify := verify, chip := f.body.drop 18 })) ∧
  ∀ s (l : LaneId) f payment (c : CardFields) i, s.inTurn l f → f.read = .card payment c →
    s.supply.state = .normal → i = .readerCard l ∨ i = .waitingCardDispatch l →
    let s1 := s.frameTaken l
    let refused (reason : RefuseReason) : State := s1.offer l (.refuse reason f.sequence)
    let valid := 12 ≤ c.numberLength ∧ c.numberLength ≤ 19 ∧ 1 ≤ c.month.toNat ∧ c.month.toNat ≤ 12 ∧
      c.chip.length ≤ 96
    ((s.book l).engaged = none → exec i s = .next ((refused .notArmed).reportError l .order)) ∧
    ∀ h (r : Record), (s.book l).engaged = some h → s.current? h = some r →
      let slot := slotOf h
      let failed (t : State) (reason : EndReason) : State :=
        (t.withRecordAt slot
          { r with
            state := .failed, endReason := some reason, stateTimer := none
            ended := true }).queueClose slot .tryAgain
      (r.state ≠ .armed → exec i s = .next ((refused .notArmed).reportError l .order)) ∧
      (r.state = .armed → r.payment ≠ payment →
        exec i s = .next ((refused .wrongPayment).reportError l .order)) ∧
      (r.state = .armed → r.payment = payment → ¬ valid →
        exec i s = .next (failed (refused .badCard) .badCard)) ∧
      ∀ a m, r.state = .armed → r.payment = payment → valid → s.entryIn .active = some a →
        (s.entry a).material = some m →
        let limit := 65536 - s.limits.reserve
        (s1.takeCounter m.generation r.lane limit = none →
          exec i s = .next (failed s1 .keySpent)) ∧
        ∀ k s', s1.takeCounter m.generation r.lane limit = some (k, s') →
          let bound := s'.setEntry a
            { s'.entry a with bindings := (s'.entry a).bindings + 1 }
          let captured := bound.withRecordAt slot
            { r with
              state := .capturing, stateTimer := none, cancelPending := none
              binding := some { generation := m.generation, counter := k }, bound := true
              summary := some
                { entry := c.entry, issuerDigits := c.digits.take 6
                  lastFour := c.digits.drop (c.digits.length - 4), verify := c.verify }
              card := some
                { digits := c.digits, year := c.year, month := c.month, entry := c.entry
                  verify := c.verify, chip := c.chip } }
          exec i s =
            .next ((captured.placeJob (.capture h r.lane m.generation k)).offer r.lane
              (.taken r.payment))

/-- A CANCEL and an ACK in their turn. A CANCEL without an engaged record of its payment number is discarded
(R149); it cancels an ARMED or WRAPPED record and a CAPTURING one whose job is still queued, is left pending
for a job in service, changes nothing when one is pending, and is refused TOO_LATE otherwise (R38, R40). An
ACK completes the delivery of the SENT end frame it names, is ignored once against the lane's expired
sequence, and is an ORDER error otherwise (R46, R150). -/
def Obligations.CancelAndAckActOnTheEngagedRecord : Prop :=
  (∀ s (l : LaneId) f payment, s.inTurn l f → f.read = .cancel payment →
    let s1 := s.frameTaken l
    ((s.book l).engaged = none → exec (.readerCancel l) s = .next s1) ∧
    ∀ h (r : Record), (s.book l).engaged = some h → s.current? h = some r →
      let slot := slotOf h
      let cancelled : Record :=
        { r with
          state := .cancelled, endReason := some .reader, stateTimer := none, cancelPending := none
          payload := none, card := none, ended := true }
      let queued := s.engine.queue.any (Job.isCaptureOf h)
      (r.payment ≠ payment → exec (.readerCancel l) s = .next s1) ∧
      (r.payment = payment → r.state = .armed ∨ r.state = .wrapped →
        exec (.readerCancel l) s =
          .next ((s1.withRecordAt slot cancelled).queueClose slot .reader)) ∧
      (r.payment = payment → r.state = .capturing → r.cancelPending = none → queued = true →
        exec (.readerCancel l) s =
          .next (((s1.setQueue (s.engine.queue.eraseP (Job.isCaptureOf h))).withRecordAt slot
            cancelled).queueClose slot .reader)) ∧
      (r.payment = payment → r.state = .capturing → r.cancelPending = none → queued = false →
        exec (.readerCancel l) s =
          .next (s1.withRecordAt slot { r with cancelPending := some .reader })) ∧
      (r.payment = payment → r.state = .capturing → r.cancelPending ≠ none →
        exec (.readerCancel l) s = .next s1) ∧
      (r.payment = payment → r.state = .released ∨ r.state.isEngaging = false →
        exec (.readerCancel l) s = .next (s1.offer l (.refuse .tooLate f.sequence)))) ∧
  ∀ s (l : LaneId) f a, s.inTurn l f → f.read = .ack a →
    let s1 := s.frameTaken l
    let matched (r : Record) : Prop := r.delivery.value = .sent ∧ r.delivery.sequence = some a
    (∀ h (r : Record), (s.book l).engaged = some h → s.current? h = some r → matched r →
      exec (.readerAck l) s =
        .next ((s1.withRecordAt (slotOf h)
          { r with delivery := { r.delivery with value := .acked }, deliveryTimer := none }).modBook l
          fun b => { b with engaged := none })) ∧
    ((∀ h r, (s.book l).engaged = some h → s.current? h = some r → ¬ matched r) →
      ((s.book l).expired = some a →
        exec (.readerAck l) s = .next (s1.modBook l fun b => { b with expired := none })) ∧
      ((s.book l).expired ≠ some a → exec (.readerAck l) s = .next (s1.reportError l .order)))

/-! ## Supply and case -/

/-- The supply monitor (R160, R161): a fall below the level makes a NORMAL part LOW and latches SUPPLY; a rise
above the level plus 0.05 V starts the recovery timer and a fall back to it stops the timer; its expiry makes
the part NORMAL and latches SUPPLY, whose count runs from 1 and stops at 255. Every row that carries a
voltage acts by it alone: a LOW part keeps its recovery timer exactly while the voltage stands above the level
plus 0.05 V, and a NORMAL part at or above the level changes nothing else. Below 2.70 V the part loses its
volatile state: the model's phase for that, log entry 13. The rows carry the voltage the supply comes to: log
entry 14. An expiry with the timer idle or the state NORMAL changes nothing: log entry 3. The level in force is
the commissioned one, 2.90, 3.00, 3.10 or 3.20 V, and 2.90 V before commissioning (R160, R178). -/
def Obligations.SupplyMonitorFollowsTheVoltage : Prop :=
  levelInForce none = 2900 ∧ (∀ c, levelInForce (some c) = c.level.millivolts) ∧
  [SupplyLevel.v290, .v300, .v310, .v320].map SupplyLevel.millivolts = [2900, 3000, 3100, 3200] ∧
  (∀ s mv, s.phase = .running →
    let level := levelInForce s.commission
    let latched (t : State) (new : SupplyState) : State :=
      { t with attention := { t.attention with
          supply := some
            { state := new
              count := match s.attention.supply with
                | none => 1
                | some c => min 255 (c.count + 1) } } }
    let at' (state : SupplyState) (recovering : Bool) : State :=
      { s with supply := { millivolts := mv, state := state, recovering := recovering } }
    (s.supply.state = .normal → 2700 ≤ mv → mv < level →
      exec (.supplyBelowLevel mv) s = .next (latched (at' .low false) .low)) ∧
    (s.supply.state = .low → 2700 ≤ mv → level + 50 < mv →
      exec (.supplyAboveRecoveryLevel mv) s = .next (at' .low true)) ∧
    (s.supply.state = .low → 2700 ≤ mv → mv ≤ level + 50 →
      exec (.supplyBelowRecoveryLevel mv) s = .next (at' .low false)) ∧
    (mv < 2700 →
      exec (.supplyBelowLevel mv) s =
        .next { s with supply := { s.supply with millivolts := mv }, phase := .unpowered }) ∧
    (s.supply.state = .low → s.supply.recovering = true →
      exec .recoveryTimerExpiry s =
        .next (latched
          { s with supply :=
            { millivolts := s.supply.millivolts, state := .normal, recovering := false } } .normal)) ∧
    (s.supply.recovering = false ∨ s.supply.state = .normal → exec .recoveryTimerExpiry s = .next s)) ∧
  ∀ (s : State) mv (i : Instr),
    i = .supplyBelowLevel mv ∨ i = .supplyAboveRecoveryLevel mv ∨ i = .supplyBelowRecoveryLevel mv →
    let level := levelInForce s.commission
    let moved : State := { s with supply := { s.supply with millivolts := mv } }
    (mv < 2700 → exec i s = .next { moved with phase := .unpowered }) ∧
    (2700 ≤ mv → s.phase ≠ .running → exec i s = .next moved) ∧
    (2700 ≤ mv → s.phase = .running → s.supply.state = .low →
      exec i s = .next { s with supply :=
        { millivolts := mv, state := .low, recovering := decide (level + 50 < mv) } }) ∧
    (2700 ≤ mv → s.phase = .running → s.supply.state = .normal → level ≤ mv → exec i s = .next moved) ∧
    (2700 ≤ mv → s.phase = .running → s.supply.state = .normal → mv < level →
      exec i s = .next { s with
        supply := { millivolts := mv, state := .low, recovering := false }
        attention := { s.attention with
          supply := some
            { state := .low
              count := match s.attention.supply with
                | none => 1
                | some c => min 255 (c.count + 1) } } })

/-- A case line takes its level (R163, R165): the case is OPEN while either line is at the open level; a
change of the case level away from the registered level sets a latch that is clear; an opening with erasure
enabled erases in the same event. While the part does not run only the line moves (R180; the phases are log entry
13). -/
def Obligations.CaseLinesLatchAndErase : Prop :=
  (∀ c : CaseMonitor, c.current =
    if c.lineA = .opened ∨ c.lineB = .opened then .opened else .closed) ∧
  ∀ s line (level : CaseLevel),
    let moved : CaseMonitor := match line with
      | .caseA => { s.caseMon with lineA := level }
      | .caseB => { s.caseMon with lineB := level }
    let now : CaseLevel :=
      if moved.lineA = .opened ∨ moved.lineB = .opened then .opened else .closed
    let before : CaseLevel :=
      if s.caseMon.lineA = .opened ∨ s.caseMon.lineB = .opened then .opened else .closed
    let latched : CaseMonitor :=
      if s.caseMon.latch = none ∧ now ≠ s.caseMon.registered then { moved with latch := some now }
      else moved
    let erases : Prop := now = .opened ∧ ∃ c, s.commission = some c ∧ c.eraseOnOpen = true
    (s.phase ≠ .running ∨ now = before →
      exec (.caseLineChange line level) s = .next { s with caseMon := moved }) ∧
    (s.phase = .running → now ≠ before → ¬ erases →
      exec (.caseLineChange line level) s = .next { s with caseMon := latched }) ∧
    (s.phase = .running → now ≠ before → erases →
      exec (.caseLineChange line level) s = .next (erasure { s with caseMon := latched }))

/-- Erasure (R105, R115, R166, R167): the engine is empty, every key entry EMPTY with the highest generation
kept, every record unbound without its card block, its WAITING and WRAPPING entries FAILED with the Late
mark; an ARMED record is CANCELLED and a CAPTURING one FAILED, both KEYS_LOST with the Ended mark, and the
engaged one queues its CLOSE; the CARD in a slot is gone, a KEY LOAD in service is answered, and the
account, the free list and the settings stay. Where the engagements hold, a READY lane whose engaged record
is ended has CLOSE with TRY_AGAIN offered to its outbound list (R44, R166), and nothing else of any lane
changes but the slot of a CARD. The answer's flags are those after everything else, the model's order, log
entry 12; with no request in service the port stays as it is. -/
def Obligations.ErasureDestroysKeysAndCards : Prop :=
  (∀ s : State, ∃ t, erasure s = t ∧
    t.engine = { queue := [], service := if s.supply.state = .low then .held else .idle } ∧
    (∀ i, t.entry i =
      { state := .empty, material := none, bindings := 0, counters := Vector.replicate 16 0 }) ∧
    t.keys.highest = s.keys.highest ∧ t.caseMon = { s.caseMon with erased := true } ∧
    t.table.waiting = [] ∧ t.table.free = s.table.free ∧ t.table.storeTotal = s.table.storeTotal ∧
    t.table.lowMarkArmed = s.table.lowMarkArmed ∧ t.attention = s.attention ∧
    t = { s with
      engine := t.engine, keys := t.keys, caseMon := t.caseMon, table := t.table, lanes := t.lanes
      port := t.port } ∧
    (∀ l, t.book l = { s.book l with engaged := (t.book l).engaged }) ∧
    (∀ l, (t.lane l).slot = (s.lane l).slot.filter fun f => f.kind ≠ 2) ∧
    (∀ tag, s.port.state = .serving 19 tag →
      t.port =
        { state := .answering
            { kind := 19, tag := tag, status := .keysLost
              flags :=
                { discarded := s.port.discarded, attention := t.attentionOut
                  startUnread := s.startUnread }
              body := [] }
          discarded := false
          sdo := s.port.sdo }) ∧
    ((∀ kind tag, s.port.state ≠ .serving kind tag) → t.port = s.port) ∧
    (∀ slot, (t.cell slot).tag = (s.cell slot).tag) ∧
    (∀ slot, s.recordAt slot = none → t.recordAt slot = none) ∧
    ∀ slot (r : Record), s.recordAt slot = some r → ∃ q, t.recordAt slot = some q ∧
      let kept : Record :=
        { r with
          bound := false, card := none, delivery := q.delivery
          followUps := r.followUps.map fun f =>
            if f.status = .waiting ∨ f.status = .wrapping then { f with status := .failed } else f
          late := r.late || r.followUps.any fun f =>
            decide (f.status = .waiting ∨ f.status = .wrapping) }
      (r.state ≠ .armed → r.state ≠ .capturing → q = kept ∧ q.delivery = r.delivery) ∧
      (r.state = .armed →
        q = { kept with
          state := .cancelled, endReason := some .keysLost, stateTimer := none, ended := true }) ∧
      (r.state = .capturing →
        q = { kept with
          state := .failed, endReason := some .keysLost, cancelPending := none, ended := true }) ∧
      ∀ h, r.state = .armed ∨ r.state = .capturing → (s.book r.lane).engaged = some h →
        s.current? h = some r → slotOf h = slot → r.delivery.value = .none →
        q.delivery.kind = some .close ∧
        ((s.lane r.lane).mode = .ready → q.delivery.value = .queued) ∧
        ((s.lane r.lane).mode ≠ .ready →
          q.delivery.value = .unconfirmed ∧ (t.book r.lane).engaged = none)) ∧
  ∀ s : State, s.engagementsHold → s.recordsWellFormed → ∀ l,
    let emptied (L : Lane) : Lane :=
      if ∃ f, L.slot = some f ∧ f.kind = 2 then
        { L with slot := none, assembler := if L.assembler = .stalled then .hunt else L.assembler }
      else L
    let ends (r : Record) : Prop := (∃ h, (s.book l).engaged = some h ∧ s.current? h = some r) ∧
      (r.state = .armed ∨ r.state = .capturing) ∧ (s.lane l).mode = .ready
    (∀ r, ends r →
      (erasure s).lane l = emptied
        { s.lane l with
          outbound := offerTo (s.lane l).outbound (.close r.payment .tryAgain) }) ∧
    ((∀ r, ¬ ends r) → (erasure s).lane l = emptied (s.lane l))

/-! ## Attention, CASE READ, START READ and COMMISSION -/

/-- NEXT ATTENTION (R175) reports the first eligible cause with its subject and the count of causes eligible
after it, and clears that cause and no other, apart from CASE and READY causes, which stay; with none eligible
the class is NONE. A cause is pending exactly while it is latched or its condition holds (R173); record causes
are found through the lane lists, log entry 17. The pending causes stand in the order of R174: by class
priority, and within a class by lane, generation number, kind or slot; every step keeps the order of the KEYS
causes. The classes are numbered 1 to 8 by Table 11-3. Items a subject does not carry are omitted, log entry
9; the codes of levels and supply states are log entry 10; that a count above 65,535 is sent as its last two
bytes is the model's choice, log entry 24. -/
def Obligations.NextAttentionReportsTheFirstCause : Prop :=
  (∀ cause : Cause, cause.classNumber = match cause with
    | .caseEvent _ => 1
    | .supply _ => 2
    | .drained _ | .warning .. => 3
    | .laneUp _ | .laneDown _ | .laneFaulted .. | .laneThreshold .. => 4
    | .late .. => 5
    | .ready .. => 6
    | .ended .. => 7
    | .table => 8) ∧
  (∀ s tag, s.accepts → s.eligibleCauses = [] →
    exec (.nextAttention tag) s = .next (s.respond 28 tag .done [0, 0, 0])) ∧
  (∀ s tag cause rest, s.accepts → s.eligibleCauses = cause :: rest →
    let unit (f : AttentionUnit → AttentionUnit) : State := { s with attention := f s.attention }
    let ofLane (l : LaneId) (f : LaneCauses → LaneCauses) : State :=
      unit fun a => { a with lanes := put a.lanes l (f (look a.lanes l)) }
    let ofRecord (slot : Slot) (f : Record → Record) : State :=
      s.setCell slot { tag := (s.cell slot).tag, record := (s.recordAt slot).map f }
    let t : State := match cause with
      | .caseEvent _ => s
      | .supply _ => unit fun a => { a with supply := none }
      | .drained g => unit fun a => { a with drained := a.drained.erase g }
      | .warning l g => unit fun a => { a with warnings := a.warnings.erase (l, g) }
      | .laneUp l => ofLane l fun c => { c with up := false }
      | .laneDown l => ofLane l fun c => { c with down := false }
      | .laneFaulted l _ => ofLane l fun c => { c with faulted := none }
      | .laneThreshold l .line => ofLane l fun c => { c with thresholdLine := false }
      | .laneThreshold l .check => ofLane l fun c => { c with thresholdCheck := false }
      | .laneThreshold l .order => ofLane l fun c => { c with thresholdOrder := false }
      | .late _ slot => ofRecord slot fun r => { r with late := false }
      | .ready .. => s
      | .ended _ slot => ofRecord slot fun r => { r with ended := false }
      | .table => unit fun a => { a with table := false }
    let handle (slot : Slot) : List Byte := bytesOf 2 (s.handleOf slot).toNat
    let levelByte (level : CaseLevel) : Byte := if level = .closed then 1 else 2
    let supplyByte (state : SupplyState) : Byte := if state = .normal then 1 else 2
    let kindByte (kind : ErrorKind) : Byte := match kind with
      | .line => 1
      | .check => 2
      | .order => 3
    let subject : List Byte := match cause with
      | .caseEvent level => [levelByte level, if s.caseMon.erased then 1 else 0]
      | .supply c => supplyByte c.state :: bytesOf 1 c.count
      | .drained g => 1 :: bytesOf 2 g
      | .warning l g => 2 :: (bytesOf 1 l.val ++ bytesOf 2 g)
      | .laneUp l => bytesOf 1 l.val ++ [1]
      | .laneDown l => bytesOf 1 l.val ++ [2]
      | .laneFaulted l kind => bytesOf 1 l.val ++ [3, kindByte kind]
      | .laneThreshold l kind => bytesOf 1 l.val ++ [4, kindByte kind]
      | .late _ slot | .ended _ slot => handle slot ++ match s.recordAt slot with
        | some r => bytesOf 1 r.state.code
        | none => []
      | .ready _ slot => handle slot ++ match s.recordAt slot with
        | some r =>
          if r.state = .wrapped then [0, 0]
          else 1 :: bytesOf 1 (r.followUps.findIdx fun f => decide (f.status = .ready))
        | none => []
      | .table => bytesOf 4 s.freeCount
    exec (.nextAttention tag) s =
        .next (t.respond 28 tag .done (bytesOf 1 cause.classNumber ++ subject ++
          bytesOf 2 t.eligibleCauses.length)) ∧
      (s.keysCausesOrdered → s.slotsPartitioned → ∀ c, c ∈ t.pendingCauses ↔
        c ∈ s.pendingCauses ∧ (c = cause → cause.classNumber = 1 ∨ cause.classNumber = 6))) ∧
  (∀ s : State, (s.eligibleCauses.map Cause.classNumber).Pairwise (fun a b => a ≤ b)) ∧
  (∀ s : State, s.eligibleCauses = s.pendingCauses.filter fun c =>
    s.attention.classes.getLsbD (c.classNumber - 1) &&
      c.lane.all fun l => s.attention.laneMask.getLsbD l.val) ∧
  (∀ s : State, s.keysCausesOrdered → s.pendingCauses.Pairwise Cause.notAfter) ∧
  (∀ s t : State, s.keysCausesOrdered → step s = .next t → t.keysCausesOrdered) ∧
  ∀ (s : State) l slot,
    (.late l slot ∈ s.pendingCauses ↔
      slot ∈ (s.book l).list ∧ ∃ r, s.recordAt slot = some r ∧ r.late = true) ∧
    (.ended l slot ∈ s.pendingCauses ↔
      slot ∈ (s.book l).list ∧ ∃ r, s.recordAt slot = some r ∧ r.ended = true) ∧
    (.ready l slot ∈ s.pendingCauses ↔
      slot ∈ (s.book l).list ∧ ∃ r, s.recordAt slot = some r ∧
        (r.state = .wrapped ∨ ∃ f ∈ r.followUps, f.status = .ready)) ∧
    (∀ level, .caseEvent level ∈ s.pendingCauses ↔ s.caseMon.latch = some level) ∧
    (∀ c, .supply c ∈ s.pendingCauses ↔ s.attention.supply = some c) ∧
    (∀ g, .drained g ∈ s.pendingCauses ↔ g ∈ s.attention.drained) ∧
    (∀ g, .warning l g ∈ s.pendingCauses ↔ (l, g) ∈ s.attention.warnings) ∧
    (.laneUp l ∈ s.pendingCauses ↔ (look s.attention.lanes l).up = true) ∧
    (.laneDown l ∈ s.pendingCauses ↔ (look s.attention.lanes l).down = true) ∧
    (∀ kind, .laneFaulted l kind ∈ s.pendingCauses ↔
      (look s.attention.lanes l).faulted = some kind) ∧
    (.laneThreshold l .line ∈ s.pendingCauses ↔ (look s.attention.lanes l).thresholdLine = true) ∧
    (.laneThreshold l .check ∈ s.pendingCauses ↔ (look s.attention.lanes l).thresholdCheck = true) ∧
    (.laneThreshold l .order ∈ s.pendingCauses ↔ (look s.attention.lanes l).thresholdOrder = true) ∧
    (.table ∈ s.pendingCauses ↔ s.attention.table = true)

/-- ATTENTION MASK (R176) replaces both masks and answers them with the count of causes now eligible; no
pending cause is cleared; a lane bit masks the causes that have that lane, the others follow their class
alone; every start enables everything. That a count above 65,535 is sent as its last two bytes is the model's
choice, log entry 24. -/
def Obligations.AttentionMaskSetsBothMasks : Prop :=
  (∀ s tag (classes : Byte) (lanes : Half), s.accepts →
    let t : State :=
      { s with attention := { s.attention with classes := classes, laneMask := lanes } }
    exec (.attentionMask tag classes lanes) s =
      .next (t.respond 29 tag .done
        ([classes] ++ bytesOf 2 lanes.toNat ++ bytesOf 2 t.eligibleCauses.length)) ∧
    t.pendingCauses = s.pendingCauses ∧
    ∀ cause, cause ∈ t.eligibleCauses ↔
      cause ∈ s.pendingCauses ∧ classes.getLsbD (cause.classNumber - 1) = true ∧
        ∀ l, cause.lane = some l → lanes.getLsbD l.val = true) ∧
  (∀ kind l g, Cause.lane (.laneUp l) = some l ∧ Cause.lane (.laneDown l) = some l ∧
    Cause.lane (.laneFaulted l kind) = some l ∧ Cause.lane (.laneThreshold l kind) = some l ∧
    Cause.lane (.warning l g) = some l) ∧
  (∀ l slot, Cause.lane (.late l slot) = some l ∧ Cause.lane (.ready l slot) = some l ∧
    Cause.lane (.ended l slot) = some l) ∧
  (∀ level c g, Cause.lane (.caseEvent level) = none ∧ Cause.lane (.supply c) = none ∧
    Cause.lane (.drained g) = none ∧ Cause.lane .table = none) ∧
  ∀ (s : State) phase cause, (s.startValues phase cause).attention.classes = 0xFF ∧
    (s.startValues phase cause).attention.laneMask = 0xFFFF

/-- CASE READ (R164) answers the levels, the latch and the erasure indication, clears the latch, registers
the current level and clears the indication; nothing else changes. The codes are log entry 10 and
the layout is log entry 9.
START READ (R182) answers the start cause, the commissioning record without the transport key, the supply
state and the case level, and clears the start-unread indication, which is clear in its own response; it
changes nothing else. -/
def Obligations.CaseReadAndStartRead : Prop :=
  (∀ s tag, s.accepts →
     let c := s.caseMon
     let now : CaseLevel := if c.lineA = .opened ∨ c.lineB = .opened then .opened else .closed
     let code (level : CaseLevel) : Byte := if level = .closed then 1 else 2
     exec (.caseRead tag) s =
       .next ({ s with caseMon := { c with latch := none, registered := now, erased := false } }.respond
         30 tag .done
         ([code c.lineA, code c.lineB, code now, code c.registered] ++
           (match c.latch with
             | some level => [1, code level]
             | none => [0, 0]) ++ [if c.erased then 1 else 0]))) ∧
  (∀ s tag, s.accepts →
     let cause : Byte := match s.startCause with
       | .power => 1
       | .pin => 2
       | .request => 3
     let record : List Byte := match s.commission with
       | none => 0 :: 0 :: List.replicate 14 0
       | some c =>
         1 :: 1 :: (bytesOf 4 c.chain.toNat ++ bytesOf 4 c.store.toNat ++ bytesOf 2 c.currency ++
           bytesOf 1 c.exponent ++ bytesOf 1 c.fitted ++ [if c.eraseOnOpen then 1 else 0] ++
           bytesOf 1 c.level.code)
     exec (.startRead tag) s =
       .next ({ s with startUnread := false }.respond 31 tag .done
         (cause :: record ++ bytesOf 1 s.supply.state.code ++ bytesOf 1 (caseCode s.caseMon.current)))) ∧
  [SupplyLevel.v290, .v300, .v310, .v320].map SupplyLevel.code = [1, 2, 3, 4] ∧
  [SupplyState.normal, .low].map SupplyState.code = [1, 2] ∧
  [CaseLevel.closed, .opened].map caseCode = [1, 2]

/-- COMMISSION is refused with LOCKED once the part is commissioned, with RANGE for a field outside its
values and with SUPPLY_LOW; accepted it writes the record, makes the fitted lanes DOWN at their start values
and puts the selected level in force, which may make the supply LOW at once (R160, R178, R179).
That an accepted COMMISSION leaves every lane's line receiver at mark is the model's choice and not R179's,
log entry 19, and so is the cleared value of its transmit line, log entry 20. An erasure byte above 1 is
RANGE: log entry 11. The commissioning record, once written, stays as it is at every step (R178, R179). -/
def Obligations.CommissionIsWrittenOnce : Prop :=
  (∀ s tag chain store (currency : Half) (exponent : Byte) key (fitted erasure level : Byte), s.accepts →
     let command : Instr := .commission tag chain store currency exponent key fitted erasure level
     let inRange := 1 ≤ currency.toNat ∧ currency.toNat ≤ 999 ∧ exponent.toNat ≤ 3 ∧ 1 ≤ fitted.toNat ∧
       fitted.toNat ≤ 16 ∧ erasure.toNat ≤ 1 ∧ 1 ≤ level.toNat ∧ level.toNat ≤ 4
     (s.commission ≠ none → exec command s = .next (s.respond 32 tag .locked [])) ∧
     (s.commission = none → ¬ inRange → exec command s = .next (s.respond 32 tag .range [])) ∧
     (s.commission = none → inRange → s.supply.state = .low →
       exec command s = .next (s.respond 32 tag .supplyLow [])) ∧
     (s.commission = none → inRange → s.supply.state = .normal →
       ∃ (c : Commissioning) (t : State), exec command s =
           .next (t.respond 32 tag .done
             (bytesOf 4 chain.toNat ++ bytesOf 4 store.toNat ++ bytesOf 2 currency.toNat ++
               [exponent, fitted, erasure, level])) ∧
         c.chain = chain ∧ c.store = store ∧ c.currency = currency.toNat ∧
         c.exponent = exponent.toNat ∧ c.transportKey = key ∧ c.fitted = fitted.toNat ∧
         c.eraseOnOpen = decide (erasure = 1) ∧
         c.level.millivolts = 2800 + 100 * level.toNat ∧
         t.commission = some c ∧
         (∀ l : LaneId, t.lane l =
           { State.reset.lane l with
             mode := if l.val < fitted.toNat then .down else .off, holdIn := (s.lane l).holdIn }) ∧
         t = { s with
           commission := t.commission, lanes := t.lanes, supply := t.supply, attention := t.attention } ∧
         (c.level.millivolts ≤ s.supply.millivolts →
           t.supply = s.supply ∧ t.attention = s.attention) ∧
         (s.supply.millivolts < c.level.millivolts →
           t.supply = { s.supply with state := .low, recovering := false } ∧
           t.attention = { s.attention with
             supply := some
               { state := .low
                 count := match s.attention.supply with
                   | none => 1
                   | some x => min 255 (x.count + 1) } }))) ∧
  (∀ (s t : State) c, s.commission = some c → step s = .next t → t.commission = some c)
end

