-- ==== Sys2Proof/Laws/Cipher.lean ====
section
/-! SUPPORT. The blocks the check runs over, and the last block of a chain. -/

namespace Sys2Proof.Machine

/-- A list of bytes that does not end on a block is its whole blocks and a short piece (R119, step 2). -/
theorem pieces_of_short_end (n : Nat) (bytes : List Byte) (hn : bytes.length ≤ n)
    (hs : bytes.length % 16 ≠ 0) :
    pieces n bytes =
      (List.range (bytes.length / 16)).map (fun i => (bytes.drop (16 * i)).take 16) ++
        [bytes.drop (16 * (bytes.length / 16))] := by
  induction n generalizing bytes with
  | zero => simp at hn; simp [hn] at hs
  | succ n ih =>
    have hne : bytes.isEmpty = false := by cases bytes <;> simp_all
    unfold pieces
    rw [hne]
    by_cases hl : bytes.length < 16
    · have hw : bytes.length / 16 = 0 := by omega
      have hd : bytes.drop 16 = [] := by simp; omega
      have hp : pieces n [] = [] := by cases n <;> simp [pieces]
      rw [hd, hp, hw]
      simp; omega
    · have hlen : (bytes.drop 16).length = bytes.length - 16 := by simp
      have hw : bytes.length / 16 = (bytes.drop 16).length / 16 + 1 := by omega
      simp only [Bool.false_eq_true, if_false]
      rw [ih (bytes.drop 16) (by omega) (by omega), hw, List.range_succ_eq_map]
      simp [Nat.mul_add, Nat.add_comm, Function.comp_def, Nat.mul_succ]

/-- The last piece is filled and combined with the second subkey, the pieces before it are blocks as they
stand (R119, step 2). -/
theorem checkBlocks_append (k2 : Block) (before : List (List Byte)) (last : List Byte) :
    checkBlocks k2 (before ++ [last]) =
      before.map blockOf ++ [blockOf ((last ++ [0x80] ++ List.replicate 16 0).take 16) ^^^ k2] := by
  induction before with
  | nil => rfl
  | cons p rest ih =>
    cases rest with
    | nil => simp [checkBlocks]
    | cons q r => simp only [List.cons_append, checkBlocks] at ih ⊢; rw [ih]; simp

/-- The last block of a chain (R118; R119, step 3). -/
theorem chain_getLast? (key prev : Block) (before : List Block) (last : Block) :
    (chain key prev (before ++ [last])).getLast? =
      some (Aes.encipher key
        (last ^^^ before.foldl (fun sofar b => Aes.encipher key (b ^^^ sofar)) prev)) := by
  induction before generalizing prev with
  | nil => simp [chain]
  | cons c rest ih =>
    simp only [List.cons_append, chain, List.foldl_cons]
    rw [List.getLast?_cons, ih]
    rfl

end Sys2Proof.Machine
end

