-- ==== Sys2Proof/Laws/State.lean ====
section
/-! SUPPORT. What each update of State leaves unchanged: one lemma for each field, so that no later proof
unfolds a record update. -/

namespace Sys2Proof.Machine

variable (s : State)

/-! ### setCell -/

@[simp] theorem State.setCell_pending (slot : Slot) (c : SlotCell) : (s.setCell slot c).pending = s.pending := rfl
@[simp] theorem State.setCell_phase (slot : Slot) (c : SlotCell) : (s.setCell slot c).phase = s.phase := rfl
@[simp] theorem State.setCell_startCause (slot : Slot) (c : SlotCell) : (s.setCell slot c).startCause = s.startCause := rfl
@[simp] theorem State.setCell_startUnread (slot : Slot) (c : SlotCell) : (s.setCell slot c).startUnread = s.startUnread := rfl
@[simp] theorem State.setCell_resetPin (slot : Slot) (c : SlotCell) : (s.setCell slot c).resetPin = s.resetPin := rfl
@[simp] theorem State.setCell_commission (slot : Slot) (c : SlotCell) : (s.setCell slot c).commission = s.commission := rfl
@[simp] theorem State.setCell_supply (slot : Slot) (c : SlotCell) : (s.setCell slot c).supply = s.supply := rfl
@[simp] theorem State.setCell_caseMon (slot : Slot) (c : SlotCell) : (s.setCell slot c).caseMon = s.caseMon := rfl
@[simp] theorem State.setCell_limits (slot : Slot) (c : SlotCell) : (s.setCell slot c).limits = s.limits := rfl
@[simp] theorem State.setCell_timers (slot : Slot) (c : SlotCell) : (s.setCell slot c).timers = s.timers := rfl
@[simp] theorem State.setCell_keys (slot : Slot) (c : SlotCell) : (s.setCell slot c).keys = s.keys := rfl
@[simp] theorem State.setCell_engine (slot : Slot) (c : SlotCell) : (s.setCell slot c).engine = s.engine := rfl
@[simp] theorem State.setCell_lanes (slot : Slot) (c : SlotCell) : (s.setCell slot c).lanes = s.lanes := rfl
@[simp] theorem State.setCell_attention (slot : Slot) (c : SlotCell) : (s.setCell slot c).attention = s.attention := rfl
@[simp] theorem State.setCell_port (slot : Slot) (c : SlotCell) : (s.setCell slot c).port = s.port := rfl
@[simp] theorem State.setCell_table_free (slot : Slot) (c : SlotCell) : (s.setCell slot c).table.free = s.table.free := rfl
@[simp] theorem State.setCell_table_books (slot : Slot) (c : SlotCell) : (s.setCell slot c).table.books = s.table.books := rfl
@[simp] theorem State.setCell_table_lowMarkArmed (slot : Slot) (c : SlotCell) : (s.setCell slot c).table.lowMarkArmed = s.table.lowMarkArmed := rfl
@[simp] theorem State.setCell_table_storeTotal (slot : Slot) (c : SlotCell) : (s.setCell slot c).table.storeTotal = s.table.storeTotal := rfl
@[simp] theorem State.setCell_table_waiting (slot : Slot) (c : SlotCell) : (s.setCell slot c).table.waiting = s.table.waiting := rfl
@[simp] theorem State.setCell_book (slot : Slot) (c : SlotCell) (x : LaneId) : (s.setCell slot c).book x = s.book x := rfl
@[simp] theorem State.setCell_lane (slot : Slot) (c : SlotCell) (x : LaneId) : (s.setCell slot c).lane x = s.lane x := rfl
@[simp] theorem State.setCell_entry (slot : Slot) (c : SlotCell) (x : Fin 4) : (s.setCell slot c).entry x = s.entry x := rfl
@[simp] theorem State.setCell_entryIn (slot : Slot) (c : SlotCell) (x : EntryState) : (s.setCell slot c).entryIn x = s.entryIn x := rfl
@[simp] theorem State.setCell_entryOf (slot : Slot) (c : SlotCell) (x : Nat) : (s.setCell slot c).entryOf x = s.entryOf x := rfl
@[simp] theorem State.setCell_freeCount (slot : Slot) (c : SlotCell) : (s.setCell slot c).freeCount = s.freeCount := rfl
@[simp] theorem State.setCell_captureLimit (slot : Slot) (c : SlotCell) : (s.setCell slot c).captureLimit = s.captureLimit := rfl

/-! ### modRecord -/

@[simp] theorem State.modRecord_pending (slot : Slot) (f : Record → Record) : (s.modRecord slot f).pending = s.pending := rfl
@[simp] theorem State.modRecord_phase (slot : Slot) (f : Record → Record) : (s.modRecord slot f).phase = s.phase := rfl
@[simp] theorem State.modRecord_startCause (slot : Slot) (f : Record → Record) : (s.modRecord slot f).startCause = s.startCause := rfl
@[simp] theorem State.modRecord_startUnread (slot : Slot) (f : Record → Record) : (s.modRecord slot f).startUnread = s.startUnread := rfl
@[simp] theorem State.modRecord_resetPin (slot : Slot) (f : Record → Record) : (s.modRecord slot f).resetPin = s.resetPin := rfl
@[simp] theorem State.modRecord_commission (slot : Slot) (f : Record → Record) : (s.modRecord slot f).commission = s.commission := rfl
@[simp] theorem State.modRecord_supply (slot : Slot) (f : Record → Record) : (s.modRecord slot f).supply = s.supply := rfl
@[simp] theorem State.modRecord_caseMon (slot : Slot) (f : Record → Record) : (s.modRecord slot f).caseMon = s.caseMon := rfl
@[simp] theorem State.modRecord_limits (slot : Slot) (f : Record → Record) : (s.modRecord slot f).limits = s.limits := rfl
@[simp] theorem State.modRecord_timers (slot : Slot) (f : Record → Record) : (s.modRecord slot f).timers = s.timers := rfl
@[simp] theorem State.modRecord_keys (slot : Slot) (f : Record → Record) : (s.modRecord slot f).keys = s.keys := rfl
@[simp] theorem State.modRecord_engine (slot : Slot) (f : Record → Record) : (s.modRecord slot f).engine = s.engine := rfl
@[simp] theorem State.modRecord_lanes (slot : Slot) (f : Record → Record) : (s.modRecord slot f).lanes = s.lanes := rfl
@[simp] theorem State.modRecord_attention (slot : Slot) (f : Record → Record) : (s.modRecord slot f).attention = s.attention := rfl
@[simp] theorem State.modRecord_port (slot : Slot) (f : Record → Record) : (s.modRecord slot f).port = s.port := rfl
@[simp] theorem State.modRecord_table_free (slot : Slot) (f : Record → Record) : (s.modRecord slot f).table.free = s.table.free := rfl
@[simp] theorem State.modRecord_table_books (slot : Slot) (f : Record → Record) : (s.modRecord slot f).table.books = s.table.books := rfl
@[simp] theorem State.modRecord_table_lowMarkArmed (slot : Slot) (f : Record → Record) : (s.modRecord slot f).table.lowMarkArmed = s.table.lowMarkArmed := rfl
@[simp] theorem State.modRecord_table_storeTotal (slot : Slot) (f : Record → Record) : (s.modRecord slot f).table.storeTotal = s.table.storeTotal := rfl
@[simp] theorem State.modRecord_table_waiting (slot : Slot) (f : Record → Record) : (s.modRecord slot f).table.waiting = s.table.waiting := rfl
@[simp] theorem State.modRecord_book (slot : Slot) (f : Record → Record) (x : LaneId) : (s.modRecord slot f).book x = s.book x := rfl
@[simp] theorem State.modRecord_lane (slot : Slot) (f : Record → Record) (x : LaneId) : (s.modRecord slot f).lane x = s.lane x := rfl
@[simp] theorem State.modRecord_entry (slot : Slot) (f : Record → Record) (x : Fin 4) : (s.modRecord slot f).entry x = s.entry x := rfl
@[simp] theorem State.modRecord_entryIn (slot : Slot) (f : Record → Record) (x : EntryState) : (s.modRecord slot f).entryIn x = s.entryIn x := rfl
@[simp] theorem State.modRecord_entryOf (slot : Slot) (f : Record → Record) (x : Nat) : (s.modRecord slot f).entryOf x = s.entryOf x := rfl
@[simp] theorem State.modRecord_freeCount (slot : Slot) (f : Record → Record) : (s.modRecord slot f).freeCount = s.freeCount := rfl
@[simp] theorem State.modRecord_captureLimit (slot : Slot) (f : Record → Record) : (s.modRecord slot f).captureLimit = s.captureLimit := rfl

/-! ### mapRecords -/

@[simp] theorem State.mapRecords_pending (f : Record → Record) : (s.mapRecords f).pending = s.pending := rfl
@[simp] theorem State.mapRecords_phase (f : Record → Record) : (s.mapRecords f).phase = s.phase := rfl
@[simp] theorem State.mapRecords_startCause (f : Record → Record) : (s.mapRecords f).startCause = s.startCause := rfl
@[simp] theorem State.mapRecords_startUnread (f : Record → Record) : (s.mapRecords f).startUnread = s.startUnread := rfl
@[simp] theorem State.mapRecords_resetPin (f : Record → Record) : (s.mapRecords f).resetPin = s.resetPin := rfl
@[simp] theorem State.mapRecords_commission (f : Record → Record) : (s.mapRecords f).commission = s.commission := rfl
@[simp] theorem State.mapRecords_supply (f : Record → Record) : (s.mapRecords f).supply = s.supply := rfl
@[simp] theorem State.mapRecords_caseMon (f : Record → Record) : (s.mapRecords f).caseMon = s.caseMon := rfl
@[simp] theorem State.mapRecords_limits (f : Record → Record) : (s.mapRecords f).limits = s.limits := rfl
@[simp] theorem State.mapRecords_timers (f : Record → Record) : (s.mapRecords f).timers = s.timers := rfl
@[simp] theorem State.mapRecords_keys (f : Record → Record) : (s.mapRecords f).keys = s.keys := rfl
@[simp] theorem State.mapRecords_engine (f : Record → Record) : (s.mapRecords f).engine = s.engine := rfl
@[simp] theorem State.mapRecords_lanes (f : Record → Record) : (s.mapRecords f).lanes = s.lanes := rfl
@[simp] theorem State.mapRecords_attention (f : Record → Record) : (s.mapRecords f).attention = s.attention := rfl
@[simp] theorem State.mapRecords_port (f : Record → Record) : (s.mapRecords f).port = s.port := rfl
@[simp] theorem State.mapRecords_table_free (f : Record → Record) : (s.mapRecords f).table.free = s.table.free := rfl
@[simp] theorem State.mapRecords_table_books (f : Record → Record) : (s.mapRecords f).table.books = s.table.books := rfl
@[simp] theorem State.mapRecords_table_lowMarkArmed (f : Record → Record) : (s.mapRecords f).table.lowMarkArmed = s.table.lowMarkArmed := rfl
@[simp] theorem State.mapRecords_table_storeTotal (f : Record → Record) : (s.mapRecords f).table.storeTotal = s.table.storeTotal := rfl
@[simp] theorem State.mapRecords_table_waiting (f : Record → Record) : (s.mapRecords f).table.waiting = s.table.waiting := rfl
@[simp] theorem State.mapRecords_book (f : Record → Record) (x : LaneId) : (s.mapRecords f).book x = s.book x := rfl
@[simp] theorem State.mapRecords_lane (f : Record → Record) (x : LaneId) : (s.mapRecords f).lane x = s.lane x := rfl
@[simp] theorem State.mapRecords_entry (f : Record → Record) (x : Fin 4) : (s.mapRecords f).entry x = s.entry x := rfl
@[simp] theorem State.mapRecords_entryIn (f : Record → Record) (x : EntryState) : (s.mapRecords f).entryIn x = s.entryIn x := rfl
@[simp] theorem State.mapRecords_entryOf (f : Record → Record) (x : Nat) : (s.mapRecords f).entryOf x = s.entryOf x := rfl
@[simp] theorem State.mapRecords_freeCount (f : Record → Record) : (s.mapRecords f).freeCount = s.freeCount := rfl
@[simp] theorem State.mapRecords_captureLimit (f : Record → Record) : (s.mapRecords f).captureLimit = s.captureLimit := rfl

/-! ### modBook -/

@[simp] theorem State.modBook_pending (l : LaneId) (f : LaneBook → LaneBook) : (s.modBook l f).pending = s.pending := rfl
@[simp] theorem State.modBook_phase (l : LaneId) (f : LaneBook → LaneBook) : (s.modBook l f).phase = s.phase := rfl
@[simp] theorem State.modBook_startCause (l : LaneId) (f : LaneBook → LaneBook) : (s.modBook l f).startCause = s.startCause := rfl
@[simp] theorem State.modBook_startUnread (l : LaneId) (f : LaneBook → LaneBook) : (s.modBook l f).startUnread = s.startUnread := rfl
@[simp] theorem State.modBook_resetPin (l : LaneId) (f : LaneBook → LaneBook) : (s.modBook l f).resetPin = s.resetPin := rfl
@[simp] theorem State.modBook_commission (l : LaneId) (f : LaneBook → LaneBook) : (s.modBook l f).commission = s.commission := rfl
@[simp] theorem State.modBook_supply (l : LaneId) (f : LaneBook → LaneBook) : (s.modBook l f).supply = s.supply := rfl
@[simp] theorem State.modBook_caseMon (l : LaneId) (f : LaneBook → LaneBook) : (s.modBook l f).caseMon = s.caseMon := rfl
@[simp] theorem State.modBook_limits (l : LaneId) (f : LaneBook → LaneBook) : (s.modBook l f).limits = s.limits := rfl
@[simp] theorem State.modBook_timers (l : LaneId) (f : LaneBook → LaneBook) : (s.modBook l f).timers = s.timers := rfl
@[simp] theorem State.modBook_keys (l : LaneId) (f : LaneBook → LaneBook) : (s.modBook l f).keys = s.keys := rfl
@[simp] theorem State.modBook_engine (l : LaneId) (f : LaneBook → LaneBook) : (s.modBook l f).engine = s.engine := rfl
@[simp] theorem State.modBook_lanes (l : LaneId) (f : LaneBook → LaneBook) : (s.modBook l f).lanes = s.lanes := rfl
@[simp] theorem State.modBook_attention (l : LaneId) (f : LaneBook → LaneBook) : (s.modBook l f).attention = s.attention := rfl
@[simp] theorem State.modBook_port (l : LaneId) (f : LaneBook → LaneBook) : (s.modBook l f).port = s.port := rfl
@[simp] theorem State.modBook_table_slots (l : LaneId) (f : LaneBook → LaneBook) : (s.modBook l f).table.slots = s.table.slots := rfl
@[simp] theorem State.modBook_table_free (l : LaneId) (f : LaneBook → LaneBook) : (s.modBook l f).table.free = s.table.free := rfl
@[simp] theorem State.modBook_table_lowMarkArmed (l : LaneId) (f : LaneBook → LaneBook) : (s.modBook l f).table.lowMarkArmed = s.table.lowMarkArmed := rfl
@[simp] theorem State.modBook_table_storeTotal (l : LaneId) (f : LaneBook → LaneBook) : (s.modBook l f).table.storeTotal = s.table.storeTotal := rfl
@[simp] theorem State.modBook_table_waiting (l : LaneId) (f : LaneBook → LaneBook) : (s.modBook l f).table.waiting = s.table.waiting := rfl
@[simp] theorem State.modBook_cell (l : LaneId) (f : LaneBook → LaneBook) (x : Slot) : (s.modBook l f).cell x = s.cell x := rfl
@[simp] theorem State.modBook_recordAt (l : LaneId) (f : LaneBook → LaneBook) (x : Slot) : (s.modBook l f).recordAt x = s.recordAt x := rfl
@[simp] theorem State.modBook_handleOf (l : LaneId) (f : LaneBook → LaneBook) (x : Slot) : (s.modBook l f).handleOf x = s.handleOf x := rfl
@[simp] theorem State.modBook_current (l : LaneId) (f : LaneBook → LaneBook) (x : Handle) : (s.modBook l f).current? x = s.current? x := rfl
@[simp] theorem State.modBook_lane (l : LaneId) (f : LaneBook → LaneBook) (x : LaneId) : (s.modBook l f).lane x = s.lane x := rfl
@[simp] theorem State.modBook_entry (l : LaneId) (f : LaneBook → LaneBook) (x : Fin 4) : (s.modBook l f).entry x = s.entry x := rfl
@[simp] theorem State.modBook_entryIn (l : LaneId) (f : LaneBook → LaneBook) (x : EntryState) : (s.modBook l f).entryIn x = s.entryIn x := rfl
@[simp] theorem State.modBook_entryOf (l : LaneId) (f : LaneBook → LaneBook) (x : Nat) : (s.modBook l f).entryOf x = s.entryOf x := rfl
@[simp] theorem State.modBook_freeCount (l : LaneId) (f : LaneBook → LaneBook) : (s.modBook l f).freeCount = s.freeCount := rfl
@[simp] theorem State.modBook_captureLimit (l : LaneId) (f : LaneBook → LaneBook) : (s.modBook l f).captureLimit = s.captureLimit := rfl

/-! ### endEngagement -/

@[simp] theorem State.endEngagement_pending (l : LaneId) : (s.endEngagement l).pending = s.pending := rfl
@[simp] theorem State.endEngagement_phase (l : LaneId) : (s.endEngagement l).phase = s.phase := rfl
@[simp] theorem State.endEngagement_startCause (l : LaneId) : (s.endEngagement l).startCause = s.startCause := rfl
@[simp] theorem State.endEngagement_startUnread (l : LaneId) : (s.endEngagement l).startUnread = s.startUnread := rfl
@[simp] theorem State.endEngagement_resetPin (l : LaneId) : (s.endEngagement l).resetPin = s.resetPin := rfl
@[simp] theorem State.endEngagement_commission (l : LaneId) : (s.endEngagement l).commission = s.commission := rfl
@[simp] theorem State.endEngagement_supply (l : LaneId) : (s.endEngagement l).supply = s.supply := rfl
@[simp] theorem State.endEngagement_caseMon (l : LaneId) : (s.endEngagement l).caseMon = s.caseMon := rfl
@[simp] theorem State.endEngagement_limits (l : LaneId) : (s.endEngagement l).limits = s.limits := rfl
@[simp] theorem State.endEngagement_timers (l : LaneId) : (s.endEngagement l).timers = s.timers := rfl
@[simp] theorem State.endEngagement_keys (l : LaneId) : (s.endEngagement l).keys = s.keys := rfl
@[simp] theorem State.endEngagement_engine (l : LaneId) : (s.endEngagement l).engine = s.engine := rfl
@[simp] theorem State.endEngagement_lanes (l : LaneId) : (s.endEngagement l).lanes = s.lanes := rfl
@[simp] theorem State.endEngagement_attention (l : LaneId) : (s.endEngagement l).attention = s.attention := rfl
@[simp] theorem State.endEngagement_port (l : LaneId) : (s.endEngagement l).port = s.port := rfl
@[simp] theorem State.endEngagement_table_slots (l : LaneId) : (s.endEngagement l).table.slots = s.table.slots := rfl
@[simp] theorem State.endEngagement_table_free (l : LaneId) : (s.endEngagement l).table.free = s.table.free := rfl
@[simp] theorem State.endEngagement_table_lowMarkArmed (l : LaneId) : (s.endEngagement l).table.lowMarkArmed = s.table.lowMarkArmed := rfl
@[simp] theorem State.endEngagement_table_storeTotal (l : LaneId) : (s.endEngagement l).table.storeTotal = s.table.storeTotal := rfl
@[simp] theorem State.endEngagement_table_waiting (l : LaneId) : (s.endEngagement l).table.waiting = s.table.waiting := rfl
@[simp] theorem State.endEngagement_cell (l : LaneId) (x : Slot) : (s.endEngagement l).cell x = s.cell x := rfl
@[simp] theorem State.endEngagement_recordAt (l : LaneId) (x : Slot) : (s.endEngagement l).recordAt x = s.recordAt x := rfl
@[simp] theorem State.endEngagement_handleOf (l : LaneId) (x : Slot) : (s.endEngagement l).handleOf x = s.handleOf x := rfl
@[simp] theorem State.endEngagement_current (l : LaneId) (x : Handle) : (s.endEngagement l).current? x = s.current? x := rfl
@[simp] theorem State.endEngagement_lane (l : LaneId) (x : LaneId) : (s.endEngagement l).lane x = s.lane x := rfl
@[simp] theorem State.endEngagement_entry (l : LaneId) (x : Fin 4) : (s.endEngagement l).entry x = s.entry x := rfl
@[simp] theorem State.endEngagement_entryIn (l : LaneId) (x : EntryState) : (s.endEngagement l).entryIn x = s.entryIn x := rfl
@[simp] theorem State.endEngagement_entryOf (l : LaneId) (x : Nat) : (s.endEngagement l).entryOf x = s.entryOf x := rfl
@[simp] theorem State.endEngagement_freeCount (l : LaneId) : (s.endEngagement l).freeCount = s.freeCount := rfl
@[simp] theorem State.endEngagement_captureLimit (l : LaneId) : (s.endEngagement l).captureLimit = s.captureLimit := rfl

/-! ### setWaiting -/

@[simp] theorem State.setWaiting_pending (w : List Slot) : (s.setWaiting w).pending = s.pending := rfl
@[simp] theorem State.setWaiting_phase (w : List Slot) : (s.setWaiting w).phase = s.phase := rfl
@[simp] theorem State.setWaiting_startCause (w : List Slot) : (s.setWaiting w).startCause = s.startCause := rfl
@[simp] theorem State.setWaiting_startUnread (w : List Slot) : (s.setWaiting w).startUnread = s.startUnread := rfl
@[simp] theorem State.setWaiting_resetPin (w : List Slot) : (s.setWaiting w).resetPin = s.resetPin := rfl
@[simp] theorem State.setWaiting_commission (w : List Slot) : (s.setWaiting w).commission = s.commission := rfl
@[simp] theorem State.setWaiting_supply (w : List Slot) : (s.setWaiting w).supply = s.supply := rfl
@[simp] theorem State.setWaiting_caseMon (w : List Slot) : (s.setWaiting w).caseMon = s.caseMon := rfl
@[simp] theorem State.setWaiting_limits (w : List Slot) : (s.setWaiting w).limits = s.limits := rfl
@[simp] theorem State.setWaiting_timers (w : List Slot) : (s.setWaiting w).timers = s.timers := rfl
@[simp] theorem State.setWaiting_keys (w : List Slot) : (s.setWaiting w).keys = s.keys := rfl
@[simp] theorem State.setWaiting_engine (w : List Slot) : (s.setWaiting w).engine = s.engine := rfl
@[simp] theorem State.setWaiting_lanes (w : List Slot) : (s.setWaiting w).lanes = s.lanes := rfl
@[simp] theorem State.setWaiting_attention (w : List Slot) : (s.setWaiting w).attention = s.attention := rfl
@[simp] theorem State.setWaiting_port (w : List Slot) : (s.setWaiting w).port = s.port := rfl
@[simp] theorem State.setWaiting_table_slots (w : List Slot) : (s.setWaiting w).table.slots = s.table.slots := rfl
@[simp] theorem State.setWaiting_table_free (w : List Slot) : (s.setWaiting w).table.free = s.table.free := rfl
@[simp] theorem State.setWaiting_table_books (w : List Slot) : (s.setWaiting w).table.books = s.table.books := rfl
@[simp] theorem State.setWaiting_table_lowMarkArmed (w : List Slot) : (s.setWaiting w).table.lowMarkArmed = s.table.lowMarkArmed := rfl
@[simp] theorem State.setWaiting_table_storeTotal (w : List Slot) : (s.setWaiting w).table.storeTotal = s.table.storeTotal := rfl
@[simp] theorem State.setWaiting_cell (w : List Slot) (x : Slot) : (s.setWaiting w).cell x = s.cell x := rfl
@[simp] theorem State.setWaiting_recordAt (w : List Slot) (x : Slot) : (s.setWaiting w).recordAt x = s.recordAt x := rfl
@[simp] theorem State.setWaiting_handleOf (w : List Slot) (x : Slot) : (s.setWaiting w).handleOf x = s.handleOf x := rfl
@[simp] theorem State.setWaiting_current (w : List Slot) (x : Handle) : (s.setWaiting w).current? x = s.current? x := rfl
@[simp] theorem State.setWaiting_book (w : List Slot) (x : LaneId) : (s.setWaiting w).book x = s.book x := rfl
@[simp] theorem State.setWaiting_engaged (w : List Slot) (x : LaneId) : (s.setWaiting w).engaged? x = s.engaged? x := rfl
@[simp] theorem State.setWaiting_lane (w : List Slot) (x : LaneId) : (s.setWaiting w).lane x = s.lane x := rfl
@[simp] theorem State.setWaiting_entry (w : List Slot) (x : Fin 4) : (s.setWaiting w).entry x = s.entry x := rfl
@[simp] theorem State.setWaiting_entryIn (w : List Slot) (x : EntryState) : (s.setWaiting w).entryIn x = s.entryIn x := rfl
@[simp] theorem State.setWaiting_entryOf (w : List Slot) (x : Nat) : (s.setWaiting w).entryOf x = s.entryOf x := rfl
@[simp] theorem State.setWaiting_freeCount (w : List Slot) : (s.setWaiting w).freeCount = s.freeCount := rfl
@[simp] theorem State.setWaiting_captureLimit (w : List Slot) : (s.setWaiting w).captureLimit = s.captureLimit := rfl

/-! ### enterAccount -/

@[simp] theorem State.enterAccount_pending (l : LaneId) (n : Nat) : (s.enterAccount l n).pending = s.pending := rfl
@[simp] theorem State.enterAccount_phase (l : LaneId) (n : Nat) : (s.enterAccount l n).phase = s.phase := rfl
@[simp] theorem State.enterAccount_startCause (l : LaneId) (n : Nat) : (s.enterAccount l n).startCause = s.startCause := rfl
@[simp] theorem State.enterAccount_startUnread (l : LaneId) (n : Nat) : (s.enterAccount l n).startUnread = s.startUnread := rfl
@[simp] theorem State.enterAccount_resetPin (l : LaneId) (n : Nat) : (s.enterAccount l n).resetPin = s.resetPin := rfl
@[simp] theorem State.enterAccount_commission (l : LaneId) (n : Nat) : (s.enterAccount l n).commission = s.commission := rfl
@[simp] theorem State.enterAccount_supply (l : LaneId) (n : Nat) : (s.enterAccount l n).supply = s.supply := rfl
@[simp] theorem State.enterAccount_caseMon (l : LaneId) (n : Nat) : (s.enterAccount l n).caseMon = s.caseMon := rfl
@[simp] theorem State.enterAccount_limits (l : LaneId) (n : Nat) : (s.enterAccount l n).limits = s.limits := rfl
@[simp] theorem State.enterAccount_timers (l : LaneId) (n : Nat) : (s.enterAccount l n).timers = s.timers := rfl
@[simp] theorem State.enterAccount_keys (l : LaneId) (n : Nat) : (s.enterAccount l n).keys = s.keys := rfl
@[simp] theorem State.enterAccount_engine (l : LaneId) (n : Nat) : (s.enterAccount l n).engine = s.engine := rfl
@[simp] theorem State.enterAccount_lanes (l : LaneId) (n : Nat) : (s.enterAccount l n).lanes = s.lanes := rfl
@[simp] theorem State.enterAccount_attention (l : LaneId) (n : Nat) : (s.enterAccount l n).attention = s.attention := rfl
@[simp] theorem State.enterAccount_port (l : LaneId) (n : Nat) : (s.enterAccount l n).port = s.port := rfl
@[simp] theorem State.enterAccount_table_slots (l : LaneId) (n : Nat) : (s.enterAccount l n).table.slots = s.table.slots := rfl
@[simp] theorem State.enterAccount_table_free (l : LaneId) (n : Nat) : (s.enterAccount l n).table.free = s.table.free := rfl
@[simp] theorem State.enterAccount_table_lowMarkArmed (l : LaneId) (n : Nat) : (s.enterAccount l n).table.lowMarkArmed = s.table.lowMarkArmed := rfl
@[simp] theorem State.enterAccount_table_waiting (l : LaneId) (n : Nat) : (s.enterAccount l n).table.waiting = s.table.waiting := rfl
@[simp] theorem State.enterAccount_cell (l : LaneId) (n : Nat) (x : Slot) : (s.enterAccount l n).cell x = s.cell x := rfl
@[simp] theorem State.enterAccount_recordAt (l : LaneId) (n : Nat) (x : Slot) : (s.enterAccount l n).recordAt x = s.recordAt x := rfl
@[simp] theorem State.enterAccount_handleOf (l : LaneId) (n : Nat) (x : Slot) : (s.enterAccount l n).handleOf x = s.handleOf x := rfl
@[simp] theorem State.enterAccount_current (l : LaneId) (n : Nat) (x : Handle) : (s.enterAccount l n).current? x = s.current? x := rfl
@[simp] theorem State.enterAccount_lane (l : LaneId) (n : Nat) (x : LaneId) : (s.enterAccount l n).lane x = s.lane x := rfl
@[simp] theorem State.enterAccount_entry (l : LaneId) (n : Nat) (x : Fin 4) : (s.enterAccount l n).entry x = s.entry x := rfl
@[simp] theorem State.enterAccount_entryIn (l : LaneId) (n : Nat) (x : EntryState) : (s.enterAccount l n).entryIn x = s.entryIn x := rfl
@[simp] theorem State.enterAccount_entryOf (l : LaneId) (n : Nat) (x : Nat) : (s.enterAccount l n).entryOf x = s.entryOf x := rfl
@[simp] theorem State.enterAccount_freeCount (l : LaneId) (n : Nat) : (s.enterAccount l n).freeCount = s.freeCount := rfl
@[simp] theorem State.enterAccount_captureLimit (l : LaneId) (n : Nat) : (s.enterAccount l n).captureLimit = s.captureLimit := rfl

/-! ### leaveAccount -/

@[simp] theorem State.leaveAccount_pending (l : LaneId) (n : Nat) : (s.leaveAccount l n).pending = s.pending := rfl
@[simp] theorem State.leaveAccount_phase (l : LaneId) (n : Nat) : (s.leaveAccount l n).phase = s.phase := rfl
@[simp] theorem State.leaveAccount_startCause (l : LaneId) (n : Nat) : (s.leaveAccount l n).startCause = s.startCause := rfl
@[simp] theorem State.leaveAccount_startUnread (l : LaneId) (n : Nat) : (s.leaveAccount l n).startUnread = s.startUnread := rfl
@[simp] theorem State.leaveAccount_resetPin (l : LaneId) (n : Nat) : (s.leaveAccount l n).resetPin = s.resetPin := rfl
@[simp] theorem State.leaveAccount_commission (l : LaneId) (n : Nat) : (s.leaveAccount l n).commission = s.commission := rfl
@[simp] theorem State.leaveAccount_supply (l : LaneId) (n : Nat) : (s.leaveAccount l n).supply = s.supply := rfl
@[simp] theorem State.leaveAccount_caseMon (l : LaneId) (n : Nat) : (s.leaveAccount l n).caseMon = s.caseMon := rfl
@[simp] theorem State.leaveAccount_limits (l : LaneId) (n : Nat) : (s.leaveAccount l n).limits = s.limits := rfl
@[simp] theorem State.leaveAccount_timers (l : LaneId) (n : Nat) : (s.leaveAccount l n).timers = s.timers := rfl
@[simp] theorem State.leaveAccount_keys (l : LaneId) (n : Nat) : (s.leaveAccount l n).keys = s.keys := rfl
@[simp] theorem State.leaveAccount_engine (l : LaneId) (n : Nat) : (s.leaveAccount l n).engine = s.engine := rfl
@[simp] theorem State.leaveAccount_lanes (l : LaneId) (n : Nat) : (s.leaveAccount l n).lanes = s.lanes := rfl
@[simp] theorem State.leaveAccount_attention (l : LaneId) (n : Nat) : (s.leaveAccount l n).attention = s.attention := rfl
@[simp] theorem State.leaveAccount_port (l : LaneId) (n : Nat) : (s.leaveAccount l n).port = s.port := rfl
@[simp] theorem State.leaveAccount_table_slots (l : LaneId) (n : Nat) : (s.leaveAccount l n).table.slots = s.table.slots := rfl
@[simp] theorem State.leaveAccount_table_free (l : LaneId) (n : Nat) : (s.leaveAccount l n).table.free = s.table.free := rfl
@[simp] theorem State.leaveAccount_table_lowMarkArmed (l : LaneId) (n : Nat) : (s.leaveAccount l n).table.lowMarkArmed = s.table.lowMarkArmed := rfl
@[simp] theorem State.leaveAccount_table_waiting (l : LaneId) (n : Nat) : (s.leaveAccount l n).table.waiting = s.table.waiting := rfl
@[simp] theorem State.leaveAccount_cell (l : LaneId) (n : Nat) (x : Slot) : (s.leaveAccount l n).cell x = s.cell x := rfl
@[simp] theorem State.leaveAccount_recordAt (l : LaneId) (n : Nat) (x : Slot) : (s.leaveAccount l n).recordAt x = s.recordAt x := rfl
@[simp] theorem State.leaveAccount_handleOf (l : LaneId) (n : Nat) (x : Slot) : (s.leaveAccount l n).handleOf x = s.handleOf x := rfl
@[simp] theorem State.leaveAccount_current (l : LaneId) (n : Nat) (x : Handle) : (s.leaveAccount l n).current? x = s.current? x := rfl
@[simp] theorem State.leaveAccount_lane (l : LaneId) (n : Nat) (x : LaneId) : (s.leaveAccount l n).lane x = s.lane x := rfl
@[simp] theorem State.leaveAccount_entry (l : LaneId) (n : Nat) (x : Fin 4) : (s.leaveAccount l n).entry x = s.entry x := rfl
@[simp] theorem State.leaveAccount_entryIn (l : LaneId) (n : Nat) (x : EntryState) : (s.leaveAccount l n).entryIn x = s.entryIn x := rfl
@[simp] theorem State.leaveAccount_entryOf (l : LaneId) (n : Nat) (x : Nat) : (s.leaveAccount l n).entryOf x = s.entryOf x := rfl
@[simp] theorem State.leaveAccount_freeCount (l : LaneId) (n : Nat) : (s.leaveAccount l n).freeCount = s.freeCount := rfl
@[simp] theorem State.leaveAccount_captureLimit (l : LaneId) (n : Nat) : (s.leaveAccount l n).captureLimit = s.captureLimit := rfl

/-! ### changeAccount -/

@[simp] theorem State.changeAccount_pending (l : LaneId) (n m : Nat) : (s.changeAccount l n m).pending = s.pending := rfl
@[simp] theorem State.changeAccount_phase (l : LaneId) (n m : Nat) : (s.changeAccount l n m).phase = s.phase := rfl
@[simp] theorem State.changeAccount_startCause (l : LaneId) (n m : Nat) : (s.changeAccount l n m).startCause = s.startCause := rfl
@[simp] theorem State.changeAccount_startUnread (l : LaneId) (n m : Nat) : (s.changeAccount l n m).startUnread = s.startUnread := rfl
@[simp] theorem State.changeAccount_resetPin (l : LaneId) (n m : Nat) : (s.changeAccount l n m).resetPin = s.resetPin := rfl
@[simp] theorem State.changeAccount_commission (l : LaneId) (n m : Nat) : (s.changeAccount l n m).commission = s.commission := rfl
@[simp] theorem State.changeAccount_supply (l : LaneId) (n m : Nat) : (s.changeAccount l n m).supply = s.supply := rfl
@[simp] theorem State.changeAccount_caseMon (l : LaneId) (n m : Nat) : (s.changeAccount l n m).caseMon = s.caseMon := rfl
@[simp] theorem State.changeAccount_limits (l : LaneId) (n m : Nat) : (s.changeAccount l n m).limits = s.limits := rfl
@[simp] theorem State.changeAccount_timers (l : LaneId) (n m : Nat) : (s.changeAccount l n m).timers = s.timers := rfl
@[simp] theorem State.changeAccount_keys (l : LaneId) (n m : Nat) : (s.changeAccount l n m).keys = s.keys := rfl
@[simp] theorem State.changeAccount_engine (l : LaneId) (n m : Nat) : (s.changeAccount l n m).engine = s.engine := rfl
@[simp] theorem State.changeAccount_lanes (l : LaneId) (n m : Nat) : (s.changeAccount l n m).lanes = s.lanes := rfl
@[simp] theorem State.changeAccount_attention (l : LaneId) (n m : Nat) : (s.changeAccount l n m).attention = s.attention := rfl
@[simp] theorem State.changeAccount_port (l : LaneId) (n m : Nat) : (s.changeAccount l n m).port = s.port := rfl
@[simp] theorem State.changeAccount_table_slots (l : LaneId) (n m : Nat) : (s.changeAccount l n m).table.slots = s.table.slots := rfl
@[simp] theorem State.changeAccount_table_free (l : LaneId) (n m : Nat) : (s.changeAccount l n m).table.free = s.table.free := rfl
@[simp] theorem State.changeAccount_table_lowMarkArmed (l : LaneId) (n m : Nat) : (s.changeAccount l n m).table.lowMarkArmed = s.table.lowMarkArmed := rfl
@[simp] theorem State.changeAccount_table_waiting (l : LaneId) (n m : Nat) : (s.changeAccount l n m).table.waiting = s.table.waiting := rfl
@[simp] theorem State.changeAccount_cell (l : LaneId) (n m : Nat) (x : Slot) : (s.changeAccount l n m).cell x = s.cell x := rfl
@[simp] theorem State.changeAccount_recordAt (l : LaneId) (n m : Nat) (x : Slot) : (s.changeAccount l n m).recordAt x = s.recordAt x := rfl
@[simp] theorem State.changeAccount_handleOf (l : LaneId) (n m : Nat) (x : Slot) : (s.changeAccount l n m).handleOf x = s.handleOf x := rfl
@[simp] theorem State.changeAccount_current (l : LaneId) (n m : Nat) (x : Handle) : (s.changeAccount l n m).current? x = s.current? x := rfl
@[simp] theorem State.changeAccount_lane (l : LaneId) (n m : Nat) (x : LaneId) : (s.changeAccount l n m).lane x = s.lane x := rfl
@[simp] theorem State.changeAccount_entry (l : LaneId) (n m : Nat) (x : Fin 4) : (s.changeAccount l n m).entry x = s.entry x := rfl
@[simp] theorem State.changeAccount_entryIn (l : LaneId) (n m : Nat) (x : EntryState) : (s.changeAccount l n m).entryIn x = s.entryIn x := rfl
@[simp] theorem State.changeAccount_entryOf (l : LaneId) (n m : Nat) (x : Nat) : (s.changeAccount l n m).entryOf x = s.entryOf x := rfl
@[simp] theorem State.changeAccount_freeCount (l : LaneId) (n m : Nat) : (s.changeAccount l n m).freeCount = s.freeCount := rfl
@[simp] theorem State.changeAccount_captureLimit (l : LaneId) (n m : Nat) : (s.changeAccount l n m).captureLimit = s.captureLimit := rfl

/-! ### modLane -/

@[simp] theorem State.modLane_pending (l : LaneId) (f : Lane → Lane) : (s.modLane l f).pending = s.pending := rfl
@[simp] theorem State.modLane_phase (l : LaneId) (f : Lane → Lane) : (s.modLane l f).phase = s.phase := rfl
@[simp] theorem State.modLane_startCause (l : LaneId) (f : Lane → Lane) : (s.modLane l f).startCause = s.startCause := rfl
@[simp] theorem State.modLane_startUnread (l : LaneId) (f : Lane → Lane) : (s.modLane l f).startUnread = s.startUnread := rfl
@[simp] theorem State.modLane_resetPin (l : LaneId) (f : Lane → Lane) : (s.modLane l f).resetPin = s.resetPin := rfl
@[simp] theorem State.modLane_commission (l : LaneId) (f : Lane → Lane) : (s.modLane l f).commission = s.commission := rfl
@[simp] theorem State.modLane_supply (l : LaneId) (f : Lane → Lane) : (s.modLane l f).supply = s.supply := rfl
@[simp] theorem State.modLane_caseMon (l : LaneId) (f : Lane → Lane) : (s.modLane l f).caseMon = s.caseMon := rfl
@[simp] theorem State.modLane_limits (l : LaneId) (f : Lane → Lane) : (s.modLane l f).limits = s.limits := rfl
@[simp] theorem State.modLane_timers (l : LaneId) (f : Lane → Lane) : (s.modLane l f).timers = s.timers := rfl
@[simp] theorem State.modLane_table (l : LaneId) (f : Lane → Lane) : (s.modLane l f).table = s.table := rfl
@[simp] theorem State.modLane_keys (l : LaneId) (f : Lane → Lane) : (s.modLane l f).keys = s.keys := rfl
@[simp] theorem State.modLane_engine (l : LaneId) (f : Lane → Lane) : (s.modLane l f).engine = s.engine := rfl
@[simp] theorem State.modLane_attention (l : LaneId) (f : Lane → Lane) : (s.modLane l f).attention = s.attention := rfl
@[simp] theorem State.modLane_port (l : LaneId) (f : Lane → Lane) : (s.modLane l f).port = s.port := rfl
@[simp] theorem State.modLane_cell (l : LaneId) (f : Lane → Lane) (x : Slot) : (s.modLane l f).cell x = s.cell x := rfl
@[simp] theorem State.modLane_recordAt (l : LaneId) (f : Lane → Lane) (x : Slot) : (s.modLane l f).recordAt x = s.recordAt x := rfl
@[simp] theorem State.modLane_handleOf (l : LaneId) (f : Lane → Lane) (x : Slot) : (s.modLane l f).handleOf x = s.handleOf x := rfl
@[simp] theorem State.modLane_current (l : LaneId) (f : Lane → Lane) (x : Handle) : (s.modLane l f).current? x = s.current? x := rfl
@[simp] theorem State.modLane_book (l : LaneId) (f : Lane → Lane) (x : LaneId) : (s.modLane l f).book x = s.book x := rfl
@[simp] theorem State.modLane_engaged (l : LaneId) (f : Lane → Lane) (x : LaneId) : (s.modLane l f).engaged? x = s.engaged? x := rfl
@[simp] theorem State.modLane_entry (l : LaneId) (f : Lane → Lane) (x : Fin 4) : (s.modLane l f).entry x = s.entry x := rfl
@[simp] theorem State.modLane_entryIn (l : LaneId) (f : Lane → Lane) (x : EntryState) : (s.modLane l f).entryIn x = s.entryIn x := rfl
@[simp] theorem State.modLane_entryOf (l : LaneId) (f : Lane → Lane) (x : Nat) : (s.modLane l f).entryOf x = s.entryOf x := rfl
@[simp] theorem State.modLane_freeCount (l : LaneId) (f : Lane → Lane) : (s.modLane l f).freeCount = s.freeCount := rfl
@[simp] theorem State.modLane_captureLimit (l : LaneId) (f : Lane → Lane) : (s.modLane l f).captureLimit = s.captureLimit := rfl

/-! ### offer -/

@[simp] theorem State.offer_pending (l : LaneId) (f : PartFrame) : (s.offer l f).pending = s.pending := rfl
@[simp] theorem State.offer_phase (l : LaneId) (f : PartFrame) : (s.offer l f).phase = s.phase := rfl
@[simp] theorem State.offer_startCause (l : LaneId) (f : PartFrame) : (s.offer l f).startCause = s.startCause := rfl
@[simp] theorem State.offer_startUnread (l : LaneId) (f : PartFrame) : (s.offer l f).startUnread = s.startUnread := rfl
@[simp] theorem State.offer_resetPin (l : LaneId) (f : PartFrame) : (s.offer l f).resetPin = s.resetPin := rfl
@[simp] theorem State.offer_commission (l : LaneId) (f : PartFrame) : (s.offer l f).commission = s.commission := rfl
@[simp] theorem State.offer_supply (l : LaneId) (f : PartFrame) : (s.offer l f).supply = s.supply := rfl
@[simp] theorem State.offer_caseMon (l : LaneId) (f : PartFrame) : (s.offer l f).caseMon = s.caseMon := rfl
@[simp] theorem State.offer_limits (l : LaneId) (f : PartFrame) : (s.offer l f).limits = s.limits := rfl
@[simp] theorem State.offer_timers (l : LaneId) (f : PartFrame) : (s.offer l f).timers = s.timers := rfl
@[simp] theorem State.offer_table (l : LaneId) (f : PartFrame) : (s.offer l f).table = s.table := rfl
@[simp] theorem State.offer_keys (l : LaneId) (f : PartFrame) : (s.offer l f).keys = s.keys := rfl
@[simp] theorem State.offer_engine (l : LaneId) (f : PartFrame) : (s.offer l f).engine = s.engine := rfl
@[simp] theorem State.offer_attention (l : LaneId) (f : PartFrame) : (s.offer l f).attention = s.attention := rfl
@[simp] theorem State.offer_port (l : LaneId) (f : PartFrame) : (s.offer l f).port = s.port := rfl
@[simp] theorem State.offer_cell (l : LaneId) (f : PartFrame) (x : Slot) : (s.offer l f).cell x = s.cell x := rfl
@[simp] theorem State.offer_recordAt (l : LaneId) (f : PartFrame) (x : Slot) : (s.offer l f).recordAt x = s.recordAt x := rfl
@[simp] theorem State.offer_handleOf (l : LaneId) (f : PartFrame) (x : Slot) : (s.offer l f).handleOf x = s.handleOf x := rfl
@[simp] theorem State.offer_current (l : LaneId) (f : PartFrame) (x : Handle) : (s.offer l f).current? x = s.current? x := rfl
@[simp] theorem State.offer_book (l : LaneId) (f : PartFrame) (x : LaneId) : (s.offer l f).book x = s.book x := rfl
@[simp] theorem State.offer_engaged (l : LaneId) (f : PartFrame) (x : LaneId) : (s.offer l f).engaged? x = s.engaged? x := rfl
@[simp] theorem State.offer_entry (l : LaneId) (f : PartFrame) (x : Fin 4) : (s.offer l f).entry x = s.entry x := rfl
@[simp] theorem State.offer_entryIn (l : LaneId) (f : PartFrame) (x : EntryState) : (s.offer l f).entryIn x = s.entryIn x := rfl
@[simp] theorem State.offer_entryOf (l : LaneId) (f : PartFrame) (x : Nat) : (s.offer l f).entryOf x = s.entryOf x := rfl
@[simp] theorem State.offer_freeCount (l : LaneId) (f : PartFrame) : (s.offer l f).freeCount = s.freeCount := rfl
@[simp] theorem State.offer_captureLimit (l : LaneId) (f : PartFrame) : (s.offer l f).captureLimit = s.captureLimit := rfl

/-! ### modCauses -/

@[simp] theorem State.modCauses_pending (l : LaneId) (f : LaneCauses → LaneCauses) : (s.modCauses l f).pending = s.pending := rfl
@[simp] theorem State.modCauses_phase (l : LaneId) (f : LaneCauses → LaneCauses) : (s.modCauses l f).phase = s.phase := rfl
@[simp] theorem State.modCauses_startCause (l : LaneId) (f : LaneCauses → LaneCauses) : (s.modCauses l f).startCause = s.startCause := rfl
@[simp] theorem State.modCauses_startUnread (l : LaneId) (f : LaneCauses → LaneCauses) : (s.modCauses l f).startUnread = s.startUnread := rfl
@[simp] theorem State.modCauses_resetPin (l : LaneId) (f : LaneCauses → LaneCauses) : (s.modCauses l f).resetPin = s.resetPin := rfl
@[simp] theorem State.modCauses_commission (l : LaneId) (f : LaneCauses → LaneCauses) : (s.modCauses l f).commission = s.commission := rfl
@[simp] theorem State.modCauses_supply (l : LaneId) (f : LaneCauses → LaneCauses) : (s.modCauses l f).supply = s.supply := rfl
@[simp] theorem State.modCauses_caseMon (l : LaneId) (f : LaneCauses → LaneCauses) : (s.modCauses l f).caseMon = s.caseMon := rfl
@[simp] theorem State.modCauses_limits (l : LaneId) (f : LaneCauses → LaneCauses) : (s.modCauses l f).limits = s.limits := rfl
@[simp] theorem State.modCauses_timers (l : LaneId) (f : LaneCauses → LaneCauses) : (s.modCauses l f).timers = s.timers := rfl
@[simp] theorem State.modCauses_table (l : LaneId) (f : LaneCauses → LaneCauses) : (s.modCauses l f).table = s.table := rfl
@[simp] theorem State.modCauses_keys (l : LaneId) (f : LaneCauses → LaneCauses) : (s.modCauses l f).keys = s.keys := rfl
@[simp] theorem State.modCauses_engine (l : LaneId) (f : LaneCauses → LaneCauses) : (s.modCauses l f).engine = s.engine := rfl
@[simp] theorem State.modCauses_lanes (l : LaneId) (f : LaneCauses → LaneCauses) : (s.modCauses l f).lanes = s.lanes := rfl
@[simp] theorem State.modCauses_port (l : LaneId) (f : LaneCauses → LaneCauses) : (s.modCauses l f).port = s.port := rfl
@[simp] theorem State.modCauses_cell (l : LaneId) (f : LaneCauses → LaneCauses) (x : Slot) : (s.modCauses l f).cell x = s.cell x := rfl
@[simp] theorem State.modCauses_recordAt (l : LaneId) (f : LaneCauses → LaneCauses) (x : Slot) : (s.modCauses l f).recordAt x = s.recordAt x := rfl
@[simp] theorem State.modCauses_handleOf (l : LaneId) (f : LaneCauses → LaneCauses) (x : Slot) : (s.modCauses l f).handleOf x = s.handleOf x := rfl
@[simp] theorem State.modCauses_current (l : LaneId) (f : LaneCauses → LaneCauses) (x : Handle) : (s.modCauses l f).current? x = s.current? x := rfl
@[simp] theorem State.modCauses_book (l : LaneId) (f : LaneCauses → LaneCauses) (x : LaneId) : (s.modCauses l f).book x = s.book x := rfl
@[simp] theorem State.modCauses_engaged (l : LaneId) (f : LaneCauses → LaneCauses) (x : LaneId) : (s.modCauses l f).engaged? x = s.engaged? x := rfl
@[simp] theorem State.modCauses_lane (l : LaneId) (f : LaneCauses → LaneCauses) (x : LaneId) : (s.modCauses l f).lane x = s.lane x := rfl
@[simp] theorem State.modCauses_entry (l : LaneId) (f : LaneCauses → LaneCauses) (x : Fin 4) : (s.modCauses l f).entry x = s.entry x := rfl
@[simp] theorem State.modCauses_entryIn (l : LaneId) (f : LaneCauses → LaneCauses) (x : EntryState) : (s.modCauses l f).entryIn x = s.entryIn x := rfl
@[simp] theorem State.modCauses_entryOf (l : LaneId) (f : LaneCauses → LaneCauses) (x : Nat) : (s.modCauses l f).entryOf x = s.entryOf x := rfl
@[simp] theorem State.modCauses_freeCount (l : LaneId) (f : LaneCauses → LaneCauses) : (s.modCauses l f).freeCount = s.freeCount := rfl
@[simp] theorem State.modCauses_captureLimit (l : LaneId) (f : LaneCauses → LaneCauses) : (s.modCauses l f).captureLimit = s.captureLimit := rfl

/-! ### modAttention -/

@[simp] theorem State.modAttention_pending (f : AttentionUnit → AttentionUnit) : (s.modAttention f).pending = s.pending := rfl
@[simp] theorem State.modAttention_phase (f : AttentionUnit → AttentionUnit) : (s.modAttention f).phase = s.phase := rfl
@[simp] theorem State.modAttention_startCause (f : AttentionUnit → AttentionUnit) : (s.modAttention f).startCause = s.startCause := rfl
@[simp] theorem State.modAttention_startUnread (f : AttentionUnit → AttentionUnit) : (s.modAttention f).startUnread = s.startUnread := rfl
@[simp] theorem State.modAttention_resetPin (f : AttentionUnit → AttentionUnit) : (s.modAttention f).resetPin = s.resetPin := rfl
@[simp] theorem State.modAttention_commission (f : AttentionUnit → AttentionUnit) : (s.modAttention f).commission = s.commission := rfl
@[simp] theorem State.modAttention_supply (f : AttentionUnit → AttentionUnit) : (s.modAttention f).supply = s.supply := rfl
@[simp] theorem State.modAttention_caseMon (f : AttentionUnit → AttentionUnit) : (s.modAttention f).caseMon = s.caseMon := rfl
@[simp] theorem State.modAttention_limits (f : AttentionUnit → AttentionUnit) : (s.modAttention f).limits = s.limits := rfl
@[simp] theorem State.modAttention_timers (f : AttentionUnit → AttentionUnit) : (s.modAttention f).timers = s.timers := rfl
@[simp] theorem State.modAttention_table (f : AttentionUnit → AttentionUnit) : (s.modAttention f).table = s.table := rfl
@[simp] theorem State.modAttention_keys (f : AttentionUnit → AttentionUnit) : (s.modAttention f).keys = s.keys := rfl
@[simp] theorem State.modAttention_engine (f : AttentionUnit → AttentionUnit) : (s.modAttention f).engine = s.engine := rfl
@[simp] theorem State.modAttention_lanes (f : AttentionUnit → AttentionUnit) : (s.modAttention f).lanes = s.lanes := rfl
@[simp] theorem State.modAttention_port (f : AttentionUnit → AttentionUnit) : (s.modAttention f).port = s.port := rfl
@[simp] theorem State.modAttention_cell (f : AttentionUnit → AttentionUnit) (x : Slot) : (s.modAttention f).cell x = s.cell x := rfl
@[simp] theorem State.modAttention_recordAt (f : AttentionUnit → AttentionUnit) (x : Slot) : (s.modAttention f).recordAt x = s.recordAt x := rfl
@[simp] theorem State.modAttention_handleOf (f : AttentionUnit → AttentionUnit) (x : Slot) : (s.modAttention f).handleOf x = s.handleOf x := rfl
@[simp] theorem State.modAttention_current (f : AttentionUnit → AttentionUnit) (x : Handle) : (s.modAttention f).current? x = s.current? x := rfl
@[simp] theorem State.modAttention_book (f : AttentionUnit → AttentionUnit) (x : LaneId) : (s.modAttention f).book x = s.book x := rfl
@[simp] theorem State.modAttention_engaged (f : AttentionUnit → AttentionUnit) (x : LaneId) : (s.modAttention f).engaged? x = s.engaged? x := rfl
@[simp] theorem State.modAttention_lane (f : AttentionUnit → AttentionUnit) (x : LaneId) : (s.modAttention f).lane x = s.lane x := rfl
@[simp] theorem State.modAttention_entry (f : AttentionUnit → AttentionUnit) (x : Fin 4) : (s.modAttention f).entry x = s.entry x := rfl
@[simp] theorem State.modAttention_entryIn (f : AttentionUnit → AttentionUnit) (x : EntryState) : (s.modAttention f).entryIn x = s.entryIn x := rfl
@[simp] theorem State.modAttention_entryOf (f : AttentionUnit → AttentionUnit) (x : Nat) : (s.modAttention f).entryOf x = s.entryOf x := rfl
@[simp] theorem State.modAttention_freeCount (f : AttentionUnit → AttentionUnit) : (s.modAttention f).freeCount = s.freeCount := rfl
@[simp] theorem State.modAttention_captureLimit (f : AttentionUnit → AttentionUnit) : (s.modAttention f).captureLimit = s.captureLimit := rfl

/-! ### latchDrained -/

@[simp] theorem State.latchDrained_pending (g : Nat) : (s.latchDrained g).pending = s.pending := rfl
@[simp] theorem State.latchDrained_phase (g : Nat) : (s.latchDrained g).phase = s.phase := rfl
@[simp] theorem State.latchDrained_startCause (g : Nat) : (s.latchDrained g).startCause = s.startCause := rfl
@[simp] theorem State.latchDrained_startUnread (g : Nat) : (s.latchDrained g).startUnread = s.startUnread := rfl
@[simp] theorem State.latchDrained_resetPin (g : Nat) : (s.latchDrained g).resetPin = s.resetPin := rfl
@[simp] theorem State.latchDrained_commission (g : Nat) : (s.latchDrained g).commission = s.commission := rfl
@[simp] theorem State.latchDrained_supply (g : Nat) : (s.latchDrained g).supply = s.supply := rfl
@[simp] theorem State.latchDrained_caseMon (g : Nat) : (s.latchDrained g).caseMon = s.caseMon := rfl
@[simp] theorem State.latchDrained_limits (g : Nat) : (s.latchDrained g).limits = s.limits := rfl
@[simp] theorem State.latchDrained_timers (g : Nat) : (s.latchDrained g).timers = s.timers := rfl
@[simp] theorem State.latchDrained_table (g : Nat) : (s.latchDrained g).table = s.table := rfl
@[simp] theorem State.latchDrained_keys (g : Nat) : (s.latchDrained g).keys = s.keys := rfl
@[simp] theorem State.latchDrained_engine (g : Nat) : (s.latchDrained g).engine = s.engine := rfl
@[simp] theorem State.latchDrained_lanes (g : Nat) : (s.latchDrained g).lanes = s.lanes := rfl
@[simp] theorem State.latchDrained_port (g : Nat) : (s.latchDrained g).port = s.port := rfl
@[simp] theorem State.latchDrained_cell (g : Nat) (x : Slot) : (s.latchDrained g).cell x = s.cell x := rfl
@[simp] theorem State.latchDrained_recordAt (g : Nat) (x : Slot) : (s.latchDrained g).recordAt x = s.recordAt x := rfl
@[simp] theorem State.latchDrained_handleOf (g : Nat) (x : Slot) : (s.latchDrained g).handleOf x = s.handleOf x := rfl
@[simp] theorem State.latchDrained_current (g : Nat) (x : Handle) : (s.latchDrained g).current? x = s.current? x := rfl
@[simp] theorem State.latchDrained_book (g : Nat) (x : LaneId) : (s.latchDrained g).book x = s.book x := rfl
@[simp] theorem State.latchDrained_engaged (g : Nat) (x : LaneId) : (s.latchDrained g).engaged? x = s.engaged? x := rfl
@[simp] theorem State.latchDrained_lane (g : Nat) (x : LaneId) : (s.latchDrained g).lane x = s.lane x := rfl
@[simp] theorem State.latchDrained_entry (g : Nat) (x : Fin 4) : (s.latchDrained g).entry x = s.entry x := rfl
@[simp] theorem State.latchDrained_entryIn (g : Nat) (x : EntryState) : (s.latchDrained g).entryIn x = s.entryIn x := rfl
@[simp] theorem State.latchDrained_entryOf (g : Nat) (x : Nat) : (s.latchDrained g).entryOf x = s.entryOf x := rfl
@[simp] theorem State.latchDrained_freeCount (g : Nat) : (s.latchDrained g).freeCount = s.freeCount := rfl
@[simp] theorem State.latchDrained_captureLimit (g : Nat) : (s.latchDrained g).captureLimit = s.captureLimit := rfl

/-! ### latchWarning -/

@[simp] theorem State.latchWarning_pending (l : LaneId) (g : Nat) : (s.latchWarning l g).pending = s.pending := rfl
@[simp] theorem State.latchWarning_phase (l : LaneId) (g : Nat) : (s.latchWarning l g).phase = s.phase := rfl
@[simp] theorem State.latchWarning_startCause (l : LaneId) (g : Nat) : (s.latchWarning l g).startCause = s.startCause := rfl
@[simp] theorem State.latchWarning_startUnread (l : LaneId) (g : Nat) : (s.latchWarning l g).startUnread = s.startUnread := rfl
@[simp] theorem State.latchWarning_resetPin (l : LaneId) (g : Nat) : (s.latchWarning l g).resetPin = s.resetPin := rfl
@[simp] theorem State.latchWarning_commission (l : LaneId) (g : Nat) : (s.latchWarning l g).commission = s.commission := rfl
@[simp] theorem State.latchWarning_supply (l : LaneId) (g : Nat) : (s.latchWarning l g).supply = s.supply := rfl
@[simp] theorem State.latchWarning_caseMon (l : LaneId) (g : Nat) : (s.latchWarning l g).caseMon = s.caseMon := rfl
@[simp] theorem State.latchWarning_limits (l : LaneId) (g : Nat) : (s.latchWarning l g).limits = s.limits := rfl
@[simp] theorem State.latchWarning_timers (l : LaneId) (g : Nat) : (s.latchWarning l g).timers = s.timers := rfl
@[simp] theorem State.latchWarning_table (l : LaneId) (g : Nat) : (s.latchWarning l g).table = s.table := rfl
@[simp] theorem State.latchWarning_keys (l : LaneId) (g : Nat) : (s.latchWarning l g).keys = s.keys := rfl
@[simp] theorem State.latchWarning_engine (l : LaneId) (g : Nat) : (s.latchWarning l g).engine = s.engine := rfl
@[simp] theorem State.latchWarning_lanes (l : LaneId) (g : Nat) : (s.latchWarning l g).lanes = s.lanes := rfl
@[simp] theorem State.latchWarning_port (l : LaneId) (g : Nat) : (s.latchWarning l g).port = s.port := rfl
@[simp] theorem State.latchWarning_cell (l : LaneId) (g : Nat) (x : Slot) : (s.latchWarning l g).cell x = s.cell x := rfl
@[simp] theorem State.latchWarning_recordAt (l : LaneId) (g : Nat) (x : Slot) : (s.latchWarning l g).recordAt x = s.recordAt x := rfl
@[simp] theorem State.latchWarning_handleOf (l : LaneId) (g : Nat) (x : Slot) : (s.latchWarning l g).handleOf x = s.handleOf x := rfl
@[simp] theorem State.latchWarning_current (l : LaneId) (g : Nat) (x : Handle) : (s.latchWarning l g).current? x = s.current? x := rfl
@[simp] theorem State.latchWarning_book (l : LaneId) (g : Nat) (x : LaneId) : (s.latchWarning l g).book x = s.book x := rfl
@[simp] theorem State.latchWarning_engaged (l : LaneId) (g : Nat) (x : LaneId) : (s.latchWarning l g).engaged? x = s.engaged? x := rfl
@[simp] theorem State.latchWarning_lane (l : LaneId) (g : Nat) (x : LaneId) : (s.latchWarning l g).lane x = s.lane x := rfl
@[simp] theorem State.latchWarning_entry (l : LaneId) (g : Nat) (x : Fin 4) : (s.latchWarning l g).entry x = s.entry x := rfl
@[simp] theorem State.latchWarning_entryIn (l : LaneId) (g : Nat) (x : EntryState) : (s.latchWarning l g).entryIn x = s.entryIn x := rfl
@[simp] theorem State.latchWarning_entryOf (l : LaneId) (g : Nat) (x : Nat) : (s.latchWarning l g).entryOf x = s.entryOf x := rfl
@[simp] theorem State.latchWarning_freeCount (l : LaneId) (g : Nat) : (s.latchWarning l g).freeCount = s.freeCount := rfl
@[simp] theorem State.latchWarning_captureLimit (l : LaneId) (g : Nat) : (s.latchWarning l g).captureLimit = s.captureLimit := rfl

/-! ### latchTable -/

@[simp] theorem State.latchTable_pending : (s.latchTable).pending = s.pending := rfl
@[simp] theorem State.latchTable_phase : (s.latchTable).phase = s.phase := rfl
@[simp] theorem State.latchTable_startCause : (s.latchTable).startCause = s.startCause := rfl
@[simp] theorem State.latchTable_startUnread : (s.latchTable).startUnread = s.startUnread := rfl
@[simp] theorem State.latchTable_resetPin : (s.latchTable).resetPin = s.resetPin := rfl
@[simp] theorem State.latchTable_commission : (s.latchTable).commission = s.commission := rfl
@[simp] theorem State.latchTable_supply : (s.latchTable).supply = s.supply := rfl
@[simp] theorem State.latchTable_caseMon : (s.latchTable).caseMon = s.caseMon := rfl
@[simp] theorem State.latchTable_limits : (s.latchTable).limits = s.limits := rfl
@[simp] theorem State.latchTable_timers : (s.latchTable).timers = s.timers := rfl
@[simp] theorem State.latchTable_table : (s.latchTable).table = s.table := rfl
@[simp] theorem State.latchTable_keys : (s.latchTable).keys = s.keys := rfl
@[simp] theorem State.latchTable_engine : (s.latchTable).engine = s.engine := rfl
@[simp] theorem State.latchTable_lanes : (s.latchTable).lanes = s.lanes := rfl
@[simp] theorem State.latchTable_port : (s.latchTable).port = s.port := rfl
@[simp] theorem State.latchTable_cell (x : Slot) : (s.latchTable).cell x = s.cell x := rfl
@[simp] theorem State.latchTable_recordAt (x : Slot) : (s.latchTable).recordAt x = s.recordAt x := rfl
@[simp] theorem State.latchTable_handleOf (x : Slot) : (s.latchTable).handleOf x = s.handleOf x := rfl
@[simp] theorem State.latchTable_current (x : Handle) : (s.latchTable).current? x = s.current? x := rfl
@[simp] theorem State.latchTable_book (x : LaneId) : (s.latchTable).book x = s.book x := rfl
@[simp] theorem State.latchTable_engaged (x : LaneId) : (s.latchTable).engaged? x = s.engaged? x := rfl
@[simp] theorem State.latchTable_lane (x : LaneId) : (s.latchTable).lane x = s.lane x := rfl
@[simp] theorem State.latchTable_entry (x : Fin 4) : (s.latchTable).entry x = s.entry x := rfl
@[simp] theorem State.latchTable_entryIn (x : EntryState) : (s.latchTable).entryIn x = s.entryIn x := rfl
@[simp] theorem State.latchTable_entryOf (x : Nat) : (s.latchTable).entryOf x = s.entryOf x := rfl
@[simp] theorem State.latchTable_freeCount : (s.latchTable).freeCount = s.freeCount := rfl
@[simp] theorem State.latchTable_captureLimit : (s.latchTable).captureLimit = s.captureLimit := rfl

/-! ### latchSupply -/

@[simp] theorem State.latchSupply_pending (n : SupplyState) : (s.latchSupply n).pending = s.pending := rfl
@[simp] theorem State.latchSupply_phase (n : SupplyState) : (s.latchSupply n).phase = s.phase := rfl
@[simp] theorem State.latchSupply_startCause (n : SupplyState) : (s.latchSupply n).startCause = s.startCause := rfl
@[simp] theorem State.latchSupply_startUnread (n : SupplyState) : (s.latchSupply n).startUnread = s.startUnread := rfl
@[simp] theorem State.latchSupply_resetPin (n : SupplyState) : (s.latchSupply n).resetPin = s.resetPin := rfl
@[simp] theorem State.latchSupply_commission (n : SupplyState) : (s.latchSupply n).commission = s.commission := rfl
@[simp] theorem State.latchSupply_supply (n : SupplyState) : (s.latchSupply n).supply = s.supply := rfl
@[simp] theorem State.latchSupply_caseMon (n : SupplyState) : (s.latchSupply n).caseMon = s.caseMon := rfl
@[simp] theorem State.latchSupply_limits (n : SupplyState) : (s.latchSupply n).limits = s.limits := rfl
@[simp] theorem State.latchSupply_timers (n : SupplyState) : (s.latchSupply n).timers = s.timers := rfl
@[simp] theorem State.latchSupply_table (n : SupplyState) : (s.latchSupply n).table = s.table := rfl
@[simp] theorem State.latchSupply_keys (n : SupplyState) : (s.latchSupply n).keys = s.keys := rfl
@[simp] theorem State.latchSupply_engine (n : SupplyState) : (s.latchSupply n).engine = s.engine := rfl
@[simp] theorem State.latchSupply_lanes (n : SupplyState) : (s.latchSupply n).lanes = s.lanes := rfl
@[simp] theorem State.latchSupply_port (n : SupplyState) : (s.latchSupply n).port = s.port := rfl
@[simp] theorem State.latchSupply_cell (n : SupplyState) (x : Slot) : (s.latchSupply n).cell x = s.cell x := rfl
@[simp] theorem State.latchSupply_recordAt (n : SupplyState) (x : Slot) : (s.latchSupply n).recordAt x = s.recordAt x := rfl
@[simp] theorem State.latchSupply_handleOf (n : SupplyState) (x : Slot) : (s.latchSupply n).handleOf x = s.handleOf x := rfl
@[simp] theorem State.latchSupply_current (n : SupplyState) (x : Handle) : (s.latchSupply n).current? x = s.current? x := rfl
@[simp] theorem State.latchSupply_book (n : SupplyState) (x : LaneId) : (s.latchSupply n).book x = s.book x := rfl
@[simp] theorem State.latchSupply_engaged (n : SupplyState) (x : LaneId) : (s.latchSupply n).engaged? x = s.engaged? x := rfl
@[simp] theorem State.latchSupply_lane (n : SupplyState) (x : LaneId) : (s.latchSupply n).lane x = s.lane x := rfl
@[simp] theorem State.latchSupply_entry (n : SupplyState) (x : Fin 4) : (s.latchSupply n).entry x = s.entry x := rfl
@[simp] theorem State.latchSupply_entryIn (n : SupplyState) (x : EntryState) : (s.latchSupply n).entryIn x = s.entryIn x := rfl
@[simp] theorem State.latchSupply_entryOf (n : SupplyState) (x : Nat) : (s.latchSupply n).entryOf x = s.entryOf x := rfl
@[simp] theorem State.latchSupply_freeCount (n : SupplyState) : (s.latchSupply n).freeCount = s.freeCount := rfl
@[simp] theorem State.latchSupply_captureLimit (n : SupplyState) : (s.latchSupply n).captureLimit = s.captureLimit := rfl

/-! ### setEntry -/

@[simp] theorem State.setEntry_pending (i : Fin 4) (e : KeyEntry) : (s.setEntry i e).pending = s.pending := rfl
@[simp] theorem State.setEntry_phase (i : Fin 4) (e : KeyEntry) : (s.setEntry i e).phase = s.phase := rfl
@[simp] theorem State.setEntry_startCause (i : Fin 4) (e : KeyEntry) : (s.setEntry i e).startCause = s.startCause := rfl
@[simp] theorem State.setEntry_startUnread (i : Fin 4) (e : KeyEntry) : (s.setEntry i e).startUnread = s.startUnread := rfl
@[simp] theorem State.setEntry_resetPin (i : Fin 4) (e : KeyEntry) : (s.setEntry i e).resetPin = s.resetPin := rfl
@[simp] theorem State.setEntry_commission (i : Fin 4) (e : KeyEntry) : (s.setEntry i e).commission = s.commission := rfl
@[simp] theorem State.setEntry_supply (i : Fin 4) (e : KeyEntry) : (s.setEntry i e).supply = s.supply := rfl
@[simp] theorem State.setEntry_caseMon (i : Fin 4) (e : KeyEntry) : (s.setEntry i e).caseMon = s.caseMon := rfl
@[simp] theorem State.setEntry_limits (i : Fin 4) (e : KeyEntry) : (s.setEntry i e).limits = s.limits := rfl
@[simp] theorem State.setEntry_timers (i : Fin 4) (e : KeyEntry) : (s.setEntry i e).timers = s.timers := rfl
@[simp] theorem State.setEntry_table (i : Fin 4) (e : KeyEntry) : (s.setEntry i e).table = s.table := rfl
@[simp] theorem State.setEntry_engine (i : Fin 4) (e : KeyEntry) : (s.setEntry i e).engine = s.engine := rfl
@[simp] theorem State.setEntry_lanes (i : Fin 4) (e : KeyEntry) : (s.setEntry i e).lanes = s.lanes := rfl
@[simp] theorem State.setEntry_attention (i : Fin 4) (e : KeyEntry) : (s.setEntry i e).attention = s.attention := rfl
@[simp] theorem State.setEntry_port (i : Fin 4) (e : KeyEntry) : (s.setEntry i e).port = s.port := rfl
@[simp] theorem State.setEntry_cell (i : Fin 4) (e : KeyEntry) (x : Slot) : (s.setEntry i e).cell x = s.cell x := rfl
@[simp] theorem State.setEntry_recordAt (i : Fin 4) (e : KeyEntry) (x : Slot) : (s.setEntry i e).recordAt x = s.recordAt x := rfl
@[simp] theorem State.setEntry_handleOf (i : Fin 4) (e : KeyEntry) (x : Slot) : (s.setEntry i e).handleOf x = s.handleOf x := rfl
@[simp] theorem State.setEntry_current (i : Fin 4) (e : KeyEntry) (x : Handle) : (s.setEntry i e).current? x = s.current? x := rfl
@[simp] theorem State.setEntry_book (i : Fin 4) (e : KeyEntry) (x : LaneId) : (s.setEntry i e).book x = s.book x := rfl
@[simp] theorem State.setEntry_engaged (i : Fin 4) (e : KeyEntry) (x : LaneId) : (s.setEntry i e).engaged? x = s.engaged? x := rfl
@[simp] theorem State.setEntry_lane (i : Fin 4) (e : KeyEntry) (x : LaneId) : (s.setEntry i e).lane x = s.lane x := rfl
@[simp] theorem State.setEntry_freeCount (i : Fin 4) (e : KeyEntry) : (s.setEntry i e).freeCount = s.freeCount := rfl
@[simp] theorem State.setEntry_captureLimit (i : Fin 4) (e : KeyEntry) : (s.setEntry i e).captureLimit = s.captureLimit := rfl

/-! ### bindEntry -/

@[simp] theorem State.bindEntry_pending (i : Fin 4) : (s.bindEntry i).pending = s.pending := rfl
@[simp] theorem State.bindEntry_phase (i : Fin 4) : (s.bindEntry i).phase = s.phase := rfl
@[simp] theorem State.bindEntry_startCause (i : Fin 4) : (s.bindEntry i).startCause = s.startCause := rfl
@[simp] theorem State.bindEntry_startUnread (i : Fin 4) : (s.bindEntry i).startUnread = s.startUnread := rfl
@[simp] theorem State.bindEntry_resetPin (i : Fin 4) : (s.bindEntry i).resetPin = s.resetPin := rfl
@[simp] theorem State.bindEntry_commission (i : Fin 4) : (s.bindEntry i).commission = s.commission := rfl
@[simp] theorem State.bindEntry_supply (i : Fin 4) : (s.bindEntry i).supply = s.supply := rfl
@[simp] theorem State.bindEntry_caseMon (i : Fin 4) : (s.bindEntry i).caseMon = s.caseMon := rfl
@[simp] theorem State.bindEntry_limits (i : Fin 4) : (s.bindEntry i).limits = s.limits := rfl
@[simp] theorem State.bindEntry_timers (i : Fin 4) : (s.bindEntry i).timers = s.timers := rfl
@[simp] theorem State.bindEntry_table (i : Fin 4) : (s.bindEntry i).table = s.table := rfl
@[simp] theorem State.bindEntry_engine (i : Fin 4) : (s.bindEntry i).engine = s.engine := rfl
@[simp] theorem State.bindEntry_lanes (i : Fin 4) : (s.bindEntry i).lanes = s.lanes := rfl
@[simp] theorem State.bindEntry_attention (i : Fin 4) : (s.bindEntry i).attention = s.attention := rfl
@[simp] theorem State.bindEntry_port (i : Fin 4) : (s.bindEntry i).port = s.port := rfl
@[simp] theorem State.bindEntry_cell (i : Fin 4) (x : Slot) : (s.bindEntry i).cell x = s.cell x := rfl
@[simp] theorem State.bindEntry_recordAt (i : Fin 4) (x : Slot) : (s.bindEntry i).recordAt x = s.recordAt x := rfl
@[simp] theorem State.bindEntry_handleOf (i : Fin 4) (x : Slot) : (s.bindEntry i).handleOf x = s.handleOf x := rfl
@[simp] theorem State.bindEntry_current (i : Fin 4) (x : Handle) : (s.bindEntry i).current? x = s.current? x := rfl
@[simp] theorem State.bindEntry_book (i : Fin 4) (x : LaneId) : (s.bindEntry i).book x = s.book x := rfl
@[simp] theorem State.bindEntry_engaged (i : Fin 4) (x : LaneId) : (s.bindEntry i).engaged? x = s.engaged? x := rfl
@[simp] theorem State.bindEntry_lane (i : Fin 4) (x : LaneId) : (s.bindEntry i).lane x = s.lane x := rfl
@[simp] theorem State.bindEntry_freeCount (i : Fin 4) : (s.bindEntry i).freeCount = s.freeCount := rfl
@[simp] theorem State.bindEntry_captureLimit (i : Fin 4) : (s.bindEntry i).captureLimit = s.captureLimit := rfl

/-! ### setQueue -/

@[simp] theorem State.setQueue_pending (q : List Job) : (s.setQueue q).pending = s.pending := rfl
@[simp] theorem State.setQueue_phase (q : List Job) : (s.setQueue q).phase = s.phase := rfl
@[simp] theorem State.setQueue_startCause (q : List Job) : (s.setQueue q).startCause = s.startCause := rfl
@[simp] theorem State.setQueue_startUnread (q : List Job) : (s.setQueue q).startUnread = s.startUnread := rfl
@[simp] theorem State.setQueue_resetPin (q : List Job) : (s.setQueue q).resetPin = s.resetPin := rfl
@[simp] theorem State.setQueue_commission (q : List Job) : (s.setQueue q).commission = s.commission := rfl
@[simp] theorem State.setQueue_supply (q : List Job) : (s.setQueue q).supply = s.supply := rfl
@[simp] theorem State.setQueue_caseMon (q : List Job) : (s.setQueue q).caseMon = s.caseMon := rfl
@[simp] theorem State.setQueue_limits (q : List Job) : (s.setQueue q).limits = s.limits := rfl
@[simp] theorem State.setQueue_timers (q : List Job) : (s.setQueue q).timers = s.timers := rfl
@[simp] theorem State.setQueue_table (q : List Job) : (s.setQueue q).table = s.table := rfl
@[simp] theorem State.setQueue_keys (q : List Job) : (s.setQueue q).keys = s.keys := rfl
@[simp] theorem State.setQueue_lanes (q : List Job) : (s.setQueue q).lanes = s.lanes := rfl
@[simp] theorem State.setQueue_attention (q : List Job) : (s.setQueue q).attention = s.attention := rfl
@[simp] theorem State.setQueue_port (q : List Job) : (s.setQueue q).port = s.port := rfl
@[simp] theorem State.setQueue_cell (q : List Job) (x : Slot) : (s.setQueue q).cell x = s.cell x := rfl
@[simp] theorem State.setQueue_recordAt (q : List Job) (x : Slot) : (s.setQueue q).recordAt x = s.recordAt x := rfl
@[simp] theorem State.setQueue_handleOf (q : List Job) (x : Slot) : (s.setQueue q).handleOf x = s.handleOf x := rfl
@[simp] theorem State.setQueue_current (q : List Job) (x : Handle) : (s.setQueue q).current? x = s.current? x := rfl
@[simp] theorem State.setQueue_book (q : List Job) (x : LaneId) : (s.setQueue q).book x = s.book x := rfl
@[simp] theorem State.setQueue_engaged (q : List Job) (x : LaneId) : (s.setQueue q).engaged? x = s.engaged? x := rfl
@[simp] theorem State.setQueue_lane (q : List Job) (x : LaneId) : (s.setQueue q).lane x = s.lane x := rfl
@[simp] theorem State.setQueue_entry (q : List Job) (x : Fin 4) : (s.setQueue q).entry x = s.entry x := rfl
@[simp] theorem State.setQueue_entryIn (q : List Job) (x : EntryState) : (s.setQueue q).entryIn x = s.entryIn x := rfl
@[simp] theorem State.setQueue_entryOf (q : List Job) (x : Nat) : (s.setQueue q).entryOf x = s.entryOf x := rfl
@[simp] theorem State.setQueue_freeCount (q : List Job) : (s.setQueue q).freeCount = s.freeCount := rfl
@[simp] theorem State.setQueue_captureLimit (q : List Job) : (s.setQueue q).captureLimit = s.captureLimit := rfl

/-! ### setService -/

@[simp] theorem State.setService_pending (v : Service) : (s.setService v).pending = s.pending := rfl
@[simp] theorem State.setService_phase (v : Service) : (s.setService v).phase = s.phase := rfl
@[simp] theorem State.setService_startCause (v : Service) : (s.setService v).startCause = s.startCause := rfl
@[simp] theorem State.setService_startUnread (v : Service) : (s.setService v).startUnread = s.startUnread := rfl
@[simp] theorem State.setService_resetPin (v : Service) : (s.setService v).resetPin = s.resetPin := rfl
@[simp] theorem State.setService_commission (v : Service) : (s.setService v).commission = s.commission := rfl
@[simp] theorem State.setService_supply (v : Service) : (s.setService v).supply = s.supply := rfl
@[simp] theorem State.setService_caseMon (v : Service) : (s.setService v).caseMon = s.caseMon := rfl
@[simp] theorem State.setService_limits (v : Service) : (s.setService v).limits = s.limits := rfl
@[simp] theorem State.setService_timers (v : Service) : (s.setService v).timers = s.timers := rfl
@[simp] theorem State.setService_table (v : Service) : (s.setService v).table = s.table := rfl
@[simp] theorem State.setService_keys (v : Service) : (s.setService v).keys = s.keys := rfl
@[simp] theorem State.setService_lanes (v : Service) : (s.setService v).lanes = s.lanes := rfl
@[simp] theorem State.setService_attention (v : Service) : (s.setService v).attention = s.attention := rfl
@[simp] theorem State.setService_port (v : Service) : (s.setService v).port = s.port := rfl
@[simp] theorem State.setService_cell (v : Service) (x : Slot) : (s.setService v).cell x = s.cell x := rfl
@[simp] theorem State.setService_recordAt (v : Service) (x : Slot) : (s.setService v).recordAt x = s.recordAt x := rfl
@[simp] theorem State.setService_handleOf (v : Service) (x : Slot) : (s.setService v).handleOf x = s.handleOf x := rfl
@[simp] theorem State.setService_current (v : Service) (x : Handle) : (s.setService v).current? x = s.current? x := rfl
@[simp] theorem State.setService_book (v : Service) (x : LaneId) : (s.setService v).book x = s.book x := rfl
@[simp] theorem State.setService_engaged (v : Service) (x : LaneId) : (s.setService v).engaged? x = s.engaged? x := rfl
@[simp] theorem State.setService_lane (v : Service) (x : LaneId) : (s.setService v).lane x = s.lane x := rfl
@[simp] theorem State.setService_entry (v : Service) (x : Fin 4) : (s.setService v).entry x = s.entry x := rfl
@[simp] theorem State.setService_entryIn (v : Service) (x : EntryState) : (s.setService v).entryIn x = s.entryIn x := rfl
@[simp] theorem State.setService_entryOf (v : Service) (x : Nat) : (s.setService v).entryOf x = s.entryOf x := rfl
@[simp] theorem State.setService_freeCount (v : Service) : (s.setService v).freeCount = s.freeCount := rfl
@[simp] theorem State.setService_captureLimit (v : Service) : (s.setService v).captureLimit = s.captureLimit := rfl

/-! ### eraseEngine -/

@[simp] theorem State.eraseEngine_pending : (s.eraseEngine).pending = s.pending := rfl
@[simp] theorem State.eraseEngine_phase : (s.eraseEngine).phase = s.phase := rfl
@[simp] theorem State.eraseEngine_startCause : (s.eraseEngine).startCause = s.startCause := rfl
@[simp] theorem State.eraseEngine_startUnread : (s.eraseEngine).startUnread = s.startUnread := rfl
@[simp] theorem State.eraseEngine_resetPin : (s.eraseEngine).resetPin = s.resetPin := rfl
@[simp] theorem State.eraseEngine_commission : (s.eraseEngine).commission = s.commission := rfl
@[simp] theorem State.eraseEngine_supply : (s.eraseEngine).supply = s.supply := rfl
@[simp] theorem State.eraseEngine_caseMon : (s.eraseEngine).caseMon = s.caseMon := rfl
@[simp] theorem State.eraseEngine_limits : (s.eraseEngine).limits = s.limits := rfl
@[simp] theorem State.eraseEngine_timers : (s.eraseEngine).timers = s.timers := rfl
@[simp] theorem State.eraseEngine_table : (s.eraseEngine).table = s.table := rfl
@[simp] theorem State.eraseEngine_keys : (s.eraseEngine).keys = s.keys := rfl
@[simp] theorem State.eraseEngine_lanes : (s.eraseEngine).lanes = s.lanes := rfl
@[simp] theorem State.eraseEngine_attention : (s.eraseEngine).attention = s.attention := rfl
@[simp] theorem State.eraseEngine_port : (s.eraseEngine).port = s.port := rfl
@[simp] theorem State.eraseEngine_cell (x : Slot) : (s.eraseEngine).cell x = s.cell x := rfl
@[simp] theorem State.eraseEngine_recordAt (x : Slot) : (s.eraseEngine).recordAt x = s.recordAt x := rfl
@[simp] theorem State.eraseEngine_handleOf (x : Slot) : (s.eraseEngine).handleOf x = s.handleOf x := rfl
@[simp] theorem State.eraseEngine_current (x : Handle) : (s.eraseEngine).current? x = s.current? x := rfl
@[simp] theorem State.eraseEngine_book (x : LaneId) : (s.eraseEngine).book x = s.book x := rfl
@[simp] theorem State.eraseEngine_engaged (x : LaneId) : (s.eraseEngine).engaged? x = s.engaged? x := rfl
@[simp] theorem State.eraseEngine_lane (x : LaneId) : (s.eraseEngine).lane x = s.lane x := rfl
@[simp] theorem State.eraseEngine_entry (x : Fin 4) : (s.eraseEngine).entry x = s.entry x := rfl
@[simp] theorem State.eraseEngine_entryIn (x : EntryState) : (s.eraseEngine).entryIn x = s.entryIn x := rfl
@[simp] theorem State.eraseEngine_entryOf (x : Nat) : (s.eraseEngine).entryOf x = s.entryOf x := rfl
@[simp] theorem State.eraseEngine_freeCount : (s.eraseEngine).freeCount = s.freeCount := rfl
@[simp] theorem State.eraseEngine_captureLimit : (s.eraseEngine).captureLimit = s.captureLimit := rfl

/-! ### respond -/

@[simp] theorem State.respond_pending (kind tag : Byte) (st : Status) (b : List Byte) : (s.respond kind tag st b).pending = s.pending := rfl
@[simp] theorem State.respond_phase (kind tag : Byte) (st : Status) (b : List Byte) : (s.respond kind tag st b).phase = s.phase := rfl
@[simp] theorem State.respond_startCause (kind tag : Byte) (st : Status) (b : List Byte) : (s.respond kind tag st b).startCause = s.startCause := rfl
@[simp] theorem State.respond_startUnread (kind tag : Byte) (st : Status) (b : List Byte) : (s.respond kind tag st b).startUnread = s.startUnread := rfl
@[simp] theorem State.respond_resetPin (kind tag : Byte) (st : Status) (b : List Byte) : (s.respond kind tag st b).resetPin = s.resetPin := rfl
@[simp] theorem State.respond_commission (kind tag : Byte) (st : Status) (b : List Byte) : (s.respond kind tag st b).commission = s.commission := rfl
@[simp] theorem State.respond_supply (kind tag : Byte) (st : Status) (b : List Byte) : (s.respond kind tag st b).supply = s.supply := rfl
@[simp] theorem State.respond_caseMon (kind tag : Byte) (st : Status) (b : List Byte) : (s.respond kind tag st b).caseMon = s.caseMon := rfl
@[simp] theorem State.respond_limits (kind tag : Byte) (st : Status) (b : List Byte) : (s.respond kind tag st b).limits = s.limits := rfl
@[simp] theorem State.respond_timers (kind tag : Byte) (st : Status) (b : List Byte) : (s.respond kind tag st b).timers = s.timers := rfl
@[simp] theorem State.respond_table (kind tag : Byte) (st : Status) (b : List Byte) : (s.respond kind tag st b).table = s.table := rfl
@[simp] theorem State.respond_keys (kind tag : Byte) (st : Status) (b : List Byte) : (s.respond kind tag st b).keys = s.keys := rfl
@[simp] theorem State.respond_engine (kind tag : Byte) (st : Status) (b : List Byte) : (s.respond kind tag st b).engine = s.engine := rfl
@[simp] theorem State.respond_lanes (kind tag : Byte) (st : Status) (b : List Byte) : (s.respond kind tag st b).lanes = s.lanes := rfl
@[simp] theorem State.respond_attention (kind tag : Byte) (st : Status) (b : List Byte) : (s.respond kind tag st b).attention = s.attention := rfl
@[simp] theorem State.respond_cell (kind tag : Byte) (st : Status) (b : List Byte) (x : Slot) : (s.respond kind tag st b).cell x = s.cell x := rfl
@[simp] theorem State.respond_recordAt (kind tag : Byte) (st : Status) (b : List Byte) (x : Slot) : (s.respond kind tag st b).recordAt x = s.recordAt x := rfl
@[simp] theorem State.respond_handleOf (kind tag : Byte) (st : Status) (b : List Byte) (x : Slot) : (s.respond kind tag st b).handleOf x = s.handleOf x := rfl
@[simp] theorem State.respond_current (kind tag : Byte) (st : Status) (b : List Byte) (x : Handle) : (s.respond kind tag st b).current? x = s.current? x := rfl
@[simp] theorem State.respond_book (kind tag : Byte) (st : Status) (b : List Byte) (x : LaneId) : (s.respond kind tag st b).book x = s.book x := rfl
@[simp] theorem State.respond_engaged (kind tag : Byte) (st : Status) (b : List Byte) (x : LaneId) : (s.respond kind tag st b).engaged? x = s.engaged? x := rfl
@[simp] theorem State.respond_lane (kind tag : Byte) (st : Status) (b : List Byte) (x : LaneId) : (s.respond kind tag st b).lane x = s.lane x := rfl
@[simp] theorem State.respond_entry (kind tag : Byte) (st : Status) (b : List Byte) (x : Fin 4) : (s.respond kind tag st b).entry x = s.entry x := rfl
@[simp] theorem State.respond_entryIn (kind tag : Byte) (st : Status) (b : List Byte) (x : EntryState) : (s.respond kind tag st b).entryIn x = s.entryIn x := rfl
@[simp] theorem State.respond_entryOf (kind tag : Byte) (st : Status) (b : List Byte) (x : Nat) : (s.respond kind tag st b).entryOf x = s.entryOf x := rfl
@[simp] theorem State.respond_freeCount (kind tag : Byte) (st : Status) (b : List Byte) : (s.respond kind tag st b).freeCount = s.freeCount := rfl
@[simp] theorem State.respond_captureLimit (kind tag : Byte) (st : Status) (b : List Byte) : (s.respond kind tag st b).captureLimit = s.captureLimit := rfl

end Sys2Proof.Machine
end

