-- ==== Sys2Proof/Laws/Vec.lean ====
section
/-! SUPPORT. Reading a fixed table after it is written, and what the ordered lists hold. -/

namespace Sys2Proof.Machine

variable {α β : Type} {n : Nat}

@[simp] theorem look_put_self (v : Vector α n) (i : Fin n) (a : α) : look (put v i a) i = a := by
  simp [look, put]

theorem look_put_ne (v : Vector α n) {i j : Fin n} (a : α) (h : j ≠ i) : look (put v i a) j = look v j := by
  simp [look, put, Ne.symm (Fin.val_ne_of_ne h)]

theorem look_put (v : Vector α n) (i j : Fin n) (a : α) :
    look (put v i a) j = if j = i then a else look v j := by
  by_cases h : j = i
  · subst h; simp
  · simp [h, look_put_ne v a h]

@[simp] theorem look_mapAll (f : α → β) (v : Vector α n) (i : Fin n) :
    look (mapAll f v) i = f (look v i) := by
  simp [look, mapAll]

@[simp] theorem look_tabulate (f : Fin n → α) (i : Fin n) : look (tabulate f) i = f i := by
  simp [look, tabulate]

@[simp] theorem look_replicate (a : α) (i : Fin n) : look (Vector.replicate n a) i = a := by
  simp [look]

@[simp] theorem put_look (v : Vector α n) (i : Fin n) : put v i (look v i) = v := by
  simp [look, put]

@[simp] theorem put_put (v : Vector α n) (i : Fin n) (a b : α) : put (put v i a) i b = put v i b := by
  simp [put]

/-- A fixed table as the list of its items by index. -/
theorem toList_eq_map_look (v : Vector α n) : v.toList = (List.finRange n).map (look v) := by
  apply List.ext_getElem <;> simp [look]

/-- Two fixed tables with the same items are the same. -/
theorem ext_look {v w : Vector α n} (h : ∀ i, look v i = look w i) : v = w := by
  apply Vector.ext
  intro i hi
  simpa [look] using h ⟨i, hi⟩

variable [DecidableEq α]

@[simp] theorem mem_insertBy (before : α → α → Bool) (a b : α) (l : List α) :
    b ∈ insertBy before a l ↔ b = a ∨ b ∈ l := by
  induction l with
  | nil => simp [insertBy]
  | cons c rest ih =>
    unfold insertBy
    by_cases hc : a = c
    · subst hc; simp
    · by_cases hb : before a c <;> simp [hc, hb, ih]
      tauto

@[simp] theorem mem_sortBy (before : α → α → Bool) (b : α) (l : List α) :
    b ∈ sortBy before l ↔ b ∈ l := by
  induction l with
  | nil => simp [sortBy]
  | cons c rest ih => simp [sortBy, ← ih]

/-- Inserting keeps a strictly ascending list strictly ascending, where the order is transitive and total. -/
theorem insertBy_pairwise {before : α → α → Bool}
    (trans : ∀ a b c, before a b = true → before b c = true → before a c = true)
    (total : ∀ a b, a ≠ b → before a b = false → before b a = true) (a : α) {l : List α}
    (h : l.Pairwise fun x y => before x y = true) :
    (insertBy before a l).Pairwise fun x y => before x y = true := by
  induction l with
  | nil => simp [insertBy]
  | cons b rest ih =>
    rw [List.pairwise_cons] at h
    unfold insertBy
    split
    · exact List.pairwise_cons.mpr h
    · rename_i hab
      split
      · rename_i hb
        refine List.pairwise_cons.mpr ⟨fun x hx => ?_, List.pairwise_cons.mpr h⟩
        rcases List.mem_cons.mp hx with rfl | hx
        · exact hb
        · exact trans _ _ _ hb (h.1 x hx)
      · rename_i hb
        refine List.pairwise_cons.mpr ⟨fun x hx => ?_, ih h.2⟩
        rcases (mem_insertBy before a x rest).mp hx with rfl | hx
        · exact total _ _ hab (by simpa using hb)
        · exact h.1 x hx

/-- A sorted list is strictly ascending. -/
theorem sortBy_pairwise {before : α → α → Bool}
    (trans : ∀ a b c, before a b = true → before b c = true → before a c = true)
    (total : ∀ a b, a ≠ b → before a b = false → before b a = true) (l : List α) :
    (sortBy before l).Pairwise fun x y => before x y = true := by
  induction l with
  | nil => exact List.Pairwise.nil
  | cons a rest ih => exact insertBy_pairwise trans total a ih

end Sys2Proof.Machine
end

