-- ==== Sys2Proof/Laws/Ops.lean ====
section
/-! SUPPORT. Reading after writing: what each reader of State gives after each update that changes it. -/

namespace Sys2Proof.Machine.State

variable (s : State)

/-! ## Cells and records -/

theorem cell_setCell (slot x : Slot) (c : SlotCell) :
    (s.setCell slot c).cell x = if x = slot then c else s.cell x :=
  look_put ..

@[simp] theorem cell_setCell_self (slot : Slot) (c : SlotCell) : (s.setCell slot c).cell slot = c := by
  simp [cell_setCell]

theorem recordAt_setCell (slot x : Slot) (c : SlotCell) :
    (s.setCell slot c).recordAt x = if x = slot then c.record else s.recordAt x := by
  simp only [recordAt, cell_setCell]; split <;> rfl

theorem recordAt_modRecord (slot x : Slot) (f : Record → Record) :
    (s.modRecord slot f).recordAt x = if x = slot then (s.recordAt slot).map f else s.recordAt x := by
  simp only [modRecord, recordAt_setCell]

@[simp] theorem recordAt_modRecord_self (slot : Slot) (f : Record → Record) :
    (s.modRecord slot f).recordAt slot = (s.recordAt slot).map f := by
  simp [recordAt_modRecord]

theorem recordAt_modRecord_ne {slot x : Slot} (f : Record → Record) (h : x ≠ slot) :
    (s.modRecord slot f).recordAt x = s.recordAt x := by
  simp [recordAt_modRecord, h]

@[simp] theorem tag_modRecord (slot x : Slot) (f : Record → Record) :
    ((s.modRecord slot f).cell x).tag = (s.cell x).tag := by
  simp only [modRecord, cell_setCell]; split
  · next h => rw [h]
  · rfl

@[simp] theorem handleOf_modRecord (slot x : Slot) (f : Record → Record) :
    (s.modRecord slot f).handleOf x = s.handleOf x := by
  simp [handleOf]

@[simp] theorem recordAt_mapRecords (x : Slot) (f : Record → Record) :
    (s.mapRecords f).recordAt x = (s.recordAt x).map f := by
  simp [recordAt, cell, mapRecords]

@[simp] theorem tag_mapRecords (x : Slot) (f : Record → Record) :
    ((s.mapRecords f).cell x).tag = (s.cell x).tag := by
  simp [cell, mapRecords]

@[simp] theorem handleOf_mapRecords (x : Slot) (f : Record → Record) :
    (s.mapRecords f).handleOf x = s.handleOf x := by
  simp [handleOf]

/-- A current handle names the record of its slot (R3). -/
theorem recordAt_of_current {s : State} {h : Handle} {r : Record} (hr : s.current? h = some r) :
    s.recordAt (slotOf h) = some r := by
  unfold current? at hr
  split at hr
  · exact hr
  · exact absurd hr (by simp)

@[simp] theorem current_modRecord (h : Handle) (slot : Slot) (f : Record → Record) :
    (s.modRecord slot f).current? h =
      if slotOf h = slot then (s.current? h).map f else s.current? h := by
  unfold current?
  rw [tag_modRecord, recordAt_modRecord]
  by_cases hs : slotOf h = slot
  · subst hs; simp only [if_true]; split <;> rfl
  · simp [hs]

/-! ## Books -/

theorem book_modBook (l x : LaneId) (f : LaneBook → LaneBook) :
    (s.modBook l f).book x = if x = l then f (s.book l) else s.book x :=
  look_put ..

@[simp] theorem book_modBook_self (l : LaneId) (f : LaneBook → LaneBook) :
    (s.modBook l f).book l = f (s.book l) := by
  simp [book_modBook]

theorem book_endEngagement (l x : LaneId) :
    (s.endEngagement l).book x = if x = l then { s.book l with engaged := none } else s.book x :=
  look_put ..

/-- The account raised (R61). -/
theorem book_enterAccount (l x : LaneId) (n : Nat) :
    (s.enterAccount l n).book x =
      if x = l then { s.book l with total := (s.book l).total + n, count := (s.book l).count + 1 }
      else s.book x :=
  look_put ..

@[simp] theorem storeTotal_enterAccount (l : LaneId) (n : Nat) :
    (s.enterAccount l n).table.storeTotal = s.table.storeTotal + n := rfl

/-- The account lowered (R62). -/
theorem book_leaveAccount (l x : LaneId) (n : Nat) :
    (s.leaveAccount l n).book x =
      if x = l then { s.book l with total := (s.book l).total - n, count := (s.book l).count - 1 }
      else s.book x :=
  look_put ..

@[simp] theorem storeTotal_leaveAccount (l : LaneId) (n : Nat) :
    (s.leaveAccount l n).table.storeTotal = s.table.storeTotal - n := rfl

/-- The account changed by a difference (R67). -/
theorem book_changeAccount (l x : LaneId) (n m : Nat) :
    (s.changeAccount l n m).book x =
      if x = l then { s.book l with total := (s.book l).total + m - n } else s.book x :=
  look_put ..

@[simp] theorem storeTotal_changeAccount (l : LaneId) (n m : Nat) :
    (s.changeAccount l n m).table.storeTotal = s.table.storeTotal + m - n := rfl

/-! ## Lanes -/

theorem lane_modLane (l x : LaneId) (f : Lane → Lane) :
    (s.modLane l f).lane x = if x = l then f (s.lane l) else s.lane x :=
  look_put ..

@[simp] theorem lane_modLane_self (l : LaneId) (f : Lane → Lane) : (s.modLane l f).lane l = f (s.lane l) := by
  simp [lane_modLane]

theorem lane_modLane_ne {l x : LaneId} (f : Lane → Lane) (h : x ≠ l) : (s.modLane l f).lane x = s.lane x := by
  simp [lane_modLane, h]

theorem lane_offer (l x : LaneId) (f : PartFrame) :
    (s.offer l f).lane x = if x = l then (s.lane l).offer f else s.lane x :=
  look_put ..

/-! ## Key entries -/

theorem entry_setEntry (i x : Fin 4) (e : KeyEntry) :
    (s.setEntry i e).entry x = if x = i then e else s.entry x :=
  look_put ..

@[simp] theorem entry_setEntry_self (i : Fin 4) (e : KeyEntry) : (s.setEntry i e).entry i = e := by
  simp [entry_setEntry]

@[simp] theorem highest_setEntry (i : Fin 4) (e : KeyEntry) :
    (s.setEntry i e).keys.highest = s.keys.highest := rfl

/-! ## The engine -/

@[simp] theorem queue_setQueue (q : List Job) : (s.setQueue q).engine.queue = q := rfl

@[simp] theorem service_setQueue (q : List Job) : (s.setQueue q).engine.service = s.engine.service := rfl

@[simp] theorem queue_setService (v : Service) : (s.setService v).engine.queue = s.engine.queue := rfl

@[simp] theorem service_setService (v : Service) : (s.setService v).engine.service = v := rfl

@[simp] theorem waiting_setWaiting (w : List Slot) : (s.setWaiting w).table.waiting = w := rfl

/-! ## The port -/

/-- A response formed: ANSWERING with the flags of the moment, the discarded-request mark cleared (R171,
R172). -/
theorem port_respond (kind tag : Byte) (st : Status) (b : List Byte) :
    (s.respond kind tag st b).port =
      { state := .answering
          { kind := kind, tag := tag, status := st
            flags := { discarded := s.port.discarded, attention := s.attentionOut,
                       startUnread := s.startUnread }
            body := b }
        discarded := false, sdo := s.port.sdo } := rfl

/-- The lowest-numbered entry in a state is in that state (R89). -/
theorem state_of_entryIn {s : State} {st : EntryState} {i : Fin 4} (h : s.entryIn st = some i) :
    (s.entry i).state = st := by
  have := List.find?_some h
  simpa using this

/-- The entry found for a generation carries it (R88). -/
theorem carries_of_entryOf {s : State} {g : Nat} {i : Fin 4} (h : s.entryOf g = some i) :
    (s.entry i).carries g = true := by
  have := List.find?_some h
  simpa using this

end Sys2Proof.Machine.State
end

