-- ==== Sys2Proof/Laws/Meanings.lean ====
section
/-! SUPPORT. What the shared steps of every meaning come to: a request taken by the port, a handle that is
current, a record changed, and an event in a running part. -/

namespace Sys2Proof.Machine

/-! ## Requests -/

/-- An accepted request transaction is answered by its owner's handler (R171). -/
theorem takeRequest_of_accepts {s : State} (h : s.accepts) (kind tag : Byte) (f : State → Reply) :
    takeRequest kind tag f s = (f s).finish kind tag := by
  simp [takeRequest, h.1, h.2]

/-- A request transaction that meets a busy port is discarded (R171). -/
theorem takeRequest_of_busy {s : State} (hr : s.phase = .running) (hp : s.port.state ≠ .idle)
    (kind tag : Byte) (f : State → Reply) :
    takeRequest kind tag f s = { s with port := { s.port with discarded := true } } := by
  unfold takeRequest
  rw [if_pos hr]
  cases h : s.port.state with
  | idle => exact absurd h hp
  | serving _ _ => rfl
  | answering _ => rfl

/-- During a start nothing is taken (R180). -/
theorem takeRequest_of_not_running {s : State} (h : s.phase ≠ .running) (kind tag : Byte)
    (f : State → Reply) : takeRequest kind tag f s = s := by
  simp [takeRequest, h]

@[simp] theorem finish_answer (kind tag : Byte) (s : State) (st : Status) (b : List Byte) :
    (Reply.answer s st b).finish kind tag = s.respond kind tag st b := rfl

/-- Every request is its owner's handler taken through the port (R170, R171). -/
theorem exec_request {i : Instr} {kind tag : Byte} {body : List Byte} {f : State → Reply}
    (hp : requestParts i = some (kind, tag, body)) (hf : handlerOf i = some f) (s : State) :
    exec i s = .next (takeRequest kind tag f s) := by
  cases i <;> cases hp <;> cases hf <;> rfl

/-- A command is a request when it has a handler, and then it has a frame. -/
theorem requestParts_of_handlerOf {i : Instr} {f : State → Reply} (h : handlerOf i = some f) :
    ∃ kind tag body, requestParts i = some (kind, tag, body) := by
  cases i <;> cases h <;> exact ⟨_, _, _, rfl⟩

/-! ## Items and outputs -/

/-- A frame that ends within its kind, tag and length is MALFORMED, with 0 in a place not reached (R170). -/
theorem judgeFrame_of_short {frame : List Byte} (h : frame.length < 4) :
    judgeFrame frame = .malformed (frame.getD 0 0) (frame.getD 1 0) := by
  unfold judgeFrame
  simp only
  rw [if_pos (Or.inr (by omega))]
  rfl

/-- The payment number of a body that has its two bytes (R137). -/
theorem paymentOf_eq {body : List Byte} (h : 2 ≤ body.length) :
    paymentOf body = 256 * (body.getD 0 0).toNat + (body.getD 1 0).toNat := by
  match body, h with
  | a :: c :: rest, _ => simp [paymentOf, numberOf]; omega

/-- The two digit places of a byte as numbers, the first from the upper half (R137). -/
theorem places_of_byte (b : Byte) :
    unpackPlaces [b] = [BitVec.ofNat 4 (b.toNat / 16), BitVec.ofNat 4 (b.toNat % 16)] := by
  revert b; decide

/-- An item that may be absent, by the bytes it has when it is present (R183). -/
theorem optional_map {α : Type} (size : Nat) (encode : α → List Byte) (o : Option α) :
    Machine.optional size encode o =
      match o.map encode with
      | some bytes => 1 :: bytes
      | none => 0 :: List.replicate size 0 := by
  cases o <;> rfl

/-- A timer in a response: absent when it is not running, and at 0 (R49). -/
theorem timerBytes_eq (o : Option Nat) :
    timerBytes o =
      match o with
      | some (k + 1) => 1 :: bytesOf 4 (k + 1)
      | some 0 => [0, 0, 0, 0, 0]
      | none => [0, 0, 0, 0, 0] := by
  rcases o with _ | _ | n <;> rfl

/-- SDO carries the idle byte throughout a request transaction and an ignored one (R170). -/
theorem sdoOut_not_read (s : State) {first : Byte} (h : first ≠ Config.readByte) (rest : List Byte) :
    s.sdoOut (first :: rest) = List.replicate (rest.length + 1) Config.idleByte := by
  simp [State.sdoOut, h]

/-- In a read transaction SDO carries the idle byte, then what the read carries (R172). -/
theorem sdoOut_read (s : State) (rest : List Byte) :
    s.sdoOut (Config.readByte :: rest) = Config.idleByte :: s.sdoRead rest.length := by
  simp [State.sdoOut]

/-- A read in ANSWERING carries the response, then the idle byte (R172). -/
theorem sdoRead_answering {s : State} {r : Response} (hp : s.phase = .running)
    (hr : s.port.state = .answering r) (n : Nat) : s.sdoRead n = sdoBytes r.frame n := by
  simp [State.sdoRead, hr, hp]

/-- A read with no response waiting carries the idle byte (R171). -/
theorem sdoRead_not_answering {s : State} (h : ∀ r, s.port.state ≠ .answering r) (n : Nat) :
    s.sdoRead n = List.replicate n Config.idleByte := by
  unfold State.sdoRead
  cases hs : s.port.state with
  | answering r => exact absurd hs (h r)
  | idle => simp [sdoBytes]
  | serving _ _ => simp [sdoBytes]

/-! ## Events -/

theorem whenRunning_of_running {s : State} (h : s.phase = .running) (f : State → State) :
    whenRunning f s = f s := if_pos h

theorem whenRunning_of_not_running {s : State} (h : s.phase ≠ .running) (f : State → State) :
    whenRunning f s = s := if_neg h

/-! ## Handles and records -/

theorem withRecord_of_current {h : Handle} {s : State} {r : Record} (hr : s.current? h = some r)
    (f : Slot → Record → State → Reply) : withRecord h f s = f (slotOf h) r s := by
  simp [withRecord, hr]

theorem withRecord_of_stale {h : Handle} {s : State} (hr : s.current? h = none)
    (f : Slot → Record → State → Reply) : withRecord h f s = refuse s .staleHandle := by
  simp [withRecord, hr]

/-- A handle is the number of its tag and its slot (R3). -/
theorem handleAt_of_parts (h : Handle) (tag : Tag) (ht : tag.val = tagOf h) :
    handleAt tag (slotOf h) = h := by
  apply BitVec.eq_of_toNat_eq
  have := h.isLt
  simp only [handleAt, slotOf, ht, tagOf, BitVec.toNat_ofNat]
  omega

/-- The current handle of the slot a current handle names is that handle (R3). -/
theorem handleOf_of_current {s : State} {h : Handle} {r : Record} (hr : s.current? h = some r) :
    s.handleOf (slotOf h) = h := by
  unfold State.current? at hr
  split at hr
  · next ht => exact handleAt_of_parts h _ ht
  · exact absurd hr (by simp)

/-- Changing the record of an occupied slot is putting the changed record there. -/
theorem modRecord_eq {s : State} {slot : Slot} {r : Record} (h : s.recordAt slot = some r)
    (f : Record → Record) : s.modRecord slot f = s.withRecordAt slot (f r) := by
  simp [State.modRecord, State.withRecordAt, h]

/-- A free slot stays free. -/
theorem modRecord_free {s : State} {slot : Slot} (h : s.recordAt slot = none) (f : Record → Record) :
    s.modRecord slot f = s := by
  have hc : (s.cell slot).record = none := h
  have : s.cell slot = { tag := (s.cell slot).tag, record := none } := by
    cases hx : s.cell slot; simp_all
  simp only [State.modRecord, State.setCell, h, Option.map_none]
  rw [← this]
  simp [State.cell]

theorem recordAt_withRecordAt (s : State) (slot x : Slot) (r : Record) :
    (s.withRecordAt slot r).recordAt x = if x = slot then some r else s.recordAt x := by
  simp [State.withRecordAt, State.recordAt_setCell]

@[simp] theorem tag_withRecordAt (s : State) (slot x : Slot) (r : Record) :
    ((s.withRecordAt slot r).cell x).tag = (s.cell x).tag := by
  simp only [State.withRecordAt, State.cell_setCell]
  split
  · next h => rw [h]
  · rfl

@[simp] theorem withRecordAt_twice (s : State) (slot : Slot) (r q : Record) :
    (s.withRecordAt slot r).withRecordAt slot q = s.withRecordAt slot q := by
  simp [State.withRecordAt, State.setCell, State.cell]

/-! ## A record put in place, and the other blocks -/

section
variable (s : State) (slot : Slot) (r : Record)

@[simp] theorem lane_withRecordAt (l : LaneId) : (s.withRecordAt slot r).lane l = s.lane l := rfl
@[simp] theorem book_withRecordAt (l : LaneId) : (s.withRecordAt slot r).book l = s.book l := rfl
@[simp] theorem entry_withRecordAt (i : Fin 4) : (s.withRecordAt slot r).entry i = s.entry i := rfl
@[simp] theorem timers_withRecordAt : (s.withRecordAt slot r).timers = s.timers := rfl
@[simp] theorem limits_withRecordAt : (s.withRecordAt slot r).limits = s.limits := rfl
@[simp] theorem engine_withRecordAt : (s.withRecordAt slot r).engine = s.engine := rfl
@[simp] theorem supply_withRecordAt : (s.withRecordAt slot r).supply = s.supply := rfl
@[simp] theorem storeTotal_withRecordAt :
    (s.withRecordAt slot r).table.storeTotal = s.table.storeTotal := rfl

@[simp] theorem recordAt_withRecordAt_self : (s.withRecordAt slot r).recordAt slot = some r := by
  simp [recordAt_withRecordAt]

theorem offer_withRecordAt (l : LaneId) (f : PartFrame) :
    (s.withRecordAt slot r).offer l f = (s.offer l f).withRecordAt slot r := rfl

theorem modBook_withRecordAt (l : LaneId) (f : LaneBook → LaneBook) :
    (s.withRecordAt slot r).modBook l f = (s.modBook l f).withRecordAt slot r := rfl

theorem endEngagement_withRecordAt (l : LaneId) :
    (s.withRecordAt slot r).endEngagement l = (s.endEngagement l).withRecordAt slot r := rfl

theorem enterAccount_withRecordAt (l : LaneId) (n : Nat) :
    (s.withRecordAt slot r).enterAccount l n = (s.enterAccount l n).withRecordAt slot r := rfl

theorem leaveAccount_withRecordAt (l : LaneId) (n : Nat) :
    (s.withRecordAt slot r).leaveAccount l n = (s.leaveAccount l n).withRecordAt slot r := rfl

theorem changeAccount_withRecordAt (l : LaneId) (n m : Nat) :
    (s.withRecordAt slot r).changeAccount l n m = (s.changeAccount l n m).withRecordAt slot r := rfl

theorem modLane_withRecordAt (l : LaneId) (f : Lane → Lane) :
    (s.withRecordAt slot r).modLane l f = (s.modLane l f).withRecordAt slot r := rfl
end

/-! ## Taking a counter (R99, R101) -/

/-- Below the limit a take returns the counter and advances it (R99). -/
theorem takeCounter_below {s : State} {g : Nat} {l : LaneId} {limit : Nat} {i : Fin 4}
    (hi : s.entryOf g = some i) (hc : look (s.entry i).counters l < limit) :
    s.takeCounter g l limit = some (look (s.entry i).counters l,
      let s' := s.setEntry i
        { s.entry i with counters := put (s.entry i).counters l (look (s.entry i).counters l + 1) }
      if look (s.entry i).counters l + 1 = s.limits.warning then s'.latchWarning l g else s') := by
  simp [State.takeCounter, hi, hc]

/-- At or above the limit, or without an entry, a take answers "spent" (R99). -/
theorem takeCounter_spent {s : State} {g : Nat} {l : LaneId} {limit : Nat}
    (h : ∀ i, s.entryOf g = some i → limit ≤ look (s.entry i).counters l) :
    s.takeCounter g l limit = none := by
  unfold State.takeCounter
  cases hi : s.entryOf g with
  | none => rfl
  | some i => simp [Nat.not_lt.mpr (h i hi)]

/-- A take changes the key entries and the counter warnings, nothing else (R99, R101). -/
theorem takeCounter_frame {s t : State} {g c : Nat} {l : LaneId} {limit : Nat}
    (h : s.takeCounter g l limit = some (c, t)) :
    t = { s with keys := t.keys, attention := t.attention } := by
  unfold State.takeCounter at h
  split at h
  · cases h
  · simp only at h
    split at h
    · split at h <;> cases h <;> rfl
    · cases h

/-! ## End frames (R44) -/

/-- An end frame on a READY lane is offered, and the delivery is QUEUED (R44). -/
theorem queueEndFrame_ready {s : State} {slot : Slot} {r : Record} (hr : s.recordAt slot = some r)
    (hd : r.delivery.value = .none) (hl : (s.lane r.lane).mode = .ready) (kind : EndFrameKind)
    (frame : Record → PartFrame) :
    s.queueEndFrame slot kind frame =
      (s.offer r.lane (frame r)).withRecordAt slot
        { r with delivery := { value := .queued, kind := some kind, sequence := none } } := by
  have h2 : (s.offer r.lane (frame r)).recordAt slot = some r := hr
  simp [State.queueEndFrame, hr, hd, hl, modRecord_eq h2]

/-- An end frame on a lane that is not READY is not offered: the delivery is UNCONFIRMED and the engagement
ends (R44, R48). -/
theorem queueEndFrame_not_ready {s : State} {slot : Slot} {r : Record} (hr : s.recordAt slot = some r)
    (hd : r.delivery.value = .none) (hl : (s.lane r.lane).mode ≠ .ready) (kind : EndFrameKind)
    (frame : Record → PartFrame) :
    s.queueEndFrame slot kind frame =
      (s.endEngagement r.lane).withRecordAt slot
        { r with delivery := { value := .unconfirmed, kind := some kind, sequence := none } } := by
  have h2 : (s.endEngagement r.lane).recordAt slot = some r := hr
  simp [State.queueEndFrame, hr, hd, hl, modRecord_eq h2]

/-- A delivery that has left NONE queues no second end frame (R17, R44). -/
theorem queueEndFrame_again {s : State} {slot : Slot} {r : Record} (hr : s.recordAt slot = some r)
    (hd : r.delivery.value ≠ .none) (kind : EndFrameKind) (frame : Record → PartFrame) :
    s.queueEndFrame slot kind frame = s := by
  simp [State.queueEndFrame, hr, hd]

/-- An end frame queued for a record just put in place, on a READY lane (R44). -/
theorem queueEndFrame_put_ready {s : State} {slot : Slot} {r : Record} (hd : r.delivery.value = .none)
    (hl : (s.lane r.lane).mode = .ready) (kind : EndFrameKind) (frame : Record → PartFrame) :
    (s.withRecordAt slot r).queueEndFrame slot kind frame =
      (s.offer r.lane (frame r)).withRecordAt slot
        { r with delivery := { value := .queued, kind := some kind, sequence := none } } := by
  rw [queueEndFrame_ready (recordAt_withRecordAt_self ..) hd hl, offer_withRecordAt, withRecordAt_twice]

/-- An end frame queued for a record just put in place, on a lane that is not READY (R44). -/
theorem queueEndFrame_put_not_ready {s : State} {slot : Slot} {r : Record}
    (hd : r.delivery.value = .none) (hl : (s.lane r.lane).mode ≠ .ready) (kind : EndFrameKind)
    (frame : Record → PartFrame) :
    (s.withRecordAt slot r).queueEndFrame slot kind frame =
      (s.endEngagement r.lane).withRecordAt slot
        { r with delivery := { value := .unconfirmed, kind := some kind, sequence := none } } := by
  rw [queueEndFrame_not_ready (recordAt_withRecordAt_self ..) hd hl, endEngagement_withRecordAt,
    withRecordAt_twice]

end Sys2Proof.Machine
end

