-- ==== Sys2Proof/Laws/Frames.lean ====
section
/-! SUPPORT. The frame of each shared operation: which fields of State it can change. Each is an equation of
states, so that a prover rewrites with it instead of unfolding the operation. -/

namespace Sys2Proof.Machine

/-- Changing a record changes the slots alone. -/
theorem modRecord_frame (s : State) (slot : Slot) (f : Record → Record) :
    s.modRecord slot f = { s with table := { s.table with slots := (s.modRecord slot f).table.slots } } := rfl

/-- Queueing an end frame changes the record table and the lanes alone (R44). -/
theorem queueEndFrame_frame (s : State) (slot : Slot) (kind : EndFrameKind) (frame : Record → PartFrame) :
    s.queueEndFrame slot kind frame =
      { s with
        table := (s.queueEndFrame slot kind frame).table
        lanes := (s.queueEndFrame slot kind frame).lanes } := by
  unfold State.queueEndFrame
  split
  · rfl
  · split
    · rfl
    · split
      · rfl
      · rfl

/-- A lane's leaving READY changes the record table alone (R54, R55). -/
theorem leaveReady_frame (s : State) (l : LaneId) (cause : LeaveCause) :
    s.leaveReady l cause = { s with table := (s.leaveReady l cause).table } := by
  unfold State.leaveReady
  split
  · rfl
  · split
    · rfl
    · split
      · rfl
      · rfl

/-- A fault changes the record table, the lanes and the attention causes alone (R157). -/
theorem faultLane_frame (s : State) (l : LaneId) (kind : ErrorKind) :
    s.faultLane l kind =
      { s with
        table := (s.faultLane l kind).table, lanes := (s.faultLane l kind).lanes
        attention := (s.faultLane l kind).attention } := by
  unfold State.faultLane
  dsimp only
  split
  · rw [leaveReady_frame]; rfl
  · rfl

/-- An error report changes the record table, the lanes and the attention causes alone (R153 to R157). -/
theorem reportError_frame (s : State) (l : LaneId) (kind : ErrorKind) :
    s.reportError l kind =
      { s with
        table := (s.reportError l kind).table, lanes := (s.reportError l kind).lanes
        attention := (s.reportError l kind).attention } := by
  unfold State.reportError State.thresholdActions
  dsimp only
  split
  · split
    · split
      · rw [faultLane_frame]; split <;> rfl
      · split <;> rfl
    · rfl
  · rfl

/-- A job that ends at once changes the slots alone (R82). -/
theorem endAtOnce_frame (s : State) (job : Job) :
    s.endAtOnce job = { s with table := { s.table with slots := (s.endAtOnce job).table.slots } } := by
  cases job with
  | followUp => rfl
  | capture => rfl
  | unwrap => rfl

/-- Admission changes the record table, the keys, the engine and the attention causes alone (R81). -/
theorem admitFrom_frame (slots : List Slot) (s : State) :
    State.admitFrom slots s =
      { s with
        table := (State.admitFrom slots s).table, keys := (State.admitFrom slots s).keys
        engine := (State.admitFrom slots s).engine
        attention := (State.admitFrom slots s).attention } := by
  induction slots generalizing s with
  | nil => rfl
  | cons slot rest ih =>
    unfold State.admitFrom
    split
    · rw [ih]
    · split
      · rw [ih]
      · split
        · rename_i h
          rw [takeCounter_frame h]; rfl
        · rw [ih]; rfl

/-- Serving from the head changes the record table, the keys, the engine and the attention causes alone
(R110). -/
theorem serveHead_frame (n : Nat) (s : State) :
    State.serveHead n s =
      { s with
        table := (State.serveHead n s).table, keys := (State.serveHead n s).keys
        engine := (State.serveHead n s).engine, attention := (State.serveHead n s).attention } := by
  induction n generalizing s with
  | zero => rfl
  | succ n ih =>
    unfold State.serveHead
    split
    · rfl
    · rename_i job rest _
      have h : ∀ t : State, (if job.isAutomatic = true then t.admitWaiting else t) =
          { t with
            table := (if job.isAutomatic = true then t.admitWaiting else t).table
            keys := (if job.isAutomatic = true then t.admitWaiting else t).keys
            engine := (if job.isAutomatic = true then t.admitWaiting else t).engine
            attention := (if job.isAutomatic = true then t.admitWaiting else t).attention } := by
        intro t
        split
        · exact admitFrom_frame _ _
        · rfl
      dsimp only
      split
      · rw [h]; rfl
      · rw [ih, endAtOnce_frame, h]; rfl

/-- Placing a job changes the record table, the keys, the engine and the attention causes alone (R109,
R110). -/
theorem placeJob_frame (s : State) (job : Job) :
    s.placeJob job =
      { s with
        table := (s.placeJob job).table, keys := (s.placeJob job).keys
        engine := (s.placeJob job).engine, attention := (s.placeJob job).attention } := by
  unfold State.placeJob
  dsimp only
  split
  · split
    · rfl
    · unfold State.serveNext; rw [serveHead_frame]; rfl
  · rfl
  · rfl

/-- Going on after a job changes the record table, the keys, the engine and the attention causes alone
(R110, R112). -/
theorem afterJob_frame (s : State) :
    s.afterJob =
      { s with
        table := s.afterJob.table, keys := s.afterJob.keys
        engine := s.afterJob.engine, attention := s.afterJob.attention } := by
  unfold State.afterJob
  split
  · rfl
  · unfold State.serveNext; rw [serveHead_frame]

/-- The answer to the request held in service changes the port alone (R171). -/
theorem respondHeld_frame (s : State) (status : Status) (body : List Byte) :
    s.respondHeld status body = { s with port := (s.respondHeld status body).port } := by
  unfold State.respondHeld
  split <;> rfl

end Sys2Proof.Machine
end

