-- ==== Sys2Proof/Laws/Engine.lean ====
section
/-! SUPPORT. Serving from the head of the queue: the bound of `serveHead` does not show, and neither does the
service position before it. -/

namespace Sys2Proof.Machine

/-! ## What admission places (R81) -/

@[simp] theorem endAtOnce_engine (s : State) (job : Job) : (s.endAtOnce job).engine = s.engine := by
  rw [endAtOnce_frame]

@[simp] theorem endAtOnce_waiting (s : State) (job : Job) :
    (s.endAtOnce job).table.waiting = s.table.waiting := by
  rw [endAtOnce_frame]

/-- A take leaves the engine alone (R99). -/
theorem takeCounter_engine {s t : State} {g c : Nat} {l : LaneId} {limit : Nat}
    (h : s.takeCounter g l limit = some (c, t)) : t.engine = s.engine := by
  rw [takeCounter_frame h]

/-- A job admitted comes from the WAITING set, so the two together do not grow (R81). -/
theorem admitFrom_measure (slots : List Slot) (s : State) :
    (State.admitFrom slots s).engine.queue.length + (State.admitFrom slots s).table.waiting.length ≤
      s.engine.queue.length + slots.length := by
  induction slots generalizing s with
  | nil => exact Nat.le_refl _
  | cons slot rest ih =>
    have skip (t : State) (h : t.engine = s.engine) :
        (State.admitFrom rest t).engine.queue.length + (State.admitFrom rest t).table.waiting.length ≤
          s.engine.queue.length + (slot :: rest).length := by
      have := ih t
      rw [h] at this
      rw [List.length_cons]; omega
    unfold State.admitFrom
    split
    · exact skip s rfl
    · split
      · exact skip s rfl
      · split
        · rename_i h
          simp [State.admitOne, State.setWaiting, State.setQueue, takeCounter_engine h, State.modRecord,
            State.setCell]
          omega
        · exact skip _ rfl

/-! ## The bound of serveHead (R110) -/

/-- One job of the queue enters service or ends at once. -/
theorem serveHead_cons (n : Nat) {s : State} {job : Job} {rest : List Job}
    (h : s.engine.queue = job :: rest) :
    State.serveHead (n + 1) s =
      (let left := s.setQueue rest
       let admitted := if job.isAutomatic then left.admitWaiting else left
       match admitted.gather job with
       | some inputs => admitted.setService (.serving job inputs)
       | none => State.serveHead n (admitted.endAtOnce job)) := by
  cases hg : (if job.isAutomatic then (s.setQueue rest).admitWaiting else s.setQueue rest).gather job <;>
    simp only [State.serveHead, h, hg]

theorem serveHead_nil (n : Nat) {s : State} (h : s.engine.queue = []) :
    State.serveHead (n + 1) s = s.setService .idle := by
  rw [State.serveHead, h]

/-- What is left to serve once a job has left the queue. -/
theorem left_measure (s : State) (job : Job) (rest : List Job) :
    (if job.isAutomatic then (s.setQueue rest).admitWaiting else s.setQueue rest).engine.queue.length +
        (if job.isAutomatic then (s.setQueue rest).admitWaiting
          else s.setQueue rest).table.waiting.length ≤
      rest.length + s.table.waiting.length := by
  split
  · exact admitFrom_measure s.table.waiting (s.setQueue rest)
  · exact Nat.le_refl _

/-- Any two bounds above what is left to serve give the same state. -/
theorem serveHead_bound (n m : Nat) (s : State)
    (hn : s.engine.queue.length + s.table.waiting.length < n)
    (hm : s.engine.queue.length + s.table.waiting.length < m) :
    State.serveHead n s = State.serveHead m s := by
  induction n generalizing m s with
  | zero => omega
  | succ n ih =>
    obtain ⟨m, rfl⟩ : ∃ k, m = k + 1 := ⟨m - 1, by omega⟩
    cases hq : s.engine.queue with
    | nil => rw [serveHead_nil n hq, serveHead_nil m hq]
    | cons job rest =>
      rw [serveHead_cons n hq, serveHead_cons m hq]
      have hl := left_measure s job rest
      rw [hq, List.length_cons] at hn hm
      dsimp only
      split
      · rfl
      · apply ih <;> simp only [endAtOnce_engine, endAtOnce_waiting] <;> omega

/-- Serving from the head, one job on: it enters service with its copies, or ends at once and the next is
served (R110, R111). -/
theorem serveNext_cons {s : State} {job : Job} {rest : List Job} (h : s.engine.queue = job :: rest) :
    s.serveNext =
      (let left := s.setQueue rest
       let admitted := if job.isAutomatic then left.admitWaiting else left
       match admitted.gather job with
       | some inputs => admitted.setService (.serving job inputs)
       | none => (admitted.endAtOnce job).serveNext) := by
  unfold State.serveNext
  rw [serveHead_cons _ h]
  have hl := left_measure s job rest
  dsimp only
  split
  · rfl
  · apply serveHead_bound <;> simp only [endAtOnce_engine, endAtOnce_waiting, h, List.length_cons] <;>
      omega

theorem serveNext_nil {s : State} (h : s.engine.queue = []) : s.serveNext = s.setService .idle :=
  serveHead_nil _ h

/-! ## The service position before serving does not show -/

theorem takeCounter_setService (s : State) (v : Service) (g : Nat) (l : LaneId) (limit : Nat) :
    (s.setService v).takeCounter g l limit =
      (s.takeCounter g l limit).map fun x => (x.1, x.2.setService v) := by
  unfold State.takeCounter
  change (match s.entryOf g with | none => _ | some i => _) = _
  cases s.entryOf g with
  | none => rfl
  | some i =>
    dsimp only
    change (if look (s.entry i).counters l < limit then _ else _) = _
    split
    · change some (_, if look (s.entry i).counters l + 1 = s.limits.warning then _ else _) = _
      rw [Option.map_some]
      split <;> rfl
    · rfl

theorem admitFrom_setService (slots : List Slot) (s : State) (v : Service) :
    State.admitFrom slots (s.setService v) = (State.admitFrom slots s).setService v := by
  induction slots generalizing s with
  | nil => rfl
  | cons slot rest ih =>
    unfold State.admitFrom
    change (match s.recordAt slot with | none => _ | some r => _) = _
    cases s.recordAt slot with
    | none => exact ih s
    | some r =>
      dsimp only
      cases r.binding with
      | none => exact ih s
      | some b =>
        dsimp only
        rw [takeCounter_setService]
        cases s.takeCounter b.generation r.lane Config.counterSpent with
        | none => exact ih (s.modRecord slot fun r => r.failFollowUp r.waitingIndex .reversal)
        | some x => rfl

theorem endAtOnce_setService (s : State) (job : Job) (v : Service) :
    (s.setService v).endAtOnce job = (s.endAtOnce job).setService v := by
  cases job <;> rfl

theorem serveHead_setService (n : Nat) (s : State) (v : Service)
    (hn : s.engine.queue.length + s.table.waiting.length < n) :
    State.serveHead n (s.setService v) = State.serveHead n s := by
  induction n generalizing s with
  | zero => omega
  | succ n ih =>
    cases hq : s.engine.queue with
    | nil => rw [serveHead_nil n (s := s) hq, serveHead_nil n (s := s.setService v) hq]; rfl
    | cons job rest =>
      rw [serveHead_cons n (s := s) hq, serveHead_cons n (s := s.setService v) hq]
      have hl := left_measure s job rest
      rw [hq, List.length_cons] at hn
      have hv : (if job.isAutomatic then ((s.setService v).setQueue rest).admitWaiting
            else (s.setService v).setQueue rest) =
          (if job.isAutomatic then (s.setQueue rest).admitWaiting else s.setQueue rest).setService v := by
        split
        · exact admitFrom_setService s.table.waiting (s.setQueue rest) v
        · rfl
      dsimp only
      rw [hv]
      generalize (if job.isAutomatic then (s.setQueue rest).admitWaiting else s.setQueue rest) = t at hl ⊢
      change (match t.gather job with | some inputs => _ | none => _) = _
      cases t.gather job with
      | some inputs => rfl
      | none =>
        dsimp only
        rw [endAtOnce_setService]
        apply ih
        simp only [endAtOnce_engine, endAtOnce_waiting]
        omega

/-- What is served does not depend on what the service position held. -/
theorem serveNext_setService (s : State) (v : Service) : (s.setService v).serveNext = s.serveNext :=
  serveHead_setService _ s v (Nat.lt_succ_self _)

end Sys2Proof.Machine
end

