-- ==== Sys2Proof/WellFormed.lean ====
section
/-! DEFINITION. Which commands are well formed. A store request's fields have their wire widths, so every
value of them is a frame the port can receive; what the rules check further they answer with a status.
The checks below are on the events whose operands must agree with what the row says happened. -/

namespace Sys2Proof

/-- The first byte makes the transaction a request transaction (R170). -/
def isRequestTransaction (bytes : List Byte) : Bool :=
  bytes.head? == some Config.requestStartByte

/-- A command is well formed when its operands can belong to the event its row names: the bytes of a
request transaction begin with the request start byte (R170), a fall below the level lies below the
highest level there is, a rise above the recovery level lies above the lowest one, a fall to the
recovery level is not above the highest one (R160), and a supply that has settled holds the volatile
state (R160, R180). -/
def Instr.wellFormed : Instr → Bool
  | .requestFrameRefused bytes => isRequestTransaction bytes
  | .requestDiscarded bytes => isRequestTransaction bytes
  | .supplyBelowLevel mv => decide (mv < 3200)
  | .supplyAboveRecoveryLevel mv => decide (2950 < mv)
  | .supplyBelowRecoveryLevel mv => decide (mv ≤ 3250)
  | .supplySettled mv => decide (Config.powerHold ≤ mv)
  | .arm .. | .abandon .. | .take .. | .peek .. | .settle .. | .confirm .. | .reject .. | .adjust ..
  | .void .. | .collect .. | .retire .. | .readRecord .. | .find .. | .laneList .. | .tableStatus ..
  | .exposureRead .. | .setLimits .. | .setTimers .. | .keyLoad .. | .keyRoll .. | .keyDrop ..
  | .keyStatus .. | .laneHold .. | .laneOpen .. | .laneSetup .. | .laneStatus .. | .laneClear ..
  | .nextAttention .. | .attentionMask .. | .caseRead .. | .startRead .. | .commission .. | .restart ..
  | .readTransaction .. | .storeTick | .presentTimerExpiry .. | .outcomeTimerExpiry ..
  | .deliveryTimerExpiry .. | .deferredLifeExpiry .. | .captureCompletion | .followUpCompletion
  | .keyUnwrapCompletion | .lineCharacter .. | .lineBreak .. | .gap .. | .assemblerTakeByte ..
  | .readerHello .. | .readerCard .. | .waitingCardDispatch .. | .readerCancel .. | .readerAck ..
  | .badlyFormedFrame .. | .frameMoveToTransmitFifo .. | .transmitCharacter .. | .holdInChange ..
  | .recoveryTimerExpiry | .engineSupplyChange | .caseLineChange .. | .powerApplied | .resetAsserted
  | .resetReleased | .lineReturnToMark .. => true

end Sys2Proof
end

