-- ==== Sys2Proof/Tests/Slice0.lean ====
section
/-! SUPPORT. The model's own tests: ill-formed commands that the check refuses, the vectors of the standards
and of the spec, one step of each kind on a small state, and for each statement with hypotheses a state and
operands that meet them together. -/

namespace Sys2Proof.Tests

open Sys2Proof.Machine

/-! ## Well-formedness -/

theorem test_refused_frame_needs_its_start_byte :
    (Instr.requestFrameRefused [0x00]).wellFormed = false ∧
      (Instr.requestFrameRefused [0xA5]).wellFormed = true := by decide

theorem test_discarded_frame_needs_its_start_byte :
    (Instr.requestDiscarded []).wellFormed = false ∧
      (Instr.requestDiscarded [0xA5, 1]).wellFormed = true := by decide

theorem test_fall_below_every_level :
    (Instr.supplyBelowLevel 3200).wellFormed = false ∧
      (Instr.supplyBelowLevel 3199).wellFormed = true := by decide

theorem test_rise_above_no_recovery_level :
    (Instr.supplyAboveRecoveryLevel 2950).wellFormed = false ∧
      (Instr.supplyAboveRecoveryLevel 2951).wellFormed = true := by decide

theorem test_fall_above_every_recovery_level :
    (Instr.supplyBelowRecoveryLevel 3251).wellFormed = false ∧
      (Instr.supplyBelowRecoveryLevel 3250).wellFormed = true := by decide

theorem test_settled_supply_holds_the_state :
    (Instr.supplySettled 2699).wellFormed = false ∧
      (Instr.supplySettled 2700).wellFormed = true := by decide

/-! ## Vectors -/

theorem test_check_of_the_digits :
    checkBytes [0x31, 0x32, 0x33, 0x34, 0x35, 0x36, 0x37, 0x38, 0x39] = [0x29, 0xB1] := by
  decide +kernel

/-- FIPS 197, Appendix B. -/
theorem test_aes_encipher :
    Aes.encipher 0x2b7e151628aed2a6abf7158809cf4f3c 0x3243f6a8885a308d313198a2e0370734 =
      0x3925841d02dc09fbdc118597196a0b32 := by decide +kernel

theorem test_aes_decipher :
    Aes.decipher 0x2b7e151628aed2a6abf7158809cf4f3c 0x3925841d02dc09fbdc118597196a0b32 =
      0x3243f6a8885a308d313198a2e0370734 := by decide +kernel

/-- RFC 4493, example 3: a message of 40 bytes. -/
theorem test_check_with_a_short_last_block :
    check64 0x2b7e151628aed2a6abf7158809cf4f3c
      (bytesOf 40 0x6bc1bee22e409f96e93d7e117393172aae2d8a571e03ac9c9eb76fac45af8e5130c81c46a35ce411) =
      0xdfa66747de9ae630 := by decide +kernel

/-- A frame of each body shape, judged to its request (R170, R184). -/
theorem test_request_frames_are_judged_to_their_requests :
    ([ .arm 1 2 4500 0xDEADBEEF, .settle 2 2048 1 0x414243313233 7, .confirm 3 2048 1 0x303030303030,
       .adjust 4 2049 5000, .collect 5 2050 1, .find 6 1 3 700 9, .laneList 7 15 64, .tableStatus 8,
       .setLimits 9 (Vector.replicate 8 { present := 1, value := 0x01020304 }),
       .setTimers 10 120 60 15 72 1 2, .keyLoad 11 5 0x0123456789abcdef 0xfedcba98, .keyStatus 12 1 4,
       .laneSetup 13 2 (Vector.replicate 16 { present := 1, value := 2 }), .attentionMask 14 0xFF 0x8001,
       .commission 15 1 2 978 2 0x2b7e1516 3 1 4, .restart 16 ] : List Instr).all
      (fun i => (requestFrame i).any fun frame => judgeFrame frame.tail = .passed i) = true := by
  decide +kernel

/-- READ RECORD of handle 0801h with tag 5, written out by Table 12-1 and R184. -/
theorem test_a_frame_written_by_hand :
    requestFrame (.readRecord 5 0x0801) =
      some ([0xA5, 12, 5, 0, 2, 0x08, 0x01] ++ checkBytes [12, 5, 0, 2, 0x08, 0x01]) := by
  decide +kernel

/-! ## A small state -/

/-- An ACTIVE entry of generation 1. -/
def activeEntry : KeyEntry :=
  { state := .active
    material := some { generation := 1, key := 0x2b7e151628aed2a6abf7158809cf4f3c, checkValue := 7 }
    bindings := 1, counters := Vector.replicate 16 5 }

/-- A PENDING entry of generation 2. -/
def pendingEntry : KeyEntry :=
  { state := .pending, material := some { generation := 2, key := 1, checkValue := 8 }
    bindings := 0, counters := Vector.replicate 16 0 }

/-- A commissioning record with two fitted lanes. -/
def demoCommission : Commissioning :=
  { chain := 1, store := 2, currency := 978, exponent := 2, transportKey := 3, fitted := 2
    eraseOnOpen := true, level := .v300 }

/-- A READY lane that expects sequence 1. -/
def readyLane : Lane :=
  { startLane .ready false with reader := some { expected := 1, identity := 9, firmware := 1 } }

/-- A commissioned part with one ACTIVE and one PENDING generation and lane 0 READY. -/
def demo : State :=
  { State.reset with
    commission := some demoCommission
    keys := { entries := put (put startKeys.entries 0 activeEntry) 1 pendingEntry, highest := 2 }
    lanes := put (startLanes (some demoCommission) State.reset.lanes) 0 readyLane }

/-- A card block within the limits of R147. -/
def demoCard : CardBlock :=
  { digits := List.replicate 16 4, year := 30, month := 12, entry := .dip, verify := .chipPin
    chip := [1, 2] }

/-- A record of lane 0 in a state, bound and with its card and payload. -/
def demoRecord (st : PaymentState) : Record :=
  { lane := 0, payment := 1, till := 77, state := st, original := 4500, current := 4500
    endReason := none, binding := some { generation := 1, counter := 4 }, bound := true
    summary := some { entry := .dip, issuerDigits := [], lastFour := [], verify := .chipPin }
    card := some demoCard, payload := some [1, 2, 3], outcome := none
    delivery := { value := .none, kind := none, sequence := none }, followUps := []
    stateTimer := none, deliveryTimer := none, cancelPending := none, late := false, ended := false }

/-- A state with a record in slot 0, the engaged one of lane 0; its handle is 2048. -/
def holding (s : State) (r : Record) : State :=
  { s with table := { s.table with
      slots := put s.table.slots 0 { tag := 1, record := some r }
      free := (List.finRange 2048).tail
      books := put s.table.books 0
        { startBook with list := [0], engaged := some 2048, total := 4500, count := 1 }
      storeTotal := 4500 } }

/-- A state with a frame in the slot of lane 0. -/
def framed (s : State) (kind sequence : Byte) (body : List Byte) : State :=
  s.modLane 0 fun L =>
    { L with assembler := .stalled, slot := some { kind := kind, sequence := sequence, body := body } }

/-- A state with a job in service. -/
def serving (s : State) (job : Job) (inputs : JobInputs) : State :=
  { s with engine := { queue := [], service := .serving job inputs } }

/-- The copies of a job for the demo record. -/
def demoInputs : WrapInputs :=
  { card := demoCard, payment := 1, captureCounter := 4, amount := 4500, chain := 1, store := 2
    currency := 978, key := 0x2b7e151628aed2a6abf7158809cf4f3c }

/-- The body of a CARD frame for payment 1, with an expiry month. -/
def cardBody (month : Byte) : List Byte :=
  [0, 1, 2, 16] ++ List.replicate 8 0x44 ++ [0xFF, 0xFF, 30, month, 2, 2, 1, 2]

theorem demo_accepts : demo.accepts := ⟨rfl, rfl⟩

theorem holding_accepts (r : Record) : (holding demo r).accepts := ⟨rfl, rfl⟩

theorem holding_current (s : State) (r : Record) : (holding s r).current? 2048 = some r := by
  simp [State.current?, State.recordAt, State.cell, holding, slotOf, tagOf]

theorem holding_recordAt (s : State) (r : Record) : (holding s r).recordAt 0 = some r := by
  simp [State.recordAt, State.cell, holding]


/-! ## Witnesses: each statement's hypotheses met together

Named after the statement. Where clauses split a range, the witness stands at its boundary. -/

theorem witness_StepRunsTheFrontCommand :
    ({ demo with pending := [.storeTick] } : State).pending = [.storeTick] ∧ demo.pending = [] ∧
      step demo = .next demo := ⟨rfl, rfl, rfl⟩

theorem witness_StartsLeaveTheStartValues :
    ({ demo with phase := .starting .power } : State).phase = .starting .power ∧ 2700 ≤ 2700 ∧
      demo.phase = .running ∧
      ({ demo with phase := .starting .pin } : State).phase = .starting .pin ∧
      demo.phase ≠ .starting .power ∧ 2699 < 2700 ∧ (0xA5 : Byte) ≠ 0x5A := by decide

/-- An output in each of its cases: nothing eligible, a response waiting, a lane that holds out. -/
theorem witness_StartsLeaveTheStartValues_outputs :
    demo.attentionOut = false ∧
      ({ demo with attention := { demo.attention with table := true } } : State).attentionOut = true ∧
      demo.answerOut = false ∧
      ({ demo with port :=
          { state := .answering
              { kind := 12, tag := 1, status := .done, body := []
                flags := { discarded := false, attention := false, startUnread := false } }
            discarded := false, sdo := [] } } : State).sdoOut [0x5A, 0, 0] = [0xFF, 0xC3, 12] ∧
      demo.sdoOut [0xA5, 12, 5] = [0xFF, 0xFF, 0xFF] ∧ demo.sdoOut [0x5A, 0] = [0xFF, 0xFF] ∧
      demo.holdOut 0 = false ∧ demo.holdOut 15 = true := by decide +kernel

theorem witness_RequestFramesDecodeToTheirRequests : (requestFrame (.tableStatus 8)).isSome = true := by
  decide

/-- The flags byte of a response with the first and the last indication. -/
theorem test_flags_byte :
    ({ discarded := true, attention := false, startUnread := true } : ResponseFlags).byte = 5 := by decide

/-- A response of nine bytes on the bus. -/
def emptyResponse (kind : Byte) (status : Status) : Response :=
  { kind := kind, tag := 1, status := status
    flags := { discarded := false, attention := false, startUnread := false }, body := [] }

/-- A state that answers a request. -/
def answering (s : State) (r : Response) : State :=
  { s with port := { s.port with state := .answering r } }

theorem witness_PortAnswersAndIsRead :
    demo.phase = .running ∧ demo.port.state = .idle ∧
      (answering demo (emptyResponse 12 .done)).port.state = .answering (emptyResponse 12 .done) ∧
      8 < (emptyResponse 12 .done).frame.length ∧ (emptyResponse 12 .done).frame.length ≤ 9 ∧
      (emptyResponse 33 .done).kind = 33 ∧ (emptyResponse 33 .done).frame.length ≤ 9 :=
  ⟨rfl, rfl, rfl, by decide +kernel, by decide +kernel, rfl, by decide +kernel⟩

/-- A frame too short, one with a wrong check, one of an unknown kind and one of a wrong length. -/
theorem witness_PortRefusesAndDiscards :
    judgeFrame [12, 5, 0, 2, 8] = .malformed 12 5 ∧
      judgeFrame [12, 5, 0, 2, 8, 1, 0, 0] = .malformed 12 5 ∧
      judgeFrame ([99, 5, 0, 0] ++ checkBytes [99, 5, 0, 0]) = .unknownRequest 99 5 ∧
      judgeFrame ([12, 5, 0, 0] ++ checkBytes [12, 5, 0, 0]) = .malformed 12 5 ∧
      (handlerOf (.tableStatus 1)).isSome = true ∧
      (answering demo (emptyResponse 12 .done)).port.state ≠ .idle := by
  refine ⟨by decide +kernel, by decide +kernel, by decide +kernel, by decide +kernel, rfl, ?_⟩
  intro h; exact PortState.noConfusion h

/-- Frames that end within the length, kinds at the ends of the table, a part in a start and one without its
supply, and a first byte of neither kind. -/
theorem witness_PortRefusesAndDiscards_not_taken :
    judgeFrame [12, 5] = .malformed 12 5 ∧ judgeFrame [12, 5, 0] = .malformed 12 5 ∧
      ([0] : List Byte).length < 2 ∧ requestLength 0 = none ∧ requestLength 1 = some 9 ∧
      requestLength 33 = some 0 ∧ 34 ≤ (34 : Byte).toNat ∧ requestLength 34 = none ∧
      ({ demo with phase := .starting .pin } : State).phase ≠ .running ∧
      ({ demo with phase := .unpowered } : State).phase ≠ .running ∧
      (0 : Byte) ≠ 0xA5 ∧ (0 : Byte) ≠ 0x5A := by
  refine ⟨by decide, by decide, by decide, by decide, by decide, by decide, by decide, by decide,
    by decide, by decide, by decide, by decide⟩

/-! ### Invariants -/

theorem demo_recordAt (slot : Slot) : demo.recordAt slot = none := by
  simp [State.recordAt, State.cell, demo, State.reset, startTable]

theorem demo_free : demo.table.free = List.finRange 2048 := by
  dsimp only [demo, State.reset, startTable]

theorem demo_deferredAmount (l : LaneId) (slot : Slot) : demo.deferredAmount l slot = 0 := by
  simp [State.deferredAmount, demo_recordAt]

theorem demo_deferredOne (l : LaneId) (slot : Slot) : demo.deferredOne l slot = 0 := by
  simp [State.deferredOne, demo_recordAt]

theorem witness_SettingsStayInRange : demo.settingsInRange ∧ step demo = .next demo := by
  refine ⟨⟨?_, ?_, ?_⟩, rfl⟩
  · unfold Limits.inRange; decide
  · unfold TimerSettings.inRange; decide
  · unfold LaneSettings.inRange; decide +kernel

theorem witness_LanesStayWellFormed : demo.lanesWellFormed := by
  unfold State.lanesWellFormed Lane.bounded Lane.quiet; decide +kernel

theorem witness_SharesStayWithinCapacity : demo.sharesHold := by
  unfold State.sharesHold; decide +kernel

theorem witness_SlotsStayPartitioned : demo.slotsPartitioned := by
  have hbook : ∀ l : LaneId, (demo.book l).list = [] := by decide +kernel
  refine ⟨demo_free ▸ List.nodup_finRange _, fun slot => ?_, fun l => ?_, fun l slot => ?_⟩
  · simp [demo_recordAt, demo_free]
  · simp [hbook]
  · simp [demo_recordAt, hbook]

theorem witness_AccountStaysExact : demo.accountHolds := by
  refine ⟨fun l => ?_, fun l => ?_, ?_⟩
  · simp only [demo_deferredAmount, Finset.sum_const_zero]; revert l; decide +kernel
  · simp only [demo_deferredOne, Finset.sum_const_zero]; revert l; decide +kernel
  · decide +kernel

/-- The invariant of records holds beside a record in each state it describes. -/
theorem demoRecord_wellFormed : (demoRecord .wrapped).WellFormed ∧ (demoRecord .released).WellFormed := by
  refine ⟨⟨?_, ?_, ?_, ?_, ?_, ?_, ?_, ?_, ?_, ?_, ?_, ?_, ?_, ?_⟩,
    ⟨?_, ?_, ?_, ?_, ?_, ?_, ?_, ?_, ?_, ?_, ?_, ?_, ?_, ?_⟩⟩ <;> decide

theorem holding_recordAt_other (s : State) (r : Record) (slot : Slot) (h : slot ≠ 0) :
    (holding s r).recordAt slot = s.recordAt slot := by
  simp [State.recordAt, State.cell, holding, look_put_ne _ _ h]

theorem witness_RecordsStayWellFormed : (holding demo (demoRecord .wrapped)).recordsWellFormed := by
  intro slot r h
  by_cases e : slot = 0
  · subst e; rw [holding_recordAt] at h; cases h; exact demoRecord_wellFormed.1
  · rw [holding_recordAt_other _ _ _ e, demo_recordAt] at h; cases h

theorem witness_KeyTableStaysWellFormed : demo.keysWellFormed := by
  unfold State.keysWellFormed KeyEntry.WellFormed; decide +kernel

/-- A record stands in slot 0 before and after the step. -/
theorem witness_RecordIdentityIsKept :
    (holding demo (demoRecord .wrapped)).recordAt 0 = some (demoRecord .wrapped) ∧
      step (holding demo (demoRecord .wrapped)) = .next (holding demo (demoRecord .wrapped)) :=
  ⟨holding_recordAt _ _, rfl⟩

theorem holding_slotsPartitioned (r : Record) (hr : r.lane = 0) : (holding demo r).slotsPartitioned := by
  have hfree : (holding demo r).table.free = (List.finRange 2048).tail := by
    dsimp only [holding]
  have hcons : (List.finRange 2048) = (0 : Slot) :: (List.finRange 2048).tail := by
    rw [List.finRange_succ, List.tail_cons]
  have hnd := List.nodup_finRange 2048
  rw [hcons, List.nodup_cons] at hnd
  have hmem : ∀ slot : Slot, slot ∈ (List.finRange 2048).tail ↔ slot ≠ 0 := by
    intro slot
    have h := List.mem_finRange slot
    rw [hcons, List.mem_cons] at h
    constructor
    · rintro h' rfl; exact hnd.1 h'
    · intro h'; exact h.resolve_left h'
  have hbook : ∀ l : LaneId, ((holding demo r).book l).list = if l = 0 then [0] else [] := by
    intro l
    by_cases e : l = 0
    · subst e; simp [holding, State.book]
    · simp [holding, State.book, look_put, e, demo, State.reset, startTable, startBook]
  refine ⟨hfree ▸ hnd.2, fun slot => ?_, fun l => ?_, fun l slot => ?_⟩
  · rw [hfree, hmem]
    by_cases e : slot = 0
    · subst e; simp [holding_recordAt]
    · simp [holding_recordAt_other _ _ _ e, demo_recordAt, e]
  · rw [hbook]; split <;> simp
  · rw [hbook]
    by_cases e : slot = 0
    · subst e; by_cases e' : l = 0 <;> simp [holding_recordAt, hr, e', eq_comm]
    · by_cases e' : l = 0 <;> simp [holding_recordAt_other _ _ _ e, demo_recordAt, e, e']

theorem witness_RecordsMoveAlongTheirTransitions :
    (holding demo (demoRecord .wrapped)).slotsPartitioned ∧
      (holding demo (demoRecord .wrapped)).recordAt 0 = some (demoRecord .wrapped) :=
  ⟨holding_slotsPartitioned _ rfl, holding_recordAt _ _⟩

/-- The job of the demo record. -/
def demoJob : Job := .capture 2048 0 1 4

/-- A record being captured. -/
def capturingRecord : Record := { demoRecord .capturing with payload := none }

/-- The small state with a capture in its queue, the engine HELD. -/
def captureQueued : State :=
  { holding demo capturingRecord with engine := { queue := [demoJob], service := .held } }

theorem captureQueued_recordAt (slot : Slot) :
    captureQueued.recordAt slot = if slot = 0 then some capturingRecord else none := by
  change (holding demo capturingRecord).recordAt slot = _
  by_cases e : slot = 0
  · subst e; simp [holding_recordAt]
  · simp [holding_recordAt_other _ _ _ e, demo_recordAt, e]

/-- The one record of the state is the one found in any slot. -/
theorem captureQueued_of_recordAt {slot : Slot} {r : Record} (h : captureQueued.recordAt slot = some r) :
    slot = 0 ∧ r = capturingRecord := by
  rw [captureQueued_recordAt] at h
  split at h
  · next e => exact ⟨e, (Option.some.inj h).symm⟩
  · cases h

theorem filter_slot_zero {slots : List Slot} (h : slots.Nodup) (hm : 0 ∈ slots) :
    (slots.filter fun x => decide (x = 0)).length = 1 := by
  have := List.count_eq_one_of_mem h hm
  rwa [List.count, List.countP_eq_length_filter] at this

theorem captureQueued_boundCount (g : Nat) :
    captureQueued.boundCount g = if g = 1 then 1 else 0 := by
  have h : ∀ slot : Slot, ((captureQueued.recordAt slot).any fun r => r.boundTo g) =
      decide (slot = 0 ∧ g = 1) := by
    intro slot
    rw [captureQueued_recordAt]
    by_cases e : slot = 0
    · simp [e, capturingRecord, demoRecord, Record.boundTo, eq_comm]
    · simp [e]
  unfold State.boundCount
  simp only [h]
  by_cases hg : g = 1
  · simp only [hg, and_true, if_true]
    exact filter_slot_zero (List.nodup_finRange _) (List.mem_finRange _)
  · simp [hg]

theorem captureQueued_material {i : Fin 4} {m : KeyMaterial}
    (h : (captureQueued.entry i).material = some m) :
    i = 0 ∧ m = { generation := 1, key := 0x2b7e151628aed2a6abf7158809cf4f3c, checkValue := 7 } ∨
      i = 1 ∧ m = { generation := 2, key := 1, checkValue := 8 } := by
  have he : ∀ i, captureQueued.entry i =
      if i = 0 then activeEntry else if i = 1 then pendingEntry else KeyEntry.vacant := by decide +kernel
  rw [he] at h
  split at h
  · next e => exact Or.inl ⟨e, (Option.some.inj h).symm⟩
  · split at h
    · next e => exact Or.inr ⟨e, (Option.some.inj h).symm⟩
    · cases h

/-- A state whose blocks agree, with a key in use and a job waiting. -/
theorem captureQueued_consistent : captureQueued.Consistent := by
  have hr : capturingRecord.WellFormed := by
    refine ⟨?_, ?_, ?_, ?_, ?_, ?_, ?_, ?_, ?_, ?_, ?_, ?_, ?_, ?_⟩ <;> decide
  have hc : captureQueued.current? 2048 = some capturingRecord := holding_current _ _
  refine ⟨holding_slotsPartitioned _ rfl, ?_, ?_, ?_, ⟨?_, ?_⟩, ⟨?_, ?_, ?_, ?_⟩, ⟨?_, ?_, ?_⟩,
    ⟨?_, ?_⟩, ⟨?_, ?_, ?_, ?_⟩⟩
  · intro slot r h; obtain ⟨_, rfl⟩ := captureQueued_of_recordAt h; exact hr
  · unfold State.keysWellFormed KeyEntry.WellFormed; decide +kernel
  · unfold State.sharesHold; decide +kernel
  · intro l h he
    have hb : ∀ l, (captureQueued.book l).engaged = if l = 0 then some 2048 else none := by
      decide +kernel
    rw [hb] at he
    split at he
    · next e => obtain rfl := Option.some.inj he; exact ⟨_, hc, e.symm, rfl⟩
    · cases he
  · intro slot r h _
    obtain ⟨rfl, rfl⟩ := captureQueued_of_recordAt h
    decide +kernel
  · decide +kernel
  · intro i j m n hi hj hg
    rcases captureQueued_material hi with ⟨rfl, rfl⟩ | ⟨rfl, rfl⟩ <;>
      rcases captureQueued_material hj with ⟨rfl, rfl⟩ | ⟨rfl, rfl⟩
    · rfl
    · cases hg
    · cases hg
    · rfl
  · intro i m hi
    rcases captureQueued_material hi with ⟨rfl, rfl⟩ | ⟨rfl, rfl⟩ <;> decide
  · decide
  · intro i m hi
    rw [captureQueued_boundCount]
    rcases captureQueued_material hi with ⟨rfl, rfl⟩ | ⟨rfl, rfl⟩ <;> decide +kernel
  · intro slot r b h _ hb
    obtain ⟨rfl, rfl⟩ := captureQueued_of_recordAt h
    obtain rfl := Option.some.inj hb
    exact ⟨0, by decide +kernel, Or.inl (by decide +kernel)⟩
  · intro slot r h ha
    obtain ⟨rfl, rfl⟩ := captureQueued_of_recordAt h
    cases ha
  · intro job hj
    obtain rfl : job = demoJob := List.mem_singleton.mp hj
    exact ⟨_, hc, rfl, rfl, rfl⟩
  · decide +kernel
  · exact List.Pairwise.nil
  · intro slot
    constructor
    · intro h; cases h
    · rintro ⟨r, h, f, hf, _⟩
      obtain ⟨_, rfl⟩ := captureQueued_of_recordAt h
      cases hf
  · intro slot r f h hf
    obtain ⟨_, rfl⟩ := captureQueued_of_recordAt h
    cases hf
  · intro h; exact absurd rfl h

/-- The premises of the clauses about states whose blocks agree: such a state, and a step from it. -/
theorem witness_Consistent : captureQueued.Consistent ∧ step captureQueued = .next captureQueued :=
  ⟨captureQueued_consistent, rfl⟩

theorem witness_CountersAreNotHandedOutTwice :
    demo.keysWellFormed ∧ step demo = .next demo ∧ (demo.entry 0).material = activeEntry.material ∧
      (demo.takeCounter 1 0 65536).map (fun x => (x.1, x.2.entryOf 1,
        (x.2.takeCounter 1 0 65536).map fun y => y.1)) = some (5, some 0, some 6) :=
  ⟨witness_KeyTableStaysWellFormed, rfl, rfl, rfl⟩

/-! ### Requests on payments -/

/-- The nine checks of R27, in their order. -/
def armChecks (s : State) (lane : Byte) (amount : Word) : List (Bool × Status) :=
  [ (s.commission.isNone, .notCommissioned),
    (decide (15 < lane.toNat ∨ amount.toNat = 0 ∨ 99999999 < amount.toNat), .range),
    (decide (∀ l, laneOf lane = some l → (s.lane l).mode ≠ .ready), .laneNotReady),
    (decide (s.supply.state = .low), .supplyLow),
    (decide (∀ l, laneOf lane = some l → (s.book l).engaged ≠ none), .laneEngaged),
    (decide (∀ i, (s.entry i).state ≠ .active), .keyMissing),
    (decide (∀ l, laneOf lane = some l → ∀ i, s.entryIn .active = some i →
      65536 - s.limits.reserve ≤ look (s.entry i).counters l), .keySpent),
    (decide (∀ l, laneOf lane = some l → s.limits.share ≤ (s.book l).list.length), .laneShare),
    (s.table.free.isEmpty, .tableFull) ]

/-- The small state with LOW supply. -/
def lowDemo : State := { demo with supply := { demo.supply with state := .low } }

/-- The small state with lane 0's counter of the ACTIVE entry at a value. -/
def counterDemo (c : Nat) : State :=
  demo.setEntry 0 { activeEntry with counters := put activeEntry.counters 0 c }

theorem witness_ArmIsRefusedInOrder :
    firstFailing (armChecks State.reset 0 4500) = some .notCommissioned ∧
      firstFailing (armChecks demo 16 4500) = some .range ∧
      firstFailing (armChecks demo 0 0) = some .range ∧
      firstFailing (armChecks demo 0 100000000) = some .range ∧
      firstFailing (armChecks demo 1 4500) = some .laneNotReady ∧
      firstFailing (armChecks lowDemo 0 4500) = some .supplyLow ∧
      firstFailing (armChecks (holding demo (demoRecord .armed)) 0 4500) = some .laneEngaged ∧
      firstFailing (armChecks { demo with keys := startKeys } 0 4500) = some .keyMissing ∧
      firstFailing (armChecks (counterDemo 65280) 0 4500) = some .keySpent ∧
      firstFailing (armChecks (counterDemo 65279) 0 4500) = none ∧
      firstFailing (armChecks
        { (holding demo (demoRecord .lapsed)).modBook 0 (fun b => { b with engaged := none }) with
          limits := { demo.limits with share := 1 } } 0 4500) = some .laneShare ∧
      firstFailing (armChecks { demo with table := { demo.table with free := [] } } 0 4500) =
        some .tableFull := by
  decide +kernel

theorem witness_ArmAllocatesAndPresents :
    demo.accepts ∧ demo.commission = some demoCommission ∧ laneOf 0 = some 0 ∧
      1 ≤ (1 : Word).toNat ∧ (99999999 : Word).toNat ≤ 99999999 ∧ (demo.lane 0).mode = .ready ∧
      demo.supply.state = .normal ∧ (demo.book 0).engaged = none ∧ demo.entryIn .active = some 0 ∧
      look (demo.entry 0).counters 0 < 65536 - demo.limits.reserve ∧
      (demo.book 0).list.length < demo.limits.share ∧ ∃ rest, demo.table.free = 0 :: rest := by
  refine ⟨demo_accepts, rfl, rfl, by decide, by decide, rfl, rfl, rfl, rfl, by decide +kernel,
    by decide +kernel, (List.finRange 2048).tail, ?_⟩
  rw [demo_free, List.finRange_succ, List.tail_cons]

theorem witness_AbandonActsByState :
    (holding demo (demoRecord .armed)).current? 2048 = some (demoRecord .armed) ∧
      slotOf 2048 = 0 ∧ (demoRecord .capturing).cancelPending = none ∧
      ((holding demo (demoRecord .capturing)).setQueue [demoJob]).engine.queue.any
        (Job.isCaptureOf 2048) = true ∧
      (serving (holding demo (demoRecord .capturing)) demoJob (.wrap demoInputs)).engine.queue.any
        (Job.isCaptureOf 2048) = false ∧
      (holding demo { demoRecord .capturing with cancelPending := some .reader }).current? 2048 =
        some { demoRecord .capturing with cancelPending := some .reader } ∧
      (demoRecord .approved).state.isEngaging = false :=
  ⟨holding_current _ _, by decide, rfl, by decide, rfl, holding_current _ _, rfl⟩

/-- An entry with its payload. -/
def readyEntry : FollowUp :=
  { kind := .adjust, amount := 5000, counter := some 5, status := .ready, payload := some [9] }

/-- An APPROVED record with a READY entry. -/
def collectible : Record := { demoRecord .approved with followUps := [readyEntry] }

theorem witness_PayloadsAreHandedOver :
    (holding demo (demoRecord .wrapped)).accepts ∧
      (holding demo (demoRecord .wrapped)).current? 2048 = some (demoRecord .wrapped) ∧
      (demoRecord .wrapped).payload = some [1, 2, 3] ∧ (demoRecord .released).state ≠ .wrapped ∧
      (holding demo collectible).current? 2048 = some collectible ∧
      (0 : Byte).toNat ≤ 2 ∧ collectible.followUps[(0 : Byte).toNat]? = some readyEntry :=
  ⟨holding_accepts _, holding_current _ _, rfl, by decide, holding_current _ _, by decide, rfl⟩

theorem witness_PeekReturnsThePayload :
    demo.accepts ∧ demo.current? 2048 = none ∧
      (holding demo (demoRecord .declined)).current? 2048 = some (demoRecord .declined) ∧
      (demoRecord .declined).payload = some [1, 2, 3] ∧
      (holding demo { demoRecord .armed with payload := none }).current? 2048 =
        some { demoRecord .armed with payload := none } := by
  refine ⟨demo_accepts, ?_, holding_current _ _, rfl, holding_current _ _⟩
  simp [State.current?, demo_recordAt]

/-- The state under limits. -/
def withCeilings (s : State) (floor lane store : Nat) : State :=
  { s with limits := { s.limits with floor := floor, laneCeiling := lane, storeCeiling := store } }

/-- SETTLE: its record, codes at their bounds, and limits on both sides of each check of R60. -/
theorem witness_SettlePostsTheOutcome :
    (holding demo (demoRecord .released)).accepts ∧
      (holding demo (demoRecord .released)).current? 2048 = some (demoRecord .released) ∧
      (demoRecord .released).delivery.value = .none ∧
      (codeBytes 0x30395A413039).all isCodeChar = true ∧ (99 : Byte).toNat ≤ 99 ∧
      ((holding demo (demoRecord .released)).lane 0).mode = .ready ∧
      ((holding { demo with lanes := State.reset.lanes } (demoRecord .released)).lane 0).mode ≠ .ready ∧
      (∃ s, s = withCeilings (holding demo (demoRecord .released)) 4499 9000 9000 ∧
        s.limits.floor < 4500) ∧
      (∃ s, s = withCeilings (holding demo (demoRecord .released)) 4500 8999 9000 ∧
        s.limits.laneCeiling < (s.book 0).total + 4500) ∧
      (∃ s, s = withCeilings (holding demo (demoRecord .released)) 4500 9000 8999 ∧
        s.limits.storeCeiling < s.table.storeTotal + 4500) ∧
      ∃ s, s = withCeilings (holding demo (demoRecord .released)) 4500 9000 9000 ∧
        4500 ≤ s.limits.floor ∧ (s.book 0).total + 4500 ≤ s.limits.laneCeiling ∧
        s.table.storeTotal + 4500 ≤ s.limits.storeCeiling :=
  ⟨holding_accepts _, holding_current _ _, rfl, by decide, by decide, by decide +kernel,
    by decide +kernel, ⟨_, rfl, by decide +kernel⟩, ⟨_, rfl, by decide +kernel⟩,
    ⟨_, rfl, by decide +kernel⟩, _, rfl, by decide +kernel⟩

/-- An entry in work. -/
def wrappingEntry : FollowUp := { readyEntry with status := .wrapping, payload := none }

/-- A queue of fifteen requested jobs. -/
def fullShare : List Job := List.replicate 15 (.followUp .adjust .requested 2048 0 0 1 5)

/-- What makes each check of the requests on a record fail. -/
theorem witness_RecordRequestsAreRefusedInOrder :
    demo.accepts ∧ (demo.current? 2048).isNone = true ∧
      (∀ st, (holding demo (demoRecord st)).current? 2048 = some (demoRecord st)) ∧
      (holding demo collectible).current? 2048 = some collectible ∧
      ((holding demo (demoRecord .approved)).setQueue fullShare).requestedCount = 15 ∧
      look ((counterDemo 65536).entry 0).counters 0 = 65536 ∧ (counterDemo 65536).entryOf 1 = some 0 ∧
      ({ demoRecord .approved with card := none, bound := false } : Record).card.isNone = true ∧
      ({ demoRecord .approved with followUps := [wrappingEntry] } : Record).followUps ≠ [] ∧
      (100 : Byte).toNat = 99 + 1 ∧ (codeBytes 0).all isCodeChar = false ∧
      (demoRecord .armed).closed = false := by
  refine ⟨demo_accepts, ?_, fun st => holding_current _ _, holding_current _ _, by decide, by decide,
    by decide, rfl, by decide, by decide, by decide, by decide⟩
  simp [State.current?, demo_recordAt]

/-- A DEFERRED record with its outcome. -/
def deferredRecord : Record :=
  { demoRecord .deferred with
    outcome := some { result := .defer, approval := none, decline := none } }

theorem witness_ConfirmAndRejectLeaveTheAccount :
    (holding demo deferredRecord).accepts ∧
      (holding demo deferredRecord).current? 2048 = some deferredRecord ∧
      (codeBytes 0x303030303030).all isCodeChar = true ∧
      deferredRecord.outcome = some { result := .defer, approval := none, decline := none } ∧
      ∀ f ∈ deferredRecord.followUps, f.status ≠ .wrapping :=
  ⟨holding_accepts _, holding_current _ _, by decide, rfl, by decide⟩

theorem witness_AdjustCeilingFollowsTheCap :
    (holding demo (demoRecord .approved)).current? 2048 = some (demoRecord .approved) ∧
      (0 : Word).toNat < 1 ∧ 1 ≤ (1 : Word).toNat ∧
      (5625 : Word).toNat = adjustCeiling demo.limits.adjustCap 4500 := by
  refine ⟨holding_current _ _, by decide, by decide, by decide +kernel⟩

/-- ADJUST and VOID: the record, the counter taken, and the ceilings on both sides. -/
theorem witness_AdjustAndVoidAddAFollowUp :
    (holding demo (demoRecord .deferred)).accepts ∧
      (holding demo (demoRecord .approved)).current? 2048 = some (demoRecord .approved) ∧
      (holding demo (demoRecord .deferred)).current? 2048 = some (demoRecord .deferred) ∧
      (5625 : Word).toNat ≤ adjustCeiling demo.limits.adjustCap (demoRecord .deferred).original ∧
      (demoRecord .deferred).card.isSome = true ∧
      (demoRecord .deferred).binding = some { generation := 1, counter := 4 } ∧
      ((holding demo (demoRecord .deferred)).setQueue (fullShare.drop 1)).requestedCount = 14 ∧
      (∃ s', (holding demo (demoRecord .deferred)).takeCounter 1 0 65536 = some (5, s')) ∧
      (∃ s, s = withCeilings (holding demo (demoRecord .deferred)) 0 5624 0 ∧
        s.limits.laneCeiling < (s.book 0).total + (5625 - 4500)) ∧
      (∃ s, s = withCeilings (holding demo (demoRecord .deferred)) 0 5625 5624 ∧
        (s.book 0).total + (5625 - 4500) ≤ s.limits.laneCeiling ∧
        s.limits.storeCeiling < s.table.storeTotal + (5625 - 4500)) ∧
      ∃ s, s = withCeilings (holding demo (demoRecord .deferred)) 0 5625 5625 ∧
        s.table.storeTotal + (5625 - 4500) ≤ s.limits.storeCeiling :=
  ⟨holding_accepts _, holding_current _ _, holding_current _ _, by decide +kernel, rfl, rfl,
    by decide, ⟨_, rfl⟩, ⟨_, rfl, by decide +kernel⟩, ⟨_, rfl, by decide +kernel⟩, _, rfl,
    by decide +kernel⟩

/-- A closed record, bound to the one binding of a DRAINING entry. -/
theorem witness_RetireFreesTheSlot :
    (holding demo (demoRecord .declined)).current? 2048 = some (demoRecord .declined) ∧
      (demoRecord .declined).closed = true ∧
      (demo.setEntry 0 { activeEntry with state := .draining }).entryOf 1 = some 0 ∧
      activeEntry.bindings = 1 ∧ (demo.entryOf 1 = some 0) ∧ (demo.entry 0).state ≠ .draining := by
  refine ⟨holding_current _ _, by decide, by decide, rfl, by decide, by decide⟩

/-- A closed record with its follow-ups settled, one with a follow-up left to collect, one with its delivery
open; and a generation number that joins a list once. -/
theorem witness_RetireFreesTheSlot_closed :
    ({ demoRecord .approved with
        followUps := [{ readyEntry with status := .collected }] } : Record).closed = true ∧
      collectible.closed = false ∧
      ({ demoRecord .approved with
          delivery := { value := .sent, kind := some .outcome, sequence := some 3 } } : Record).closed =
        false ∧
      [1, 3].Pairwise (fun a b => a < b) ∧
      insertBy (fun x y => decide (x < y)) 2 [1, 3] = [1, 2, 3] ∧
      insertBy (fun x y => decide (x < y)) 3 [1, 3] = [1, 3] := by decide

theorem witness_ReadingRequestsAnswer :
    (holding demo (demoRecord .armed)).current? 2048 = some (demoRecord .armed) ∧
      laneOf 0 = some 0 ∧ laneOf 15 = some 15 ∧ laneOf 16 = none ∧ (2047 : Half).toNat ≤ 2047 ∧
      ((holding demo (demoRecord .armed)).book 0).list.filter
        (fun x => ((holding demo (demoRecord .armed)).recordAt x).any
          fun r => r.payment = (1 : Half).toNat) = [0] ∧
      ∃ rest, (List.finRange 2048).filter
        (fun x => ((holding demo (demoRecord .armed)).recordAt x).any fun r => r.till = 77) =
          0 :: rest := by
  refine ⟨holding_current _ _, by decide, by decide, by decide, by decide, by decide +kernel, ?_⟩
  rw [List.finRange_succ, List.filter_cons_of_pos (by simp [holding_recordAt, demoRecord])]
  exact ⟨_, rfl⟩

/-- The refusals: a handle not current, values just outside their ranges, and nothing to find. -/
theorem witness_ReadingRequestsAnswer_refusals :
    demo.current? 2048 = none ∧ 15 < (16 : Byte).toNat ∧ 2047 < (2048 : Half).toNat ∧
      1 < (2 : Byte).toNat ∧ (0 : Byte) ≠ 1 ∧ (0 : Byte) ≠ 2 ∧ (demo.book 0).list = [] ∧
      ∀ x, demo.recordAt x = none :=
  ⟨by decide +kernel, by decide, by decide, by decide, by decide, by decide, by decide +kernel,
    demo_recordAt⟩

theorem witness_SettingsAreReplacedWithinTheirRanges :
    demo.accepts ∧
      (look (Vector.replicate 8 { present := 2, value := 0 } : Vector OptWord 8) 0).present ≠ 0 ∧
      (look (Vector.replicate 8 { present := 0, value := 0 } : Vector OptWord 8) 6).present = 0 ∧
      (∀ i, (look (Vector.replicate 8 { present := 1, value := 16 } : Vector OptWord 8) i).present = 1) ∧
      10 ≤ (10 : Half).toNat ∧ (900 : Half).toNat ≤ 900 ∧ 2 ≤ (2 : Byte).toNat ∧
      (120 : Byte).toNat ≤ 120 ∧ (168 : Byte).toNat ≤ 168 :=
  ⟨demo_accepts, by decide, by decide, by decide, by decide, by decide, by decide, by decide, by decide⟩

/-! ### Keys and the engine -/

/-- The checks of R90, each failing first; generation 3 with no PENDING entry passes. -/
theorem witness_KeyLoadIsCheckedThenHeld :
    demo.accepts ∧ State.reset.commission.isNone = true ∧ demo.keys.highest = 2 ∧
      (demo.entry 1).state = .pending ∧ lowDemo.supply.state = .low ∧
      (demo.setEntry 1 KeyEntry.vacant).caseMon.current = .closed ∧
      (∀ i, ((demo.setEntry 1 KeyEntry.vacant).entry i).state ≠ .pending) ∧
      ((demo.setEntry 1 KeyEntry.vacant).entry 1).state = .empty := by
  refine ⟨demo_accepts, rfl, rfl, rfl, rfl, by decide, by decide +kernel, by decide⟩

theorem witness_KeyRollAndKeyDropTurnTheEntries :
    demo.accepts ∧ State.reset.accepts ∧ State.reset.commission = none ∧
      (∀ i, ((demo.setEntry 1 KeyEntry.vacant).entry i).state ≠ .pending) ∧
      demo.entryIn .pending = some 1 ∧ (demo.entry 1).material = pendingEntry.material ∧
      demo.entryIn .active = some 0 ∧ (demo.entry 0).material = activeEntry.material ∧
      0 < (demo.entry 0).bindings ∧
      ((demo.setEntry 0 { activeEntry with bindings := 0 }).entry 0).bindings = 0 ∧
      (∀ i, ((demo.setEntry 0 KeyEntry.vacant).entry i).state ≠ .active) ∧
      demo.entryOf (2 : Half).toNat = some 1 ∧ demo.entryOf (1 : Half).toNat = some 0 ∧
      demo.entryOf (3 : Half).toNat = none :=
  ⟨demo_accepts, ⟨rfl, rfl⟩, rfl, by decide +kernel, by decide, rfl, by decide, rfl, by decide,
    by decide, by decide +kernel, by decide, by decide, by decide⟩

theorem witness_TakingACounterAdvancesIt :
    demo.entryOf 1 = some 0 ∧ look (demo.entry 0).counters 0 = 5 ∧
      demo.takeCounter 1 0 5 = none ∧ (demo.takeCounter 1 0 6).isSome = true ∧
      look ((counterDemo 59999).entry 0).counters 0 + 1 = (counterDemo 59999).limits.warning := by
  refine ⟨by decide, by decide, ?_, ?_, by decide +kernel⟩
  · rfl
  · rfl

/-- An unwrap of generation 3 with a check that holds or does not. -/
def demoUnwrap (check : BitVec 64) : Job := .unwrap 3 0x55 check

/-- The small state with that unwrap in service and its KEY LOAD held. -/
def unwrapping (check : BitVec 64) : State :=
  serving { demo with port := { demo.port with state := .serving 19 1 } } (demoUnwrap check) (.unwrap 3)

theorem unwrapping_holds (check : BitVec 64) :
    (unwrapping check).phase = .running ∧
      (unwrapping check).engine.service = .serving (.unwrap 3 0x55 check) (.unwrap 3) ∧
      (unwrapping check).port.state = .serving 19 1 := ⟨rfl, rfl, rfl⟩

/-- The completions: a capture with and without a cancel pending, a follow-up, an unwrap. -/
theorem witness_CompletionsReportTheirResult :
    (serving (holding demo (demoRecord .capturing)) demoJob (.wrap demoInputs)).phase = .running ∧
      (serving (holding demo (demoRecord .capturing)) demoJob (.wrap demoInputs)).recordAt (slotOf 2048) =
        some (demoRecord .capturing) ∧
      (serving (holding demo { demoRecord .approved with followUps := [wrappingEntry] })
        (.followUp .adjust .requested 2048 0 0 1 5) (.wrap demoInputs)).recordAt (slotOf 2048) =
        some { demoRecord .approved with followUps := [wrappingEntry] } ∧
      check64 3 (bytesOf 2 3 ++ blockBytes 0x55) ≠ 0 ∧
      (∃ check, check64 3 (bytesOf 2 3 ++ blockBytes 0x55) = check) ∧
      (demo.entry 2).state = .empty ∧ (∀ j, j < (2 : Fin 4) → (demo.entry j).state ≠ .empty) :=
  ⟨rfl, holding_recordAt _ _, holding_recordAt _ _, by decide +kernel, ⟨_, rfl⟩, by decide +kernel,
    by decide +kernel⟩

/-- The small state with its engine HELD. -/
def heldDemo (queue : List Job) : State := { demo with engine := { queue := queue, service := .held } }

/-- A LAPSED record whose REVERSAL waits. -/
def waitingRecord : Record :=
  { demoRecord .lapsed with followUps :=
      [{ kind := .reversal, amount := 4500, counter := none, status := .waiting, payload := none }] }

theorem witness_EngineServesAndAdmitsInOrder :
    (heldDemo []).engine.service = .held ∧ demo.engine = { queue := [], service := .idle } ∧
      demoJob.isAutomatic = false ∧ ((holding demo (demoRecord .capturing)).gather demoJob).isSome = true ∧
      (heldDemo [demoJob]).engine.queue = [demoJob] ∧ (heldDemo []).supply.state = .normal ∧
      lowDemo.engine.service = .idle ∧ lowDemo.supply.state = .low ∧
      (holding demo waitingRecord).recordAt 0 = some waitingRecord ∧
      waitingRecord.followUps.findIdx (fun e => decide (e.status = .waiting)) = 0 ∧
      (∃ s', (holding demo waitingRecord).takeCounter 1 0 65536 = some (5, s')) ∧
      (holding (counterDemo 65536) waitingRecord).takeCounter 1 0 65536 = none := by
  refine ⟨rfl, rfl, rfl, ?_, rfl, rfl, rfl, rfl, holding_recordAt _ _, rfl, ⟨_, rfl⟩, rfl⟩
  decide +kernel

/-- An automatic job at the head, a reversal waiting in slot 0. -/
def admitting (c : Nat) (r : Record) : State :=
  { (holding (counterDemo c) r).setWaiting [0] with
    engine := { queue := [.followUp .reversal .automatic 2048 0 0 1 5], service := .held } }

/-- An automatic job enters service or ends at once, and a requested one of a record without its card. -/
theorem witness_EngineServesAndAdmitsInOrder_heads :
    (Job.followUp .reversal .automatic 2048 0 0 1 5).isAutomatic = true ∧
      ((State.admitFrom [0] ((admitting 5 waitingRecord).setQueue [])).gather
        (.followUp .reversal .automatic 2048 0 0 1 5)).isSome = true ∧
      (State.admitFrom [0] ((admitting 65536 waitingRecord).setQueue [])).gather
        (.followUp .reversal .automatic 2048 0 0 1 5) = none ∧
      (admitting 5 waitingRecord).engine.service = .held ∧
      (admitting 5 waitingRecord).supply.state = .normal ∧
      (holding demo { demoRecord .lapsed with card := none }).current? 2048 =
        some { demoRecord .lapsed with card := none } ∧
      demo.periodKey? 1 = some 0x2b7e151628aed2a6abf7158809cf4f3c := by
  refine ⟨rfl, ?_, ?_, rfl, ?_, holding_current _ _, ?_⟩ <;> decide +kernel

/-- The automatic job enters service and the waiting reversal takes its place in the queue with counter 5. -/
theorem test_admission :
    let t := State.engineSupply (admitting 5 waitingRecord)
    t.engine.queue = [.followUp .reversal .automatic 2048 0 0 1 5] ∧ t.table.waiting = [] ∧
      (t.recordAt 0).map (fun r => r.followUps.map fun f => (f.status, f.counter)) =
        some [(.wrapping, some 5)] := by decide +kernel

/-! ### Timers -/

/-- A record whose state timer has run out. -/
def timedOut (st : PaymentState) (action : Option TimerAction) : Record :=
  { demoRecord st with stateTimer := some { remaining := 0, action := action } }

/-- A record whose end frame is SENT and whose delivery timer has run out. -/
def unanswered : Record :=
  { demoRecord .approved with
    delivery := { value := .sent, kind := some .outcome, sequence := some 3 }, deliveryTimer := some 0 }

theorem witness_TickAndExpiriesActOnTheirRecords :
    (∀ st action, (holding demo (timedOut st action)).recordAt 0 = some (timedOut st action) ∧
      (timedOut st action).stateTimer = some { remaining := 0, action := action }) ∧
      (holding demo unanswered).recordAt 0 = some unanswered ∧
      unanswered.delivery = { value := .sent, kind := some .outcome, sequence := some 3 } ∧
      unanswered.deliveryTimer = some 0 :=
  ⟨fun _ _ => ⟨holding_recordAt _ _, rfl⟩, holding_recordAt _ _, rfl, rfl⟩

/-- A queue of eight automatic jobs, or of seven. -/
theorem witness_LapsesAddTheirReversal :
    (holding demo (demoRecord .lapsed)).recordAt 0 = some (demoRecord .lapsed) ∧
      ({ demoRecord .lapsed with card := none } : Record).card = none ∧
      (demoRecord .lapsed).card ≠ none ∧
      (holding (counterDemo 65536) (demoRecord .lapsed)).takeCounter 1 0 65536 = none ∧
      (∃ s', (holding demo (demoRecord .lapsed)).takeCounter 1 0 65536 = some (5, s')) ∧
      ((holding demo (demoRecord .lapsed)).setQueue
        (List.replicate 8 (.followUp .reversal .automatic 2049 0 0 1 5))).automaticCount = 8 ∧
      ((holding demo (demoRecord .lapsed)).setQueue
        (List.replicate 7 (.followUp .reversal .automatic 2049 0 0 1 5))).automaticCount = 7 :=
  ⟨holding_recordAt _ _, rfl, by decide, rfl, ⟨_, rfl⟩, by decide, by decide⟩

theorem witness_PayloadsHaveTheirLayout :
    demoJob.payloadKind ≠ 0 ∧ demoInputs.card.digits.length ≤ 20 ∧ demoInputs.card.chip.length ≤ 96 ∧
      (payloadOf demoJob { demoInputs with card := { demoCard with chip := List.replicate 96 0 } }).length ≤
        160 ∧
      (padded (content demoJob demoInputs)).length % 16 = 0 ∧
      16 * (1 + 1) ≤ (padded (content demoJob demoInputs)).length ∧
      (unwrapInput 3 0x55).length % 16 ≠ 0 :=
  ⟨by decide, by decide, by decide, by decide +kernel, by decide +kernel, by decide +kernel, by decide⟩

/-! ### Lanes -/

/-- The small state with lane 0 changed. -/
def laneDemo (f : Lane → Lane) : State := demo.modLane 0 f

/-- A receive FIFO of some bytes. -/
def filled (n : Nat) : State := laneDemo fun L => { L with rxFifo := List.replicate n (.byte 0) }

theorem witness_LineReceiverFillsTheFifo :
    demo.phase = .running ∧ (demo.lane 0).runs = true ∧ (demo.lane 0).rxLine = .mark ∧
      ((filled 127).lane 0).fill = 127 ∧ ((filled 128).lane 0).fill = 128 ∧
      ((laneDemo fun L => { L with rxLine := .stopAtSpace }).lane 0).rxLine = .stopAtSpace ∧
      ((laneDemo fun L => { L with rxLine := .inBreak }).lane 0).rxLine = .inBreak := by
  refine ⟨rfl, rfl, rfl, by decide +kernel, by decide +kernel, rfl, rfl⟩

/-- A record with its end frame in a delivery state. -/
def delivering (value : DeliveryValue) : Record :=
  { demoRecord .approved with
    delivery := { value := value, kind := some .outcome, sequence := some 3 } }

theorem witness_BreaksAndLeavingReady :
    (demo.lane 0).rxLine ≠ .inBreak ∧ (demo.lane 0).mode = .ready ∧ (demo.lane 1).mode = .down ∧
      (demo.book 0).engaged = none ∧
      (∀ r, ((holding demo r).book 0).engaged = some 2048 ∧ (holding demo r).current? 2048 = some r) ∧
      (delivering .queued).delivery.value = .queued ∧ (delivering .sent).delivery.value = .sent ∧
      (demoRecord .wrapped).delivery.value = .none ∧
      ((laneDemo fun L => { L with mode := .held }).lane 0).runs = false := by
  refine ⟨by decide, rfl, rfl, rfl, fun r => ⟨rfl, holding_current _ _⟩, rfl, rfl, rfl, rfl⟩

theorem witness_EndFramesFollowTheLane :
    (holding demo (demoRecord .cancelled)).recordAt 0 = some (demoRecord .cancelled) ∧
      (demoRecord .cancelled).delivery.value = .none ∧
      ((holding demo (demoRecord .cancelled)).lane 0).mode = .ready ∧
      ((holding lowDemo { demoRecord .cancelled with lane := 1 }).lane 1).mode ≠ .ready ∧
      (holding demo (delivering .acked)).recordAt 0 = some (delivering .acked) :=
  ⟨holding_recordAt _ _, rfl, by decide +kernel, by decide +kernel, holding_recordAt _ _⟩

/-- A list of three frames round a REFUSE. -/
def outboundDemo : List PartFrame := [.taken 1, .refuse .tooLate 2, .taken 3, .taken 4]

theorem witness_OutboundListTakesFourFrames :
    (State.reset.lane 0).mode = .off ∧ (demo.lane 0).mode = .ready ∧
      (outboundDemo.drop 1).length < 4 ∧ outboundDemo.length = 4 ∧
      outboundDemo = [.taken 1] ++ .refuse .tooLate 2 :: [.taken 3, .taken 4] ∧
      (∀ g ∈ [PartFrame.taken 3, .taken 4], g.isRefuse = false) := by decide +kernel

/-- A lane with its assembler in a state, bytes collected and items in its FIFO. -/
def assembling (a : AssemblerState) (frame : List Byte) (items : List RxItem) : State :=
  laneDemo fun L => { L with assembler := a, frame := frame, rxFifo := items }

/-- A lane with bytes of an abandoned frame still to be hunted through, its FIFO held. -/
def hunting (a : AssemblerState) (frame replay : List Byte) : State :=
  laneDemo fun L =>
    { L with assembler := a, frame := frame, replay := replay, rxFifo := [.byte 0x7E], fillHold := true }

/-- The bytes of an ACK frame for sequence 3, without its last byte. -/
def ackBytes : List Byte := [0x7E, 1, 4, 1, 3] ++ (checkBytes [1, 4, 1, 3]).take 1

theorem witness_AssemblerCollectsFrames :
    (∀ a frame items, ((assembling a frame items).lane 0).assembler = a ∧
      ((assembling a frame items).lane 0).frame = frame ∧
      ((assembling a frame items).lane 0).rxFifo = items ∧
      ((assembling a frame items).lane 0).replay = [] ∧
      ((assembling a frame items).lane 0).slot = none ∧
      ((assembling a frame items).lane 0).runs = true) ∧
      (240 : Byte).toNat ≤ 240 ∧ 240 < (241 : Byte).toNat ∧
      (let bytes := ackBytes ++ (checkBytes [1, 4, 1, 3]).drop 1
       (bytes.getD 1 0).toNat + 6 ≤ bytes.length ∧
         bytes.drop (bytes.length - 2) = checkBytes ((bytes.drop 1).take (bytes.length - 3))) ∧
      (ackBytes.getD 1 0).toNat + 6 = ackBytes.length + 1 ∧
      (∀ a frame b more, ((hunting a frame (b :: more)).lane 0).assembler = a ∧
        ((hunting a frame (b :: more)).lane 0).frame = frame ∧
        ((hunting a frame (b :: more)).lane 0).replay = b :: more ∧
        ((hunting a frame (b :: more)).lane 0).rxFifo = [.byte 0x7E] ∧
        ((hunting a frame (b :: more)).lane 0).slot = none) := by
  refine ⟨fun a frame items => ⟨rfl, rfl, rfl, rfl, rfl, rfl⟩, by decide, by decide, by decide +kernel,
    by decide +kernel, fun a frame b more => ⟨rfl, rfl, rfl, rfl, rfl⟩⟩

/-- A byte of an abandoned frame goes through the assembler, and the FIFO stays. -/
theorem test_second_hunt :
    let t := assemblerTakeByte 0 (hunting .hunt [] [0x7E, 2])
    (t.lane 0).assembler = .length ∧ (t.lane 0).replay = [2] ∧ (t.lane 0).rxFifo = [.byte 0x7E] ∧
      (t.lane 0).fillHold = true := by decide +kernel

/-- A transmit FIFO with a number of bytes before a CLOSE of ten on the outbound list. -/
def sending (n : Nat) : State :=
  (holding demo (delivering .queued)).modLane 0 fun L =>
    { L with txFifo := List.replicate n 0, outbound := [.close 1 .timeout] }

theorem witness_TransmitSideSendsWholeFrames :
    (sending 1).phase = .running ∧ ((sending 1).lane 0).runs = true ∧
      ((sending 1).lane 0).txFifo = [0] ∧ ((sending 1).lane 0).holdIn = false ∧
      (((sending 1).modLane 0 fun L => { L with holdIn := true }).lane 0).holdIn = true ∧
      ((sending 1).lane 0).outbound = [.close 1 .timeout] ∧
      55 + (PartFrame.close 1 .timeout).body.length + 6 = 64 ∧
      (PartFrame.close 1 .timeout).endKind = some .close ∧ (PartFrame.taken 1).endKind = none ∧
      ((sending 1).book 0).engaged = some 2048 ∧
      (sending 1).current? 2048 = some (delivering .queued) := by
  refine ⟨rfl, rfl, rfl, by decide +kernel, rfl, rfl, by decide +kernel, rfl, rfl, rfl, ?_⟩
  exact holding_current _ _

/-- Part frames written out by hand. -/
theorem test_part_frame_bodies :
    (PartFrame.welcome 0x01020304 15).body = [1, 2, 3, 4, 15, 0] ∧
      (PartFrame.present 258 4500 2).body = [1, 2, 0, 0, 0x11, 0x94, 2] ∧
      (PartFrame.outcome 258 (some 0x414243313233) 1).body =
        [1, 2, 1, 0x41, 0x42, 0x43, 0x31, 0x32, 0x33, 0, 0, 0, 1] ∧
      (PartFrame.outcome 258 none 1).body.length = 13 ∧ (PartFrame.close 1 .tryAgain).body = [0, 1, 5] ∧
      (PartFrame.refuse .tooLate 9).body = [7, 9] := by
  refine ⟨by decide, by decide, by decide, by decide, by decide, by decide⟩

/-- A lane in each mode; settings at the bounds of R134. -/
theorem witness_LanesAreHeldOpenedAndSetUp :
    demo.accepts ∧ 16 ≤ (16 : Byte).toNat ∧ (State.reset.lane 0).mode = .off ∧ State.reset.accepts ∧
      (∀ mode, (laneDemo fun L => { L with mode := mode }).accepts ∧
        ((laneDemo fun L => { L with mode := mode }).lane 0).mode = mode) ∧
      (let fields : Vector OptByte 16 :=
         put (put (Vector.replicate 16 { present := 0, value := 0 }) 1 { present := 1, value := 8 })
           2 { present := 1, value := 0 }
       (look fields 1).value.toNat = 8 ∧ (look fields 2).value.toNat + 8 = 8 ∧
         (look fields 3).present = 0) :=
  ⟨demo_accepts, by decide, rfl, ⟨rfl, rfl⟩, fun _ => ⟨⟨rfl, rfl⟩, rfl⟩, by decide⟩

/-! ### Error supervision -/

/-- Lane 0 with a LINE counter at a value and settings for it. -/
def supervised (value : Nat) (c : CounterSettings) : State :=
  laneDemo fun L =>
    { L with errors := { L.errors with line := { value := value, terminal := false } }
             settings := { L.settings with line := c } }

theorem witness_ErrorReportsAdvanceTheirCounter :
    (∀ value c, ((supervised value c).lane 0).settings.counter .line = c ∧
      ((supervised value c).lane 0).errors.get .line = { value := value, terminal := false } ∧
      ((supervised value c).lane 0).mode = .ready ∧ ((supervised value c).lane 0).settings.threshold = 16) ∧
      (advanceCounter .hold { value := 15, terminal := false }).1.value = 16 ∧
      (advanceCounter .hold { value := 16, terminal := false }).1.value ≠ 16 :=
  ⟨fun _ _ => ⟨rfl, rfl, rfl, rfl⟩, by decide, by decide⟩

theorem witness_LaneClearReturnsTheCounters :
    ((laneDemo fun L => { L with settings := { L.settings with threshold := 1 } }).lane 0).settings.threshold =
      1 ∧
    demo.accepts ∧ 15 < (16 : Byte).toNat ∧ laneOf 15 = some 15 ∧ (demo.lane 15).mode = .off ∧
      (demo.lane 0).mode ≠ .off ∧ ((demo.lane 0).settings.counter .line).enable = true :=
  ⟨rfl, demo_accepts, by decide, by decide, by decide +kernel, by decide +kernel, by decide +kernel⟩

/-! ### The reader dialogue -/

theorem framed_inTurn (kind : Byte) (body : List Byte) (r : Record) :
    (framed (holding demo r) kind 1 body).inTurn 0 { kind := kind, sequence := 1, body := body } :=
  ⟨rfl, rfl, rfl, rfl⟩

theorem witness_HelloGreetsAndRestarts :
    (framed demo 1 9 [0, 0, 0, 0, 0, 0, 0, 5, 1, 7]).commission = some demoCommission ∧
      (LaneFrame.read { kind := 1, sequence := 9, body := [0, 0, 0, 0, 0, 0, 0, 5, 1, 7] }).isHello = true ∧
      ((framed demo 1 9 []).lane 0).mode = .ready ∧
      (((framed demo 1 9 []).modLane 0 fun L => { L with mode := .down }).lane 0).mode = .down := by
  refine ⟨rfl, by decide +kernel, rfl, rfl⟩

theorem witness_FramesAreRefusedBeforeTheyAct :
    ((framed lowDemo 2 1 (cardBody 12)).lane 0).slot =
        some { kind := 2, sequence := 1, body := cardBody 12 } ∧
      (framed lowDemo 2 1 (cardBody 12)).supply.state = .low ∧
      (LaneFrame.read { kind := 2, sequence := 1, body := cardBody 12 }).isCard = true ∧
      (LaneFrame.read { kind := 9, sequence := 2, body := [] }) = .badlyFormed ∧
      (LaneFrame.read { kind := 1, sequence := 2, body := [] }) = .badlyFormed ∧
      (LaneFrame.read { kind := 3, sequence := 2, body := [0, 1] }).isCancel = true ∧
      (LaneFrame.read { kind := 4, sequence := 2, body := [3] }).isAck = true ∧
      ((framed demo 9 2 []).lane 0).reader.map (fun r => r.expected) ≠ some 2 := by
  refine ⟨rfl, rfl, by decide +kernel, by decide +kernel, by decide +kernel, by decide +kernel,
    by decide +kernel, by decide +kernel⟩

/-- Reader frames at the edges of R137: a body of 9 and of 10 bytes, a payment number of 0, a body one byte too
long, and a part kind. -/
theorem witness_FramesAreRefusedBeforeTheyAct_reading :
    LaneFrame.read { kind := 1, sequence := 0, body := [0, 0, 0, 0, 0, 0, 1, 2, 7, 255] } =
        .hello 0x102 7 255 ∧
      LaneFrame.read { kind := 1, sequence := 0, body := [0, 0, 0, 0, 0, 0, 1, 2, 7] } = .badlyFormed ∧
      LaneFrame.read { kind := 3, sequence := 0, body := [1, 2] } = .cancel 258 ∧
      LaneFrame.read { kind := 3, sequence := 0, body := [0, 0] } = .badlyFormed ∧
      LaneFrame.read { kind := 3, sequence := 0, body := [0, 1, 0] } = .badlyFormed ∧
      LaneFrame.read { kind := 4, sequence := 0, body := [3, 3] } = .badlyFormed ∧
      LaneFrame.read { kind := 0x81, sequence := 0, body := [3] } = .badlyFormed := by
  refine ⟨by decide +kernel, by decide +kernel, by decide +kernel, by decide +kernel, by decide +kernel,
    by decide +kernel, by decide +kernel⟩

/-- The fields that body reads as. -/
def demoFields (month : Byte) : CardFields :=
  { entry := .dip, numberLength := 16, digits := List.replicate 16 4, year := 30, month := month
    verify := .chipPin, chip := [1, 2] }

/-- A CARD in its turn, with a month inside and outside R147, an engaged record and none, a counter below
and at the capture limit. -/
theorem witness_CardIsCaptured :
    (∀ r month, (framed (holding demo r) 2 1 (cardBody month)).inTurn 0
      { kind := 2, sequence := 1, body := cardBody month }) ∧
      LaneFrame.read { kind := 2, sequence := 1, body := cardBody 12 } = .card 1 (demoFields 12) ∧
      (demoFields 12).valid = true ∧
      LaneFrame.read { kind := 2, sequence := 1, body := cardBody 13 } = .card 1 (demoFields 13) ∧
      (demoFields 13).valid = false ∧
      (framed demo 2 1 (cardBody 12)).inTurn 0 { kind := 2, sequence := 1, body := cardBody 12 } ∧
      (demo.book 0).engaged = none ∧
      ((holding demo (demoRecord .armed)).book 0).engaged = some 2048 ∧
      (demoRecord .armed).payment = 1 ∧ demo.entryIn .active = some 0 ∧
      ((holding (counterDemo 65279) (demoRecord .armed)).takeCounter 1 0 65280).isSome = true ∧
      (holding (counterDemo 65280) (demoRecord .armed)).takeCounter 1 0 65280 = none := by
  refine ⟨fun r month => framed_inTurn 2 _ r, ?_, ?_, ?_, ?_, ⟨rfl, rfl, rfl, rfl⟩, rfl, rfl,
    rfl, rfl, rfl, rfl⟩ <;> decide +kernel

/-- A CARD body with its examined values at their edges: its card number length, entry method, year and
verification method, and a place above 9 in the last byte. -/
def edgeBody (entry length year verify : Byte) : List Byte :=
  [0, 1, entry, length] ++ List.replicate 9 0x99 ++ [0x9A, year, 0, verify, 0]

/-- A well-formed and a badly formed CARD on each side of each edge of R137. -/
theorem witness_CardIsCaptured_reading :
    (∀ entry ∈ [(1 : Byte), 4], ∀ length ∈ [(0 : Byte), 19], ∀ year ∈ [(0 : Byte), 99],
      ∀ verify ∈ [(0 : Byte), 3],
      (LaneFrame.read { kind := 2, sequence := 0, body := edgeBody entry length year verify }).isCard = true) ∧
      ∀ body ∈ [edgeBody 0 19 99 3, edgeBody 5 19 99 3, edgeBody 1 20 99 3, edgeBody 1 255 99 3,
          edgeBody 1 19 100 3, edgeBody 1 19 99 4, edgeBody 1 19 99 3 ++ [0],
          0 :: 0 :: (edgeBody 1 19 99 3).drop 2, []],
        LaneFrame.read { kind := 2, sequence := 0, body := body } = .badlyFormed := by
  refine ⟨by decide +kernel, by decide +kernel⟩

theorem witness_CancelAndAckActOnTheEngagedRecord :
    (∀ r, (framed (holding demo r) 3 1 [0, 1]).inTurn 0 { kind := 3, sequence := 1, body := [0, 1] }) ∧
      LaneFrame.read { kind := 3, sequence := 1, body := [0, 1] } = .cancel 1 ∧
      (∀ r, (framed (holding demo r) 4 1 [3]).inTurn 0 { kind := 4, sequence := 1, body := [3] }) ∧
      LaneFrame.read { kind := 4, sequence := 1, body := [3] } = .ack 3 ∧
      (demoRecord .armed).payment = 1 ∧ (delivering .sent).delivery.sequence = some 3 ∧
      (demo.book 0).engaged = none ∧
      ((demo.modBook 0 fun b => { b with expired := some 3 }).book 0).expired = some 3 :=
  ⟨fun r => framed_inTurn 3 _ r, by decide, fun r => framed_inTurn 4 _ r, by decide, rfl, rfl, rfl, rfl⟩

/-! ### Supply, case, attention and start-up -/

theorem witness_SupplyMonitorFollowsTheVoltage :
    demo.phase = .running ∧ demo.supply.state = .normal ∧ levelInForce demo.commission = 3000 ∧
      2700 ≤ 2999 ∧ lowDemo.phase = .running ∧ lowDemo.supply.state = .low ∧
      lowDemo.supply.recovering = false ∧
      ({ lowDemo with supply := { lowDemo.supply with recovering := true } } : State).supply.recovering =
        true ∧ 2699 < 2700 ∧ ({ demo with phase := .starting .pin } : State).phase ≠ .running := by
  decide

/-- A recovery timer that runs stops at the level plus 0.05 V and at a fall below the level, and every row
below 2.70 V leaves the part unpowered. -/
theorem test_supply_rows_act_by_their_voltage :
    let running : State := { lowDemo with supply := { lowDemo.supply with recovering := true } }
    (running.supplyMoves 3051).supply.recovering = true ∧
      (running.supplyMoves 3050).supply.recovering = false ∧
      (running.supplyMoves 2999).supply.recovering = false ∧
      (running.supplyMoves 2699).phase = .unpowered := by decide

/-- The case of the small state, CLOSED, and with line A open. -/
theorem witness_CaseLinesLatchAndErase :
    demo.phase = .running ∧ demo.caseMon.current = .closed ∧
      ({ demo.caseMon with lineA := .opened } : CaseMonitor).current = .opened ∧
      ({ demo with phase := .starting .pin } : State).phase ≠ .running ∧
      demo.commission = some demoCommission ∧ demoCommission.eraseOnOpen = true ∧
      State.reset.commission = none := by
  refine ⟨rfl, by decide, by decide, ?_, rfl, rfl, rfl⟩
  intro h; exact Phase.noConfusion h

theorem witness_ErasureDestroysKeysAndCards :
    (∀ r, (holding demo r).recordAt 0 = some r ∧ ((holding demo r).book 0).engaged = some 2048 ∧
      (holding demo r).current? 2048 = some r ∧ slotOf 2048 = 0) ∧
      (unwrapping 0).port.state = .serving 19 1 ∧ demo.port.state = .idle ∧ demo.recordAt 0 = none ∧
      captureQueued.engagementsHold ∧ captureQueued.recordsWellFormed ∧
      (captureQueued.book 0).engaged = some 2048 ∧ captureQueued.current? 2048 = some capturingRecord ∧
      capturingRecord.state = .capturing ∧ (captureQueued.lane 0).mode = .ready ∧
      (captureQueued.lane 1).mode = .down :=
  ⟨fun _ => ⟨holding_recordAt _ _, rfl, holding_current _ _, by decide⟩, rfl, rfl, demo_recordAt _,
    captureQueued_consistent.engagements, captureQueued_consistent.records, rfl, holding_current _ _, rfl,
    rfl, rfl⟩

/-- The CLOSE of a capture that erasure ends stands on its lane's list. -/
theorem test_erasure_queues_the_close :
    ((erasure captureQueued).lane 0).outbound = [.close 1 .tryAgain] := by decide +kernel

/-- Every cause a lane can have. -/
def everyLaneCause : LaneCauses :=
  { up := true, down := true, faulted := some .check
    thresholdLine := true, thresholdCheck := true, thresholdOrder := true }

/-- The small state with its attention unit changed. -/
def calling (f : AttentionUnit → AttentionUnit) : State := demo.modAttention f

/-- The small state with a cause of each latched kind, and with a lane's causes in their order. -/
theorem witness_NextAttentionReportsTheFirstCause_kinds :
    (calling fun a => { a with supply := some { state := .low, count := 2 } }).eligibleCauses =
        [.supply { state := .low, count := 2 }] ∧
      (calling fun a => { a with drained := [3, 5], warnings := [(0, 1)] }).eligibleCauses =
        [.drained 3, .drained 5, .warning 0 1] ∧
      (calling fun a => { a with lanes := put a.lanes 1 everyLaneCause }).eligibleCauses =
        [.laneUp 1, .laneDown 1, .laneFaulted 1 .check, .laneThreshold 1 .line, .laneThreshold 1 .check,
          .laneThreshold 1 .order] ∧
      demo.keysCausesOrdered ∧ demo.slotsPartitioned ∧
      (calling fun a => { a with drained := [3, 5], warnings := [(0, 1)] }).keysCausesOrdered := by
  refine ⟨?_, ?_, ?_, ⟨List.Pairwise.nil, List.Pairwise.nil⟩, witness_SlotsStayPartitioned, ?_⟩
  · decide +kernel
  · decide +kernel
  · decide +kernel
  · unfold State.keysCausesOrdered; decide +kernel

/-- The small state with a cause of a class latched. -/
theorem witness_NextAttentionReportsTheFirstCause :
    demo.accepts ∧ demo.eligibleCauses = [] ∧
      ({ demo with attention := { demo.attention with table := true } } : State).eligibleCauses =
        [.table] ∧
      ({ demo with caseMon := { demo.caseMon with latch := some .opened } } : State).eligibleCauses =
        [.caseEvent .opened] ∧
      (holding demo { demoRecord .wrapped with late := true }).eligibleCauses =
        [.late 0 0, .ready 0 0] ∧
      (holding demo { demoRecord .lapsed with ended := true }).eligibleCauses = [.ended 0 0] := by
  refine ⟨demo_accepts, ?_, ?_, ?_, ?_, ?_⟩ <;> decide +kernel

theorem witness_AttentionMaskSetsBothMasks :
    demo.accepts ∧ (0xFFFE : Half).getLsbD 0 = false ∧
      Cause.late 0 0 ∈ (holding demo { demoRecord .wrapped with late := true }).pendingCauses := by
  refine ⟨demo_accepts, by decide, ?_⟩; decide +kernel

/-- Codes at the bounds of R178, on a part not commissioned; a level above the voltage of 3.0 V. -/
theorem witness_CommissionIsWrittenOnce :
    State.reset.accepts ∧ State.reset.commission = none ∧ demo.accepts ∧ demo.commission ≠ none ∧
      1 ≤ (1 : Half).toNat ∧ (999 : Half).toNat ≤ 999 ∧ (3 : Byte).toNat ≤ 3 ∧
      1 ≤ (16 : Byte).toNat ∧ (16 : Byte).toNat ≤ 16 ∧ (4 : Byte).toNat ≤ 4 ∧
      State.reset.supply.state = .normal ∧ 2800 + 100 * (4 : Byte).toNat ≤ State.reset.supply.millivolts ∧
      ({ State.reset with supply := { State.reset.supply with millivolts := 3000 } }
        : State).supply.millivolts < 2800 + 100 * (4 : Byte).toNat :=
  ⟨⟨rfl, rfl⟩, rfl, demo_accepts, by decide, by decide, by decide, by decide, by decide, by decide,
    by decide, rfl, by decide, by decide⟩

/-! ## One step of some kinds -/

/-- The state after one command. -/
def after (c : Instr) (s : State) : State :=
  match step { s with pending := [c] } with
  | .next t => t
  | _ => s

/-- The status and body of the response the port holds. -/
def answer? (s : State) : Option (Status × List Byte) :=
  match s.port.state with
  | .answering r => some (r.status, r.body)
  | _ => none

theorem test_arm :
    (((after (.arm 1 0 4500 77) demo).recordAt 0).map (fun r => (r.state, r.current)) =
        some (.armed, 4500)) ∧
      answer? (after (.arm 1 0 4500 77) demo) = some (.done, [8, 0, 0, 1]) := by decide +kernel

theorem test_take :
    answer? (after (.take 1 2048) (holding demo (demoRecord .wrapped))) = some (.done, [0, 3, 1, 2, 3]) := by
  decide +kernel

theorem test_settle_defer_past_the_floor :
    answer? (after (.settle 1 2048 3 0x303030303030 0) (holding demo (demoRecord .released))) =
      some (.exposure, [1]) := by decide +kernel

theorem test_void :
    ((after (.void 1 2048) (holding demo (demoRecord .approved))).recordAt 0).map
      (fun r => (r.state, r.followUps.map fun f => (f.kind, f.counter, f.status))) =
      some (.voided, [(.reversal, some 5, .wrapping)]) := by decide +kernel

theorem test_card :
    ((after (.readerCard 0) (framed (holding demo (demoRecord .armed)) 2 1 (cardBody 12))).recordAt 0).map
      (fun r => (r.state, r.binding)) = some (.capturing, some { generation := 1, counter := 5 }) := by
  decide +kernel

theorem test_capture_completion :
    ((after .captureCompletion (serving (holding demo (demoRecord .capturing)) demoJob
      (.wrap demoInputs))).recordAt 0).map (fun r => (r.state, r.payload.map List.length)) =
      some (.wrapped, some 64) := by decide +kernel

theorem test_case_opening_erases :
    (after (.caseLineChange .caseA .opened) (holding demo (demoRecord .armed))).recordAt 0 =
      some { demoRecord .armed with
        state := .cancelled, endReason := some .keysLost, bound := false, card := none, ended := true
        delivery := { value := .queued, kind := some .close, sequence := none } } := by decide +kernel

theorem test_supply_at_its_level :
    (after (.supplyBelowLevel 2999) demo).supply.state = .low ∧
      (after (.supplyBelowLevel 3000) demo).supply.state = .normal := by decide +kernel

/-- A held lane at space past 2 character times, and its return to mark once opened: no LINE error (R123,
R152). -/
theorem test_break_on_a_held_lane :
    ((after (.lineBreak 0)
      (laneDemo fun L => { L with mode := .held, rxLine := .stopAtSpace })).lane 0).rxLine = .inBreak ∧
      (let t := after (.lineReturnToMark 0) (laneDemo fun L => { L with mode := .down, rxLine := .inBreak })
       (t.lane 0).rxLine = .mark ∧ (t.lane 0).errors.line.value = 0) := by decide +kernel

/-- A LINE counter that faults its lane. -/
def faulting : CounterSettings := { enable := true, terminal := .hold, attend := true, fault := true }

theorem test_threshold_of_line_errors :
    ((after (.lineReturnToMark 0)
      ((supervised 15 faulting).modLane 0 fun L => { L with rxLine := .stopAtSpace })).lane 0).mode =
      .faulted := by decide +kernel

theorem test_commission :
    answer? (after (.commission 1 1 2 978 2 3 2 1 2) State.reset) =
      some (.done, [0, 0, 0, 1, 0, 0, 0, 2, 3, 0xD2, 2, 2, 1, 2]) := by decide +kernel

theorem test_no_table_word_spells_a_command : decodeTableWord 8 0 = none := rfl

end Sys2Proof.Tests
end

section
/-! PROOFS. The life of a payment (Chapter 2): PEEK, SETTLE and ARM. For each request, what its handler gives
back once its checks have passed; the obligations are put together from these. -/

namespace Sys2Proof.Machine

/-! ## An accepted request -/

/-- A request that the port takes is answered with what its handler gives back (R171). -/
theorem exec_of_handler_answers {i : Instr} {kind tag : Byte} {bytes body : List Byte}
    {f : State → Reply} {s t : State} {status : Status}
    (hparts : requestParts i = some (kind, tag, bytes)) (hhandler : handlerOf i = some f)
    (hs : s.accepts) (hanswer : f s = .answer t status body) :
    exec i s = .next (t.respond kind tag status body) := by
  rw [exec_request hparts hhandler, takeRequest_of_accepts hs, hanswer, finish_answer]

/-! ## PEEK (R36) -/

theorem peek_of_payload {s : State} {h : Handle} {r : Record} {payload : List Byte}
    (hr : s.current? h = some r) (hp : r.payload = some payload) :
    peek h s = .answer s .done (payloadBytes payload) := by
  rw [peek, withRecord_of_current hr, hp]

theorem peek_of_no_payload {s : State} {h : Handle} {r : Record}
    (hr : s.current? h = some r) (hp : r.payload = none) : peek h s = refuse s .wrongState := by
  rw [peek, withRecord_of_current hr, hp]

/-- A record holds a payload in every state but ARMED, CAPTURING, CANCELLED and FAILED (R16, R36). -/
theorem PaymentState.hasPayload_eq_false_iff (a : PaymentState) :
    a.hasPayload = false ↔ a = .armed ∨ a = .capturing ∨ a = .cancelled ∨ a = .failed := by
  cases a <;> decide

theorem Record.WellFormed.payload_eq_none_iff {r : Record} (hw : r.WellFormed) :
    r.payload = none ↔
      r.state = .armed ∨ r.state = .capturing ∨ r.state = .cancelled ∨ r.state = .failed := by
  rw [← PaymentState.hasPayload_eq_false_iff, ← Bool.not_eq_true, ← hw.payload]
  simp

/-! ## SETTLE: an OUTCOME queued for a record just put in place (R42, R44) -/

section
variable {s : State} {slot : Slot} {r : Record}

theorem queueOutcome_put_ready (hd : r.delivery.value = .none) (hl : (s.lane r.lane).mode = .ready)
    (approval : Option Code6) :
    (s.withRecordAt slot r).queueOutcome slot approval =
      (s.offer r.lane (.outcome r.payment approval r.current)).withRecordAt slot
        { r with delivery := { value := .queued, kind := some .outcome, sequence := none } } :=
  queueEndFrame_put_ready hd hl ..

theorem queueOutcome_put_not_ready (hd : r.delivery.value = .none)
    (hl : (s.lane r.lane).mode ≠ .ready) (approval : Option Code6) :
    (s.withRecordAt slot r).queueOutcome slot approval =
      (s.endEngagement r.lane).withRecordAt slot
        { r with delivery := { value := .unconfirmed, kind := some .outcome, sequence := none } } :=
  queueEndFrame_put_not_ready hd hl ..

/-- The delivery in a response is that of the record just put in place (R42). -/
theorem deliveryByte_withRecordAt :
    deliveryByte (s.withRecordAt slot r) slot = [BitVec.ofNat 8 r.delivery.value.code] := by
  simp [deliveryByte, bytesAt, u8, bytesOf]

/-! ## SETTLE with APPROVE and DECLINE (R42) -/

/-- On a READY lane the OUTCOME joins the outbound list and the response says QUEUED (R42, R44). -/
theorem settleOnline_ready (hr : s.recordAt slot = some r) (hd : r.delivery.value = .none)
    (hl : (s.lane r.lane).mode = .ready) (o : PostedOutcome) (state : PaymentState) :
    settleOnline slot o state s =
      .answer
        ((s.offer r.lane (.outcome r.payment o.approval r.current)).withRecordAt slot
          { r.settle o state with
            delivery := { value := .queued, kind := some .outcome, sequence := none } })
        .done [2] := by
  have hq := queueOutcome_put_ready (s := s) (slot := slot) (r := r.settle o state) hd hl o.approval
  rw [settleOnline, modRecord_eq hr, hq]
  dsimp only
  rw [deliveryByte_withRecordAt]
  rfl

/-- On a lane that is not READY the engagement ends and the response says UNCONFIRMED (R42, R44, R48). -/
theorem settleOnline_not_ready (hr : s.recordAt slot = some r) (hd : r.delivery.value = .none)
    (hl : (s.lane r.lane).mode ≠ .ready) (o : PostedOutcome) (state : PaymentState) :
    settleOnline slot o state s =
      .answer
        ((s.endEngagement r.lane).withRecordAt slot
          { r.settle o state with
            delivery := { value := .unconfirmed, kind := some .outcome, sequence := none } })
        .done [5] := by
  have hq := queueOutcome_put_not_ready (s := s) (slot := slot) (r := r.settle o state) hd hl o.approval
  rw [settleOnline, modRecord_eq hr, hq]
  dsimp only
  rw [deliveryByte_withRecordAt]
  rfl

/-! ## SETTLE with DEFER (R60, R61) -/

/-- A record DEFERRED with an approval code: outcome stored, Late cleared, the deferred-life timer started
at the settings in force (R61). -/
def Record.deferWith (timers : TimerSettings) (approval : Code6) (r : Record) : Record :=
  { r.settle { result := .defer, approval := some approval, decline := none } .deferred with
    stateTimer := some { remaining := timers.life * 3600, action := some timers.deferredAction } }

/-- An accepted DEFER puts the DEFERRED record in place, raises the account and queues the OUTCOME (R61). -/
theorem acceptDefer_eq (hr : s.recordAt slot = some r) (approval : Code6) :
    acceptDefer slot r approval s =
      let t := ((s.enterAccount r.lane r.current).withRecordAt slot
        (r.deferWith s.timers approval)).queueOutcome slot (some approval)
      .answer t .done (deliveryByte t slot ++ totalsBytes t r.lane) := by
  simp only [acceptDefer, modRecord_eq hr, enterAccount_withRecordAt]
  rfl

/-- The totals of a lane and of the store just raised by an amount (R61). -/
theorem totalsBytes_enterAccount (s : State) (l : LaneId) (n : Nat) :
    totalsBytes (s.enterAccount l n) l =
      bytesOf 4 ((s.book l).total + n) ++ bytesOf 4 (s.table.storeTotal + n) := by
  simp [totalsBytes, u32, State.book_enterAccount]

/-- The end of an engagement leaves the totals (R48, R59). -/
theorem totalsBytes_endEngagement (s : State) (l : LaneId) :
    totalsBytes (s.endEngagement l) l = totalsBytes s l := by
  simp [totalsBytes, State.book_endEngagement]

theorem acceptDefer_ready (hr : s.recordAt slot = some r) (hd : r.delivery.value = .none)
    (hl : (s.lane r.lane).mode = .ready) (approval : Code6) :
    acceptDefer slot r approval s =
      .answer
        (((s.enterAccount r.lane r.current).offer r.lane
            (.outcome r.payment (some approval) r.current)).withRecordAt slot
          { r.deferWith s.timers approval with
            delivery := { value := .queued, kind := some .outcome, sequence := none } })
        .done ([2] ++ totalsBytes (s.enterAccount r.lane r.current) r.lane) := by
  have hq := queueOutcome_put_ready (s := s.enterAccount r.lane r.current) (slot := slot)
    (r := r.deferWith s.timers approval) hd hl (some approval)
  rw [acceptDefer_eq hr, hq]
  dsimp only
  rw [deliveryByte_withRecordAt]
  rfl

theorem acceptDefer_not_ready (hr : s.recordAt slot = some r) (hd : r.delivery.value = .none)
    (hl : (s.lane r.lane).mode ≠ .ready) (approval : Code6) :
    acceptDefer slot r approval s =
      .answer
        (((s.enterAccount r.lane r.current).endEngagement r.lane).withRecordAt slot
          { r.deferWith s.timers approval with
            delivery := { value := .unconfirmed, kind := some .outcome, sequence := none } })
        .done ([5] ++ totalsBytes (s.enterAccount r.lane r.current) r.lane) := by
  have hq := queueOutcome_put_not_ready (s := s.enterAccount r.lane r.current) (slot := slot)
    (r := r.deferWith s.timers approval) hd hl (some approval)
  rw [acceptDefer_eq hr, hq, ← totalsBytes_endEngagement (s.enterAccount r.lane r.current)]
  dsimp only
  rw [deliveryByte_withRecordAt]
  rfl
end

/-! ## SETTLE past its checks (R41) -/

/-- An approval code is in range when each of its characters is a digit or a capital letter (R41). -/
theorem isCodeChar_iff (b : Byte) :
    isCodeChar b = true ↔ 0x30 ≤ b.toNat ∧ b.toNat ≤ 0x39 ∨ 0x41 ≤ b.toNat ∧ b.toNat ≤ 0x5A :=
  decide_eq_true_iff

section
variable {s : State} {h : Handle} {r : Record} {approval : Code6} {decline : Byte}

theorem settle_approve (hr : s.current? h = some r) (hst : r.state = .released)
    (hcode : codeInRange approval = true) :
    settle h 1 approval decline s =
      settleOnline (slotOf h) { result := .approve, approval := some approval, decline := none }
        .approved s := by
  simp [settle, withRecord_of_current hr, resultOf, settleInRange, hst, hcode]

theorem settle_decline (hr : s.current? h = some r) (hst : r.state = .released)
    (hrange : decline.toNat ≤ 99) :
    settle h 2 approval decline s =
      settleOnline (slotOf h) { result := .decline, approval := none, decline := some decline }
        .declined s := by
  simp [settle, withRecord_of_current hr, resultOf, settleInRange, hst, hrange]

theorem settle_defer_exposed {check : ExposureCheck} (hr : s.current? h = some r)
    (hst : r.state = .released) (hcode : codeInRange approval = true)
    (hx : deferExposure s r = some check) :
    settle h 3 approval decline s = .answer s .exposure (u8 check.code) := by
  simp [settle, withRecord_of_current hr, resultOf, settleInRange, hst, hcode, hx]

theorem settle_defer_accepted (hr : s.current? h = some r) (hst : r.state = .released)
    (hcode : codeInRange approval = true) (hx : deferExposure s r = none) :
    settle h 3 approval decline s = acceptDefer (slotOf h) r approval s := by
  simp [settle, withRecord_of_current hr, resultOf, settleInRange, hst, hcode, hx]
end

/-! ## ARM: the low mark and the lane's outbound list (R9, R129) -/

namespace State

/-- The free count meets the low mark while the low-mark indicator is ARMED (R9). -/
def crossesLowMark (s : State) : Bool :=
  decide (s.freeCount ≤ s.limits.lowMark) && s.table.lowMarkArmed

/-- Examining the low mark disarms the indicator and latches TABLE exactly at a crossing (R9). -/
theorem examineLowMark_eq (s : State) :
    s.examineLowMark =
      { s with
        table := { s.table with lowMarkArmed := s.table.lowMarkArmed && !s.crossesLowMark }
        attention := { s.attention with table := s.attention.table || s.crossesLowMark } } := by
  by_cases hc : s.freeCount ≤ s.limits.lowMark ∧ s.table.lowMarkArmed = true
  · simp [examineLowMark, crossesLowMark, latchTable, hc]
  · have hx : s.crossesLowMark = false := by simpa [crossesLowMark] using hc
    simp [examineLowMark, if_neg hc, hx]

end State

/-- A READY lane takes an offered frame on its outbound list (R129). -/
theorem Lane.offer_of_ready {L : Lane} (hL : L.mode = .ready) (f : PartFrame) :
    L.offer f = { L with outbound := offerTo L.outbound f } := by
  simp [Lane.offer, Lane.runs, hL]

/-! ## ARM: allocation (R5) -/

section
variable (s : State) (l : LaneId) (slot : Slot) (rest : List Slot) (amount : Nat) (till : Word)

theorem cell_allocate (x : Slot) :
    (s.allocate l slot rest amount till).cell x =
      if x = slot then
        { tag := (s.cell slot).tag + 1
          record := some (newRecord l (s.book l).nextPayment amount till s.timers.present) }
      else s.cell x := by
  rw [State.allocate, State.examineLowMark_eq]
  exact look_put ..

theorem book_allocate (x : LaneId) :
    (s.allocate l slot rest amount till).book x =
      if x = l then
        { s.book l with
          list := (s.book l).list ++ [slot]
          engaged := some (handleAt ((s.cell slot).tag + 1) slot)
          nextPayment := nextPaymentAfter (s.book l).nextPayment }
      else s.book x := by
  rw [State.allocate, State.examineLowMark_eq]
  exact look_put ..

/-- Allocation takes the rest of the free list and examines the low mark with it; of the record table's
other fields it changes the slots and the books alone (R5, R9). -/
theorem table_allocate :
    (s.allocate l slot rest amount till).table =
      { s.table with
        slots := (s.allocate l slot rest amount till).table.slots
        books := (s.allocate l slot rest amount till).table.books
        free := rest
        lowMarkArmed := s.table.lowMarkArmed &&
          !(decide (rest.length ≤ s.limits.lowMark) && s.table.lowMarkArmed) } := by
  rw [State.allocate, State.examineLowMark_eq]
  rfl

/-- Allocation changes the record table and latches TABLE at a crossing of the low mark; it changes nothing
else (R5, R9). -/
theorem allocate_frame :
    s.allocate l slot rest amount till =
      { s with
        table := (s.allocate l slot rest amount till).table
        attention := { s.attention with
          table := s.attention.table ||
            (decide (rest.length ≤ s.limits.lowMark) && s.table.lowMarkArmed) } } := by
  rw [State.allocate, State.examineLowMark_eq]
  rfl

@[simp] theorem lane_allocate (x : LaneId) :
    (s.allocate l slot rest amount till).lane x = s.lane x := by
  rw [allocate_frame]
  rfl

/-- The slot's handle after allocation carries its advanced tag (R2, R3). -/
theorem handleOf_allocate :
    (s.allocate l slot rest amount till).handleOf slot = handleAt ((s.cell slot).tag + 1) slot := by
  rw [State.handleOf, cell_allocate, if_pos rfl]
end

/-! ## ARM past its checks (R27, R28) -/

/-- An ARM that passes the nine checks of R27 is accepted. -/
theorem arm_of_checks_passed {s : State} {lane : Byte} {amount : Word} {c : Commissioning} {l : LaneId}
    {i : Fin 4} {slot : Slot} {rest : List Slot} (till : Word) (hcom : s.commission = some c)
    (hlane : laneOf lane = some l) (hlow : 1 ≤ amount.toNat) (hhigh : amount.toNat ≤ 99999999)
    (hready : (s.lane l).mode = .ready) (hsupply : s.supply.state = .normal)
    (hfree : (s.book l).engaged = none) (hkey : s.entryIn .active = some i)
    (hcounter : look (s.entry i).counters l < 65536 - s.limits.reserve)
    (hshare : (s.book l).list.length < s.limits.share) (hslot : s.table.free = slot :: rest) :
    arm lane amount till s = acceptArm c l slot rest amount.toNat till s := by
  have hrange : inRange 1 amount.toNat Config.amountMax = true := decide_eq_true ⟨hlow, hhigh⟩
  have hlimit : ¬ s.captureLimit ≤ look (s.entry i).counters l := Nat.not_le.mpr hcounter
  simp [arm, hcom, hlane, hrange, hready, hsupply, hfree, hkey, hlimit, Nat.not_le.mpr hshare, hslot]

/-- The reply to an accepted ARM: allocation, then the PRESENT; the handle and the payment number (R28). -/
theorem acceptArm_eq (c : Commissioning) (l : LaneId) (slot : Slot) (rest : List Slot) (amount : Nat)
    (till : Word) (s : State) :
    acceptArm c l slot rest amount till s =
      .answer
        ((s.allocate l slot rest amount till).offer l
          (.present (s.book l).nextPayment amount c.exponent))
        .done
        (u16 (handleAt ((s.cell slot).tag + 1) slot).toNat ++ u16 (s.book l).nextPayment) := by
  rw [← handleOf_allocate s l slot rest amount till]
  rfl

end Sys2Proof.Machine

/-! ## The obligations -/

namespace Sys2Proof.Proofs

open Sys2Proof.Machine

/-- Settles O24: PEEK by its three cases, and the payload by the record's state. -/
theorem peekReturnsThePayload : Obligations.PeekReturnsThePayload := by
  unfold Obligations.PeekReturnsThePayload
  refine ⟨?stale, ?held, ?absent, ?frame, ?byState⟩
  case stale =>
    intro s tag h hs hr
    exact exec_of_handler_answers rfl rfl hs (withRecord_of_stale hr _)
  case held =>
    intro s tag h r payload hs hr hp
    exact exec_of_handler_answers rfl rfl hs (peek_of_payload hr hp)
  case absent =>
    intro s tag h r hs hr hp
    exact exec_of_handler_answers rfl rfl hs (peek_of_no_payload hr hp)
  case frame =>
    intros
    rfl
  case byState =>
    intro s h r hw hr
    have hnone := (hw _ _ (State.recordAt_of_current hr)).payload_eq_none_iff
    refine ⟨hnone.mpr, fun harmed hcapturing hcancelled hfailed => ?_⟩
    rw [Option.isSome_iff_ne_none, ne_eq, hnone]
    simp [harmed, hcapturing, hcancelled, hfailed]

/-- Settles O25: APPROVE and DECLINE by the lane's state, DEFER by the first exposure check that fails and
then by the lane's state. -/
theorem settlePostsTheOutcome : Obligations.SettlePostsTheOutcome := by
  unfold Obligations.SettlePostsTheOutcome
  refine ⟨fun _ => rfl, isCodeChar_iff, ?online, ?deferred⟩
  case online =>
    intro s tag h approval decline r hs hr hst hd slot approved declined told untold
    have hslot := State.recordAt_of_current hr
    refine ⟨fun hcode => ⟨fun hl => ?_, fun hl => ?_⟩, fun hrange => ⟨fun hl => ?_, fun hl => ?_⟩⟩
    · exact exec_of_handler_answers rfl rfl hs
        ((settle_approve hr hst hcode).trans (settleOnline_ready hslot hd hl ..))
    · exact exec_of_handler_answers rfl rfl hs
        ((settle_approve hr hst hcode).trans (settleOnline_not_ready hslot hd hl ..))
    · exact exec_of_handler_answers rfl rfl hs
        ((settle_decline hr hst hrange).trans (settleOnline_ready hslot hd hl ..))
    · exact exec_of_handler_answers rfl rfl hs
        ((settle_decline hr hst hrange).trans (settleOnline_not_ready hslot hd hl ..))
  case deferred =>
    intro s tag h approval decline r hs hr hst hcode slot floorFails laneFails storeFails raised account
      deferred totals
    have hslot := State.recordAt_of_current hr
    have htotals : totals = totalsBytes (s.enterAccount r.lane r.current) r.lane :=
      (totalsBytes_enterAccount ..).symm
    refine ⟨fun hfloor => ?_, fun hfloor hlane => ?_, fun hfloor hlane hstore => ?_,
      fun hfloor hlane hstore hd => ?_⟩
    · exact exec_of_handler_answers rfl rfl hs
        (settle_defer_exposed (check := .floor) hr hst hcode (if_pos hfloor))
    · exact exec_of_handler_answers rfl rfl hs
        (settle_defer_exposed (check := .laneCeiling) hr hst hcode ((if_neg hfloor).trans (if_pos hlane)))
    · exact exec_of_handler_answers rfl rfl hs
        (settle_defer_exposed (check := .storeCeiling) hr hst hcode
          ((if_neg hfloor).trans ((if_neg hlane).trans (if_pos hstore))))
    · have hx : deferExposure s r = none := (if_neg hfloor).trans ((if_neg hlane).trans (if_neg hstore))
      have haccept := settle_defer_accepted (decline := decline) hr hst hcode hx
      rw [htotals]
      exact ⟨fun hready => exec_of_handler_answers rfl rfl hs
          (haccept.trans (acceptDefer_ready hslot hd hready _)),
        fun hdown => exec_of_handler_answers rfl rfl hs
          (haccept.trans (acceptDefer_not_ready hslot hd hdown _))⟩

/-- Settles O21: the checks of R27 pass, and the state after is the allocation with the PRESENT offered. -/
theorem armAllocatesAndPresents : Obligations.ArmAllocatesAndPresents := by
  unfold Obligations.ArmAllocatesAndPresents
  intro s tag lane amount till c l i slot rest hs hcom hlane hlow hhigh hready hsupply hfree hkey hcounter
    hshare hslot handle payment crossed
  have harm := (arm_of_checks_passed till hcom hlane hlow hhigh hready hsupply hfree hkey hcounter hshare
    hslot).trans (acceptArm_eq ..)
  have htable := table_allocate s l slot rest amount.toNat till
  have hframe := allocate_frame s l slot rest amount.toNat till
  refine ⟨_, exec_of_handler_answers rfl rfl hs harm, ?others, ?free, ?cell, ?cells, ?book, ?books, ?lowMark,
    ?attention, ?storeTotal, ?waiting, ?lane, ?lanes⟩
  case others => rw [hframe]; rfl
  case free => exact congrArg (·.free) htable
  case cell => exact (cell_allocate ..).trans (if_pos rfl)
  case cells => exact fun x hx => (cell_allocate ..).trans (if_neg hx)
  case book => exact (book_allocate ..).trans (if_pos rfl)
  case books => exact fun x hx => (book_allocate ..).trans (if_neg hx)
  case lowMark => exact congrArg (·.lowMarkArmed) htable
  case attention => exact congrArg (·.attention) hframe
  case storeTotal => exact congrArg (·.storeTotal) htable
  case waiting => exact congrArg (·.waiting) htable
  case lane => rw [State.lane_offer, if_pos rfl, lane_allocate, Lane.offer_of_ready hready]
  case lanes => exact fun x hx => by rw [State.lane_offer, if_neg hx, lane_allocate]

end Sys2Proof.Proofs
end

section
/-! PROOFS. Lane error supervision (Chapter 9): an error report and LANE CLEAR. First what an advance, the
FAULT action and the threshold actions do, each once; then a report by the counter's settings; the
obligations are put together from these. -/

namespace Sys2Proof.Machine

/-! ## Advancing a counter (R154) -/

section
variable {choice : TerminalChoice} {c : ErrorCounter}

theorem advanceCounter_of_le_253 (h : c.value ≤ 253) :
    advanceCounter choice c = ({ c with value := c.value + 1 }, true) :=
  if_pos (by omega)

theorem advanceCounter_of_254 (h : c.value = 254) :
    advanceCounter choice c = ({ value := 255, terminal := true }, true) :=
  (if_neg (by omega)).trans (if_pos h)

theorem advanceCounter_hold_of_255 (h : c.value = 255) : advanceCounter .hold c = (c, false) :=
  (if_neg (by omega)).trans (if_neg (by omega))

theorem advanceCounter_wrap_of_255 (h : c.value = 255) :
    advanceCounter .wrap c = ({ value := 0, terminal := true }, true) :=
  (if_neg (by omega)).trans (if_neg (by omega))
end

/-! ## Counters and causes by kind (R152, R156) -/

@[simp] theorem ErrorCounters.get_set_self (e : ErrorCounters) (kind : ErrorKind) (c : ErrorCounter) :
    (e.set kind c).get kind = c := by
  cases kind <;> rfl

@[simp] theorem startErrors_get (kind : ErrorKind) :
    startErrors.get kind = { value := 0, terminal := false } := by
  cases kind <;> rfl

theorem startSettings_counter (kind : ErrorKind) : startSettings.counter kind = startCounterSettings := by
  cases kind <;> rfl

/-- A cause latched again before it is reported is the same cause (R156). -/
@[simp] theorem LaneCauses.latchThreshold_twice (c : LaneCauses) (kind : ErrorKind) :
    (c.latchThreshold kind).latchThreshold kind = c.latchThreshold kind := by
  cases kind <;> rfl

/-- The two causes of a threshold, of ATTEND and of FAULT, are latched in either order (R155). -/
theorem LaneCauses.latchThreshold_faulted (c : LaneCauses) (kind : ErrorKind) (f : Option ErrorKind) :
    ({ c with faulted := f } : LaneCauses).latchThreshold kind =
      { c.latchThreshold kind with faulted := f } := by
  cases kind <;> rfl

/-! ## A lane after a start, and causes after they are changed -/

theorem lane_startValues (s : State) (phase : Phase) (cause : StartCause) (l : LaneId) :
    (s.startValues phase cause).lane l = startLane (startMode s.commission l) (s.lane l).holdIn := by
  simp [State.startValues, State.lane, startLanes, look]

@[simp] theorem look_modCauses_self (s : State) (l : LaneId) (f : LaneCauses → LaneCauses) :
    look (s.modCauses l f).attention.lanes l = f (look s.attention.lanes l) :=
  look_put_self ..

@[simp] theorem lane_leaveReady (s : State) (l x : LaneId) (cause : LeaveCause) :
    (s.leaveReady l cause).lane x = s.lane x := by
  rw [leaveReady_frame]; rfl

@[simp] theorem attention_leaveReady (s : State) (l : LaneId) (cause : LeaveCause) :
    (s.leaveReady l cause).attention = s.attention := by
  rw [leaveReady_frame]

/-! ## The FAULT action (R157) -/

/-- Steps 1, 2 and 4 of R157: the lane FAULTED and cleared, and "faulted" latched. -/
def State.stopFaulted (s : State) (l : LaneId) (kind : ErrorKind) : State :=
  (s.modLane l fun L => L.stopped .faulted).modCauses l fun c => { c with faulted := some kind }

theorem faultLane_ready {s : State} {l : LaneId} (h : (s.lane l).mode = .ready) (kind : ErrorKind) :
    s.faultLane l kind = (s.leaveReady l .lost).stopFaulted l kind := by
  simp only [State.faultLane, if_pos h]; rfl

theorem faultLane_not_ready {s : State} {l : LaneId} (h : (s.lane l).mode ≠ .ready) (kind : ErrorKind) :
    s.faultLane l kind = s.stopFaulted l kind := by
  simp only [State.faultLane, if_neg h]; rfl

theorem lane_faultLane (s : State) (l : LaneId) (kind : ErrorKind) :
    (s.faultLane l kind).lane l = (s.lane l).stopped .faulted := by
  by_cases h : (s.lane l).mode = .ready
  · simp [faultLane_ready h, State.stopFaulted]
  · simp [faultLane_not_ready h, State.stopFaulted]

theorem causes_faultLane (s : State) (l : LaneId) (kind : ErrorKind) :
    look (s.faultLane l kind).attention.lanes l =
      { look s.attention.lanes l with faulted := some kind } := by
  by_cases h : (s.lane l).mode = .ready
  · simp [faultLane_ready h, State.stopFaulted]
  · simp [faultLane_not_ready h, State.stopFaulted]

/-! ## The threshold actions (R155) -/

/-- The ATTEND action of a counter by its settings (R156). -/
def State.attendThreshold (s : State) (l : LaneId) (kind : ErrorKind) (c : CounterSettings) : State :=
  if c.attend then s.modCauses l fun x => x.latchThreshold kind else s

@[simp] theorem lane_attendThreshold (s : State) (l x : LaneId) (kind : ErrorKind) (c : CounterSettings) :
    (s.attendThreshold l kind c).lane x = s.lane x := by
  unfold State.attendThreshold
  split <;> rfl

theorem causes_attendThreshold {c : CounterSettings} (h : c.attend = true) (s : State) (l : LaneId)
    (kind : ErrorKind) :
    look (s.attendThreshold l kind c).attention.lanes l =
      (look s.attention.lanes l).latchThreshold kind := by
  rw [State.attendThreshold, if_pos h, look_modCauses_self]

theorem thresholdActions_fault {c : CounterSettings} (h : c.fault = true) (s : State) (l : LaneId)
    (kind : ErrorKind) :
    s.thresholdActions l kind c = (s.attendThreshold l kind c).faultLane l kind :=
  if_pos h

theorem thresholdActions_no_fault {c : CounterSettings} (h : c.fault = false) (s : State) (l : LaneId)
    (kind : ErrorKind) : s.thresholdActions l kind c = s.attendThreshold l kind c :=
  if_neg (by simp [h])

theorem errors_thresholdActions (s : State) (l : LaneId) (kind : ErrorKind) (c : CounterSettings) :
    ((s.thresholdActions l kind c).lane l).errors = (s.lane l).errors := by
  cases h : c.fault with
  | false => rw [thresholdActions_no_fault h, lane_attendThreshold]
  | true => rw [thresholdActions_fault h, lane_faultLane, lane_attendThreshold]; rfl

theorem mode_thresholdActions_fault {c : CounterSettings} (h : c.fault = true) (s : State) (l : LaneId)
    (kind : ErrorKind) : ((s.thresholdActions l kind c).lane l).mode = .faulted := by
  rw [thresholdActions_fault h, lane_faultLane]; rfl

/-- With ATTEND on, "error threshold" of the kind is pending after the actions (R156). -/
theorem latchThreshold_thresholdActions {c : CounterSettings} (ha : c.attend = true) (s : State)
    (l : LaneId) (kind : ErrorKind) :
    (look (s.thresholdActions l kind c).attention.lanes l).latchThreshold kind =
      look (s.thresholdActions l kind c).attention.lanes l := by
  cases hf : c.fault with
  | false => rw [thresholdActions_no_fault hf, causes_attendThreshold ha, LaneCauses.latchThreshold_twice]
  | true =>
    rw [thresholdActions_fault hf, causes_faultLane, causes_attendThreshold ha,
      LaneCauses.latchThreshold_faulted, LaneCauses.latchThreshold_twice]

/-! ## An error report (R153 to R155) -/

section
variable {s : State} {l : LaneId} {kind : ErrorKind}

/-- What one error makes of a lane's counter, and whether the threshold test is taken (R154). -/
def State.advanced (s : State) (l : LaneId) (kind : ErrorKind) : ErrorCounter × Bool :=
  advanceCounter ((s.lane l).settings.counter kind).terminal ((s.lane l).errors.get kind)

/-- The state with one error counted (R154). -/
def State.countError (s : State) (l : LaneId) (kind : ErrorKind) : State :=
  s.modLane l fun L => { L with errors := L.errors.set kind (s.advanced l kind).1 }

/-- The next error of a kind takes the threshold test and leaves the counter at the threshold (R155). -/
def State.MeetsThreshold (s : State) (l : LaneId) (kind : ErrorKind) : Prop :=
  (s.advanced l kind).2 = true ∧ (s.advanced l kind).1.value = (s.lane l).settings.threshold

theorem reportError_disabled (h : ((s.lane l).settings.counter kind).enable = false) :
    s.reportError l kind = s :=
  if_neg (by simp [h])

theorem reportError_not_met (he : ((s.lane l).settings.counter kind).enable = true)
    (hm : ¬ s.MeetsThreshold l kind) : s.reportError l kind = s.countError l kind :=
  (if_pos he).trans (if_neg hm)

theorem reportError_met (he : ((s.lane l).settings.counter kind).enable = true)
    (hm : s.MeetsThreshold l kind) :
    s.reportError l kind =
      (s.countError l kind).thresholdActions l kind ((s.lane l).settings.counter kind) :=
  (if_pos he).trans (if_pos hm)

theorem mode_attendThreshold_countError (c : CounterSettings) :
    (((s.countError l kind).attendThreshold l kind c).lane l).mode = (s.lane l).mode := by
  simp [State.countError]

/-- A report to an enabled counter counts, whatever actions apply with it (R154, R155). -/
theorem errors_reportError (he : ((s.lane l).settings.counter kind).enable = true) :
    ((s.reportError l kind).lane l).errors = (s.lane l).errors.set kind (s.advanced l kind).1 := by
  have hcount : ((s.countError l kind).lane l).errors =
      (s.lane l).errors.set kind (s.advanced l kind).1 := by simp [State.countError]
  by_cases hm : s.MeetsThreshold l kind
  · rw [reportError_met he hm, errors_thresholdActions, hcount]
  · rw [reportError_not_met he hm, hcount]
end

/-! ## LANE CLEAR (R159) -/

theorem laneOf_of_above {lane : Byte} (h : 15 < lane.toNat) : laneOf lane = none :=
  dif_neg (by omega)

section
variable {lane : Byte} {l : LaneId} {s : State}

theorem withLane_of_no_lane (h : laneOf lane = none) (f : LaneId → State → Reply) :
    withLane lane f s = refuse s .range := by
  rw [withLane, h]

theorem withLane_of_off (h : laneOf lane = some l) (hoff : (s.lane l).mode = .off)
    (f : LaneId → State → Reply) : withLane lane f s = refuse s .range := by
  simp only [withLane, h, if_pos hoff]

theorem withLane_of_fitted (h : laneOf lane = some l) (hon : (s.lane l).mode ≠ .off)
    (f : LaneId → State → Reply) : withLane lane f s = f l s := by
  simp only [withLane, h, if_neg hon]
end

/-- The state with a lane's counters cleared (R159). -/
def State.clearErrors (s : State) (l : LaneId) : State :=
  s.modLane l fun L => { L with errors := startErrors }

@[simp] theorem lane_clearErrors (s : State) (l : LaneId) :
    (s.clearErrors l).lane l = { s.lane l with errors := startErrors } :=
  State.lane_modLane_self ..

theorem errorBytes_eq (e : ErrorCounters) :
    errorBytes e =
      [BitVec.ofNat 8 e.line.value, BitVec.ofNat 8 e.check.value, BitVec.ofNat 8 e.order.value,
        if e.line.terminal then 1 else 0, if e.check.terminal then 1 else 0,
        if e.order.terminal then 1 else 0] := by
  simp [errorBytes, u8, bytesOf, flagByte]

/-- The first error after LANE CLEAR takes a counter from 0 to 1, with the test taken (R159). -/
theorem advanced_clearErrors (s : State) (l : LaneId) (kind : ErrorKind) :
    (s.clearErrors l).advanced l kind = ({ value := 1, terminal := false }, true) := by
  rw [State.advanced, lane_clearErrors, startErrors_get, advanceCounter_of_le_253 (Nat.zero_le _)]

theorem meetsThreshold_clearErrors {s : State} {l : LaneId} (h : (s.lane l).settings.threshold = 1)
    (kind : ErrorKind) : (s.clearErrors l).MeetsThreshold l kind := by
  rw [State.MeetsThreshold, advanced_clearErrors, lane_clearErrors]
  exact ⟨rfl, h.symm⟩

end Sys2Proof.Machine

/-! ## The obligations -/

namespace Sys2Proof.Proofs

open Sys2Proof.Machine

/-- Settles O48: an advance by its four rows, and a report by the counter's enable, the threshold test, its
FAULT action and the lane's state. -/
theorem errorReportsAdvanceTheirCounter : Obligations.ErrorReportsAdvanceTheirCounter := by
  unfold Obligations.ErrorReportsAdvanceTheirCounter
  refine ⟨fun _ => ⟨rfl, rfl, rfl⟩,
    fun _ _ => ⟨rfl, rfl, rfl, rfl, rfl, rfl, fun _ => ⟨rfl, rfl, rfl⟩⟩,
    fun _ _ => ⟨advanceCounter_of_le_253, advanceCounter_of_254, advanceCounter_hold_of_255,
      advanceCounter_wrap_of_255⟩, ?start, ?report⟩
  case start =>
    intro s phase cause l kind
    rw [lane_startValues]
    simp [startLane, startSettings_counter, startCounterSettings]
  case report =>
    intro s l kind c after counted met attended faulted
    have hmode : (attended.lane l).mode = (s.lane l).mode := mode_attendThreshold_countError c
    refine ⟨reportError_disabled, reportError_not_met, fun he hm hf => ?noFault, fun he hm hf hdown => ?down,
      fun he hm hf hready => ?ready⟩
    case noFault => exact (reportError_met he hm).trans (thresholdActions_no_fault hf ..)
    case down =>
      calc s.reportError l kind = attended.faultLane l kind :=
            (reportError_met he hm).trans (thresholdActions_fault hf ..)
        _ = faulted attended := faultLane_not_ready (by rw [hmode, hdown]; decide) kind
    case ready =>
      calc s.reportError l kind = attended.faultLane l kind :=
            (reportError_met he hm).trans (thresholdActions_fault hf ..)
        _ = faulted (attended.leaveReady l .lost) := faultLane_ready (hmode.trans hready) kind

/-- Settles O49: LANE CLEAR by the lane it names, and the report that follows it. -/
theorem laneClearReturnsTheCounters : Obligations.LaneClearReturnsTheCounters := by
  unfold Obligations.LaneClearReturnsTheCounters
  intro s tag lane hs
  refine ⟨fun habove =>
    exec_of_handler_answers rfl rfl hs (withLane_of_no_lane (laneOf_of_above habove) _), ?_⟩
  intro l hl e cleared flag
  have hlane : cleared.lane l = { s.lane l with errors := startErrors } := lane_clearErrors s l
  have hsettings : (cleared.lane l).settings = (s.lane l).settings := congrArg (·.settings) hlane
  refine ⟨fun hoff => ?off, fun hon => ?done, fun kind =>
    ⟨fun he => ⟨?counted, fun hthreshold => ⟨fun hattend => ?attended, fun hfault _ => ?faulted⟩⟩, ?zero⟩⟩
  case off => exact exec_of_handler_answers rfl rfl hs (withLane_of_off hl hoff _)
  case done =>
    rw [← errorBytes_eq]
    exact exec_of_handler_answers rfl rfl hs (withLane_of_fitted hl hon _)
  case counted =>
    have herrors : ((cleared.reportError l kind).lane l).errors =
        (cleared.lane l).errors.set kind (cleared.advanced l kind).1 := errors_reportError he
    have hone : cleared.advanced l kind = ({ value := 1, terminal := false }, true) :=
      advanced_clearErrors s l kind
    rw [herrors, hone, ErrorCounters.get_set_self]
  case attended =>
    rw [reportError_met he (meetsThreshold_clearErrors hthreshold kind)]
    exact latchThreshold_thresholdActions (hsettings ▸ hattend) ..
  case faulted =>
    rw [reportError_met he (meetsThreshold_clearErrors hthreshold kind)]
    exact mode_thresholdActions_fault (hsettings ▸ hfault) ..
  case zero =>
    intro other
    rw [hlane, startErrors_get]

end Sys2Proof.Proofs
end


section
/-! PROOFS. The step, the part after reset, the frame check, and CASE READ with START READ. -/

namespace Sys2Proof.Machine

/-! ## The part after reset -/

theorem cell_startTable (slot : Slot) :
    look startTable.slots slot = { tag := 0, record := none } :=
  look_replicate ..

theorem book_startTable (l : LaneId) : look startTable.books l = startBook :=
  look_replicate ..

theorem entry_startKeys (i : Fin 4) : look startKeys.entries i = KeyEntry.vacant :=
  look_replicate ..

@[simp] theorem cell_reset (slot : Slot) : State.reset.cell slot = { tag := 0, record := none } :=
  cell_startTable slot

@[simp] theorem recordAt_reset (slot : Slot) : State.reset.recordAt slot = none := by
  rw [State.recordAt, cell_reset]

theorem free_reset : State.reset.table.free = List.finRange 2048 := by
  simp only [State.reset, startTable]

theorem waiting_reset : State.reset.table.waiting = [] := by
  simp only [State.reset, startTable]

@[simp] theorem book_reset (l : LaneId) : State.reset.book l = startBook :=
  book_startTable l

@[simp] theorem entry_reset (i : Fin 4) : State.reset.entry i = KeyEntry.vacant :=
  entry_startKeys i

@[simp] theorem lane_reset (l : LaneId) : State.reset.lane l = startLane .off false :=
  look_replicate ..

@[simp] theorem causes_reset (l : LaneId) : look State.reset.attention.lanes l = LaneCauses.clear :=
  look_replicate ..

/-! ## The frame check (R186) -/

theorem crc16_append (bytes : List Byte) (b : Byte) :
    crc16 (bytes ++ [b]) = (bitsOf b).foldl crcBit (crc16 bytes) := by
  simp [crc16, crcByte, List.foldl_append]

/-- A bit enters by the register's highest bit: equal bits shift, different ones shift and combine (R186). -/
theorem crcBit_eq (register : Half) (bit : Bool) :
    crcBit register bit =
      if register.getLsbD 15 = bit then register <<< 1 else (register <<< 1) ^^^ 0x1021 := by
  have hmsb : register.getMsbD 0 = register.getLsbD 15 := by simp [BitVec.getMsbD]
  unfold crcBit
  rw [hmsb]
  by_cases h : register.getLsbD 15 = bit <;> simp

/-- The two bytes of a number of sixteen bits are its upper and its lower half (R183). -/
theorem bytesOf_two_eq_halves (x : Half) :
    bytesOf 2 x.toNat = [x.extractLsb' 8 8, x.extractLsb' 0 8] := by
  simp only [bytesOf, pow_one, pow_zero, Nat.div_one, List.cons.injEq, and_true]
  constructor
  · apply BitVec.eq_of_toNat_eq
    simp [Nat.shiftRight_eq_div_pow]
  · apply BitVec.eq_of_toNat_eq
    simp

end Sys2Proof.Machine

/-! ## The obligations -/

namespace Sys2Proof.Proofs

open Sys2Proof.Machine

/-- Settles O1: the two rows of `step`. -/
theorem stepRunsTheFrontCommand : Obligations.StepRunsTheFrontCommand := by
  unfold Obligations.StepRunsTheFrontCommand
  refine ⟨fun _ _ _ => rfl, fun s hs => ?_⟩
  rw [step, hs]

/-- Settles O3: each block of `State.reset` at its start value. -/
theorem resetIsTheFactoryPart : Obligations.ResetIsTheFactoryPart := by
  unfold Obligations.ResetIsTheFactoryPart
  refine ⟨rfl, rfl, rfl, rfl, rfl, rfl, rfl, rfl, rfl, rfl, cell_reset, free_reset,
    rfl, rfl, waiting_reset, book_reset,
    entry_reset, rfl, rfl, fun l => ?lane, rfl, rfl, rfl, rfl, causes_reset, rfl, rfl, rfl⟩
  case lane =>
    rw [lane_reset]
    refine ⟨rfl, rfl, rfl, rfl, rfl, rfl, fun kind => ⟨startSettings_counter kind, startErrors_get kind⟩,
      rfl, rfl, rfl, rfl, rfl, rfl, rfl, rfl, rfl, rfl, rfl, rfl⟩

/-- Settles O4: no slot is occupied, no key is held and no job stands after reset, so each invariant is
about empty tables or about the start values. -/
theorem resetMeetsEveryInvariant : Obligations.ResetMeetsEveryInvariant := by
  unfold Obligations.ResetMeetsEveryInvariant
  have hlane : ∀ l, (State.reset.lane l).settings = startSettings := fun l => by rw [lane_reset]; rfl
  have hamount : ∀ l slot, State.reset.deferredAmount l slot = 0 := fun l slot => by
    rw [State.deferredAmount, recordAt_reset]
  have hone : ∀ l slot, State.reset.deferredOne l slot = 0 := fun l slot => by
    rw [State.deferredOne, recordAt_reset]
  have hjobs : State.reset.jobs = [] := rfl
  refine ⟨?settings, ?lanes, ?shares, ?slots, ?account, ?records, ?keys, ?engagements, ?generations,
    ?bindings, ?jobs, ?waiting, ?causes⟩
  case settings =>
    refine ⟨by simp [Limits.inRange, State.reset, startLimits],
      by simp [TimerSettings.inRange, State.reset, startTimers], fun l => ?_⟩
    rw [hlane l]
    simp [LaneSettings.inRange, startSettings]
  case lanes =>
    intro l
    rw [lane_reset]
    constructor
    · simp [Lane.bounded, startLane, startSettings, startErrors, Lane.fill]
    · simp [Lane.quiet, startLane]
  case shares => exact ⟨by decide, by decide⟩
  case slots =>
    rw [State.slotsPartitioned, free_reset]
    refine ⟨List.nodup_finRange 2048, fun slot => by simp, fun l => ?_, fun l slot => ?_⟩
    · rw [book_reset]; exact List.nodup_nil
    · simp [startBook]
  case account =>
    refine ⟨fun l => ?_, fun l => ?_, ?_⟩
    · rw [book_reset, Finset.sum_eq_zero fun slot _ => hamount l slot]; rfl
    · rw [book_reset, Finset.sum_eq_zero fun slot _ => hone l slot]; rfl
    · rw [Finset.sum_eq_zero fun l _ => by rw [book_reset]; rfl]; simp only [State.reset, startTable]
  case records => exact fun slot r hr => by simp at hr
  case keys =>
    refine ⟨fun i => ?_, fun i j hi => ?_⟩
    · rw [entry_reset]
      exact ⟨fun _ => rfl, fun h => absurd rfl h, fun l => by simp [KeyEntry.vacant]⟩
    · rw [entry_reset] at hi; exact absurd hi (by decide)
  case engagements =>
    refine ⟨fun l h hh => ?_, fun slot r hr => by simp at hr⟩
    rw [book_reset] at hh
    exact absurd hh (by simp [startBook])
  case generations =>
    refine ⟨fun i j hi => ?_, fun i j m n hm => ?_, fun i m hm => ?_, by decide⟩
    · rw [entry_reset] at hi; exact absurd hi (by decide)
    · rw [entry_reset] at hm; exact absurd hm (by simp [KeyEntry.vacant])
    · rw [entry_reset] at hm; exact absurd hm (by simp [KeyEntry.vacant])
  case bindings =>
    refine ⟨fun i m hm => ?_, fun slot r b hr => by simp at hr, fun slot r hr => by simp at hr⟩
    rw [entry_reset] at hm
    exact absurd hm (by simp [KeyEntry.vacant])
  case jobs => simp [State.jobsHold, hjobs]
  case waiting =>
    rw [State.waitingHolds, waiting_reset]
    exact ⟨List.Pairwise.nil, fun slot => by simp, fun slot r f hr => by simp at hr, fun h => absurd rfl h⟩
  case causes => exact ⟨List.Pairwise.nil, List.Pairwise.nil⟩

/-- Settles O9: the check by its rule for one byte and for one bit, and its value over the nine digits. -/
theorem frameCheckFollowsItsRule : Obligations.FrameCheckFollowsItsRule := by
  unfold Obligations.FrameCheckFollowsItsRule
  refine ⟨fun bytes => by simp [checkBytes, bytesOf], fun bytes b => ⟨rfl, crc16_append bytes b⟩, ?bits,
    crcBit_eq, by decide +kernel, fun bytes => bytesOf_two_eq_halves _⟩
  case bits =>
    intro b i h
    interval_cases i <;> simp [bitsOf, BitVec.getMsbD]

/-- Settles O59: each of the two requests is answered with the bytes of its indications, which it clears. -/
theorem caseReadAndStartRead : Obligations.CaseReadAndStartRead := by
  unfold Obligations.CaseReadAndStartRead
  have hcode : ∀ level : CaseLevel, u8 (caseCode level) = [if level = .closed then 1 else 2] := by
    intro level; cases level <;> rfl
  refine ⟨fun s tag hs => ?caseRead, fun s tag hs => ?startRead, rfl, rfl, rfl⟩
  case caseRead =>
    refine exec_of_handler_answers rfl rfl hs ?_
    have hlatch : Machine.optional 1 (fun level => u8 (caseCode level)) s.caseMon.latch =
        match s.caseMon.latch with
        | some level => [1, if level = .closed then 1 else 2]
        | none => [0, 0] := by
      cases s.caseMon.latch with
      | none => rfl
      | some level => exact congrArg (1 :: ·) (hcode level)
    rw [caseRead, caseReadBytes, hlatch, hcode, hcode, hcode, hcode]
    simp only [flagByte, CaseMonitor.current, caseLevel, List.flatten_cons, List.flatten_nil,
      List.cons_append, List.nil_append, List.append_nil]
    rfl
  case startRead =>
    refine exec_of_handler_answers rfl rfl hs ?_
    have hcause : u8 s.startCause.code = [match s.startCause with
        | .power => 1
        | .pin => 2
        | .request => 3] := by cases s.startCause <;> rfl
    simp only [startRead, startReadBytes, hcause]
    cases s.commission with
    | none => rfl
    | some c => simp [Machine.optional, commissioningBytes, flagByte, u8, u16] <;> rfl

end Sys2Proof.Proofs
end


section
/-! PROOFS. The supply monitor and the case lines (Chapter 10), the attention masks (R176), the starts and the
outputs (R180, R125, R170, R177). -/

namespace Sys2Proof.Machine

/-! ## The supply monitor by phase, state and voltage (R160, R161) -/

section
variable {s : State} {mv : Nat}

theorem supplyMoves_below_hold (h : mv < 2700) :
    s.supplyMoves mv = { s with supply := { s.supply with millivolts := mv }, phase := .unpowered } :=
  if_pos h

theorem supplyMoves_not_running (h : 2700 ≤ mv) (hp : s.phase ≠ .running) :
    s.supplyMoves mv = { s with supply := { s.supply with millivolts := mv } } :=
  (if_neg (Nat.not_lt.mpr h)).trans (if_neg hp)

/-- A running part compares the voltage it has come to (R160). -/
theorem supplyMoves_running (h : 2700 ≤ mv) (hp : s.phase = .running) :
    s.supplyMoves mv = State.compareSupply { s with supply := { s.supply with millivolts := mv } } :=
  (if_neg (Nat.not_lt.mpr h)).trans (if_pos hp)

theorem compareSupply_low (h : s.supply.state = .low) :
    s.compareSupply =
      { s with supply :=
        { s.supply with recovering := decide (s.level + 50 < s.supply.millivolts) } } := by
  simp only [State.compareSupply, h]
  rfl

theorem compareSupply_above (h : s.supply.state = .normal) (hv : s.level ≤ s.supply.millivolts) :
    s.compareSupply = s := by
  simp only [State.compareSupply, h, if_neg (Nat.not_lt.mpr hv)]

theorem compareSupply_below (h : s.supply.state = .normal) (hv : s.supply.millivolts < s.level) :
    s.compareSupply = s.supplyFalls := by
  simp only [State.compareSupply, h, if_pos hv]

end

/-- What a row that carries a voltage does to a LOW part (R160). -/
theorem supplyMoves_low {s : State} {mv : Nat} (h : 2700 ≤ mv) (hp : s.phase = .running)
    (hs : s.supply.state = .low) :
    s.supplyMoves mv =
      { s with supply :=
        { millivolts := mv, state := .low,
          recovering := decide (levelInForce s.commission + 50 < mv) } } := by
  rw [← hs]
  exact (supplyMoves_running h hp).trans (compareSupply_low hs)

/-- What a row that carries a voltage below the level does to a NORMAL part (R160, R161). -/
theorem supplyMoves_falls {s : State} {mv : Nat} (h : 2700 ≤ mv) (hp : s.phase = .running)
    (hs : s.supply.state = .normal) (hv : mv < levelInForce s.commission) :
    s.supplyMoves mv =
      State.latchSupply
        { s with supply := { millivolts := mv, state := .low, recovering := false } } .low := by
  exact (supplyMoves_running h hp).trans (compareSupply_below hs hv)

/-! ## The case monitor (R163) -/

theorem setLine_eq (c : CaseMonitor) (line : CaseLine) (level : CaseLevel) :
    c.setLine line level =
      match line with
      | .caseA => { c with lineA := level }
      | .caseB => { c with lineB := level } := by
  cases line <;> rfl

/-- The change of a line is latched when the latch is clear and the level differs from the registered one
(R163). -/
theorem latchChange_setLine (c : CaseMonitor) (line : CaseLine) (level : CaseLevel) :
    (c.setLine line level).latchChange =
      if c.latch = none ∧ (c.setLine line level).current ≠ c.registered then
        { c.setLine line level with latch := some (c.setLine line level).current }
      else c.setLine line level := by
  cases line <;> rfl

theorem erasureEnabled_iff (s : State) :
    s.erasureEnabled = true ↔ ∃ c, s.commission = some c ∧ c.eraseOnOpen = true := by
  unfold State.erasureEnabled
  cases s.commission <;> simp

section
variable {s : State} {line : CaseLine} {level : CaseLevel}

/-- The case monitor after a line has moved and the change is latched (R163). -/
def CaseMonitor.moved (c : CaseMonitor) (line : CaseLine) (level : CaseLevel) : CaseMonitor :=
  (c.setLine line level).latchChange

theorem caseLineChange_line_alone
    (h : s.phase ≠ .running ∨ (s.caseMon.setLine line level).current = s.caseMon.current) :
    caseLineChange line level s = { s with caseMon := s.caseMon.setLine line level } :=
  if_neg fun hc => h.elim (fun hp => hp hc.1) hc.2

theorem caseLineChange_latches (hp : s.phase = .running)
    (hc : (s.caseMon.setLine line level).current ≠ s.caseMon.current)
    (he : ¬ ((s.caseMon.setLine line level).current = .opened ∧ s.erasureEnabled = true)) :
    caseLineChange line level s = { s with caseMon := s.caseMon.moved line level } :=
  (if_pos ⟨hp, hc⟩).trans (if_neg he)

theorem caseLineChange_erases (hp : s.phase = .running)
    (hc : (s.caseMon.setLine line level).current ≠ s.caseMon.current)
    (he : (s.caseMon.setLine line level).current = .opened ∧ s.erasureEnabled = true) :
    caseLineChange line level s = erasure { s with caseMon := s.caseMon.moved line level } :=
  (if_pos ⟨hp, hc⟩).trans (if_pos he)

end

/-! ## Eligible causes (R174, R176) -/

/-- A cause is eligible when its class is enabled and its lane, if it has one, is not masked (R174). -/
theorem isEligible_iff (s : State) (c : Cause) :
    s.isEligible c = true ↔
      s.attention.classes.getLsbD (c.classNumber - 1) = true ∧
        ∀ l, c.lane = some l → s.attention.laneMask.getLsbD l.val = true := by
  unfold State.isEligible
  cases c.lane <;> simp

theorem mem_eligibleCauses (s : State) (c : Cause) :
    c ∈ s.eligibleCauses ↔
      c ∈ s.pendingCauses ∧ s.attention.classes.getLsbD (c.classNumber - 1) = true ∧
        ∀ l, c.lane = some l → s.attention.laneMask.getLsbD l.val = true := by
  rw [State.eligibleCauses, List.mem_filter, isEligible_iff]

/-! ## The outputs (R125, R172, R177) -/

theorem attentionOut_iff (s : State) :
    s.attentionOut = true ↔ s.phase = .running ∧ ∃ cause ∈ s.pendingCauses,
      s.attention.classes.getLsbD (cause.classNumber - 1) = true ∧
        ∀ l, cause.lane = some l → s.attention.laneMask.getLsbD l.val = true := by
  have hne : (!s.eligibleCauses.isEmpty) = true ↔ ∃ c, c ∈ s.eligibleCauses := by
    cases s.eligibleCauses with
    | nil => simp
    | cons c rest => exact ⟨fun _ => ⟨c, List.mem_cons_self⟩, fun _ => rfl⟩
  simp only [State.attentionOut, Bool.and_eq_true, decide_eq_true_eq, hne, mem_eligibleCauses]

theorem answerOut_iff (s : State) :
    s.answerOut = true ↔ s.phase = .running ∧ ∃ r, s.port.state = .answering r := by
  unfold State.answerOut
  cases s.port.state <;> simp

theorem holdOut_eq_false_iff (s : State) (l : LaneId) :
    s.holdOut l = false ↔ s.phase = .running ∧
      ((s.lane l).mode = .down ∨ (s.lane l).mode = .ready) ∧ (s.lane l).fillHold = false := by
  have hruns : (s.lane l).runs = true ↔ (s.lane l).mode = .down ∨ (s.lane l).mode = .ready := by
    simp [Lane.runs]
  rw [State.holdOut, Bool.not_eq_false', Bool.and_eq_true, Bool.and_eq_true, hruns, decide_eq_true_eq,
    Bool.not_eq_true', and_assoc]

/-- With no response to carry, or in a part that does not run, SDO carries the idle byte alone (R172, R180). -/
theorem sdoRead_not_running {s : State} (h : s.phase ≠ .running) (n : Nat) :
    s.sdoRead n = List.replicate n Config.idleByte := by
  unfold State.sdoRead
  cases s.port.state <;> simp [sdoBytes, h]

theorem sdoOut_not_running {s : State} (h : s.phase ≠ .running) (bytes : List Byte) :
    s.sdoOut bytes = List.replicate bytes.length Config.idleByte := by
  cases bytes with
  | nil => rfl
  | cons first rest =>
    by_cases hf : first = Config.readByte
    · rw [hf, sdoOut_read, sdoRead_not_running h]; rfl
    · rw [sdoOut_not_read s hf]; rfl

/-! ## The lanes after a start (R121) -/

/-- A lane is DOWN after a start when it is fitted on a commissioned part, OFF otherwise (R121). -/
theorem startMode_eq (commission : Option Commissioning) (l : LaneId) :
    startMode commission l =
      if ∃ c, commission = some c ∧ l.val < c.fitted then .down else .off := by
  cases commission <;> simp [startMode]

theorem startLane_eq_reset (mode : LaneMode) (holdIn : Bool) (l : LaneId) :
    startLane mode holdIn = { State.reset.lane l with mode := mode, holdIn := holdIn } := by
  rw [lane_reset]; rfl

end Sys2Proof.Machine

/-! ## The obligations -/

namespace Sys2Proof.Proofs

open Sys2Proof.Machine

/-- Settles O54: a row that carries a voltage by the voltage, the phase and the supply state, and the expiry
of the recovery timer. -/
theorem supplyMonitorFollowsTheVoltage : Obligations.SupplyMonitorFollowsTheVoltage := by
  unfold Obligations.SupplyMonitorFollowsTheVoltage
  refine ⟨rfl, fun _ => rfl, rfl, fun s mv hp => ?rows, fun s mv i hi => ?voltage⟩
  case rows =>
    refine ⟨fun hs h hv => ?_, fun hs h hv => ?_, fun hs h hv => ?_, fun h => ?_, fun hs hr => ?_,
      fun h => ?_⟩
    · exact congrArg Host.Outcome.next (supplyMoves_falls h hp hs hv)
    · exact congrArg Host.Outcome.next ((supplyMoves_low h hp hs).trans (by rw [decide_eq_true hv]))
    · exact congrArg Host.Outcome.next
        ((supplyMoves_low h hp hs).trans (by rw [decide_eq_false (Nat.not_lt.mpr hv)]))
    · exact congrArg Host.Outcome.next (supplyMoves_below_hold h)
    · exact congrArg Host.Outcome.next ((whenRunning_of_running hp _).trans (if_pos ⟨hs, hr⟩))
    · refine congrArg Host.Outcome.next ((whenRunning_of_running hp _).trans (if_neg fun hc => ?_))
      rcases h with h | h
      · simp [h] at hc
      · simp [h] at hc
  case voltage =>
    have hexec : exec i s = .next (s.supplyMoves mv) := by
      rcases hi with rfl | rfl | rfl <;> rfl
    rw [hexec]
    refine ⟨fun h => ?_, fun h hp => ?_, fun h hp hs => ?_, fun h hp hs hv => ?_, fun h hp hs hv => ?_⟩
    · exact congrArg Host.Outcome.next (supplyMoves_below_hold h)
    · exact congrArg Host.Outcome.next (supplyMoves_not_running h hp)
    · exact congrArg Host.Outcome.next (supplyMoves_low h hp hs)
    · exact congrArg Host.Outcome.next ((supplyMoves_running h hp).trans (compareSupply_above hs hv))
    · exact congrArg Host.Outcome.next (supplyMoves_falls h hp hs hv)

/-- Settles O55: a change of a line by whether the case level changes and whether it erases. -/
theorem caseLinesLatchAndErase : Obligations.CaseLinesLatchAndErase := by
  unfold Obligations.CaseLinesLatchAndErase
  refine ⟨fun _ => rfl, fun s line level => ?_⟩
  intro moved now before latched erases
  have hmoved : s.caseMon.setLine line level = moved := setLine_eq ..
  have hnow : (s.caseMon.setLine line level).current = now := congrArg CaseMonitor.current hmoved
  have hlatched : s.caseMon.moved line level = latched := by
    have h := latchChange_setLine s.caseMon line level
    rw [hnow, hmoved] at h
    exact (congrArg CaseMonitor.latchChange hmoved).trans h
  have herases : ((s.caseMon.setLine line level).current = .opened ∧ s.erasureEnabled = true) ↔ erases := by
    rw [hnow, erasureEnabled_iff]
  refine ⟨fun h => ?_, fun hp hc he => ?_, fun hp hc he => ?_⟩
  · rw [← hmoved]
    exact congrArg Host.Outcome.next (caseLineChange_line_alone (h.imp id hnow.trans))
  · rw [← hlatched]
    exact congrArg Host.Outcome.next
      (caseLineChange_latches hp (fun h => hc (hnow.symm.trans h)) (fun h => he (herases.mp h)))
  · rw [← hlatched]
    exact congrArg Host.Outcome.next
      (caseLineChange_erases hp (fun h => hc (hnow.symm.trans h)) (herases.mpr he))

/-- Settles O58: the masks are no part of what is pending, so the eligible causes follow them alone. -/
theorem attentionMaskSetsBothMasks : Obligations.AttentionMaskSetsBothMasks := by
  unfold Obligations.AttentionMaskSetsBothMasks
  refine ⟨fun s tag classes lanes hs => ?_, fun _ _ _ => ⟨rfl, rfl, rfl, rfl, rfl⟩,
    fun _ _ => ⟨rfl, rfl, rfl⟩, fun _ _ _ => ⟨rfl, rfl, rfl, rfl⟩, fun _ _ _ => ⟨rfl, rfl⟩⟩
  intro t
  exact ⟨exec_of_handler_answers rfl rfl hs rfl, rfl, fun cause => mem_eligibleCauses t cause⟩

/-- Settles O5: the four commands of a start, the start values block by block, and the four outputs. -/
theorem startsLeaveTheStartValues : Obligations.StartsLeaveTheStartValues := by
  unfold Obligations.StartsLeaveTheStartValues
  refine ⟨fun _ => rfl, fun s mv hp hv => ?settled, fun s hp => ?asserted, fun s hp => ?released,
    fun s mv h => ?noEvent, fun s t phase cause ht => ?values, fun s => ?outputs⟩
  case settled => exact congrArg Host.Outcome.next (if_pos ⟨hp, hv⟩)
  case asserted => exact congrArg Host.Outcome.next (if_pos hp)
  case released => exact congrArg Host.Outcome.next (if_pos hp)
  case noEvent =>
    refine congrArg Host.Outcome.next (if_neg fun hc => ?_)
    exact h.elim (fun hp => hp hc.1) (fun hv => absurd hc.2 (Nat.not_le.mpr hv))
  case values =>
    subst ht
    refine ⟨rfl, rfl, rfl, rfl, rfl, rfl, rfl, rfl, rfl, rfl, rfl, rfl, rfl, rfl, fun l => ?_, rfl, rfl⟩
    rw [lane_startValues, startMode_eq, startLane_eq_reset _ _ l]
  case outputs =>
    refine ⟨attentionOut_iff s, answerOut_iff s, holdOut_eq_false_iff s,
      fun first rest hf => sdoOut_not_read s hf rest, fun r rest hp hr => ?_, fun rest hr => ?_,
      fun hp => ⟨?_, ?_, fun l => ?_, sdoOut_not_running hp⟩⟩
    · exact (sdoOut_read s rest).trans (congrArg _ (sdoRead_answering hp hr _))
    · exact (sdoOut_read s rest).trans (congrArg _ (sdoRead_not_answering hr _))
    · exact Bool.eq_false_iff.mpr fun h => hp ((attentionOut_iff s).mp h).1
    · exact Bool.eq_false_iff.mpr fun h => hp ((answerOut_iff s).mp h).1
    · exact Bool.not_eq_false _ ▸ fun h => hp ((holdOut_eq_false_iff s l).mp h).1

end Sys2Proof.Proofs
end


section
/-! PROOFS. Reader lanes (Chapter 7): the line receiver, breaks, end frames and the outbound list. -/

namespace Sys2Proof.Machine

/-! ## Events of a running part, and the line receiver (R123 to R125, R127) -/

/-- An event inside a running part is its rule (R160, R180). -/
theorem exec_of_running {i : Instr} {s t : State} {f : State → State} (hp : s.phase = .running)
    (hexec : exec i s = .next (whenRunning f s)) (hf : f s = t) : exec i s = .next t := by
  rw [hexec, whenRunning_of_running hp, hf]

section
variable {s : State} {l : LaneId} (hr : (s.lane l).runs = true)
include hr

theorem lineCharacter_kept (hm : (s.lane l).rxLine = .mark) (hf : (s.lane l).fill < 128) (b : Byte) :
    lineCharacter l b true s = s.modLane l fun L => L.append b :=
  (if_pos ⟨hr, hm⟩).trans ((if_pos rfl).trans (if_pos hf))

theorem lineCharacter_lost (hm : (s.lane l).rxLine = .mark) (hf : 128 ≤ (s.lane l).fill) (b : Byte) :
    lineCharacter l b true s = s.reportError l .line :=
  (if_pos ⟨hr, hm⟩).trans ((if_pos rfl).trans (if_neg (Nat.not_lt.mpr hf)))

theorem lineCharacter_stopAtSpace (hm : (s.lane l).rxLine = .mark) (b : Byte) :
    lineCharacter l b false s = s.modLane l fun L => { L with rxLine := .stopAtSpace } :=
  (if_pos ⟨hr, hm⟩).trans (if_neg (by decide))

theorem lineReturnToMark_after_stop (hm : (s.lane l).rxLine = .stopAtSpace) :
    lineReturnToMark l s = (s.modLane l fun L => { L with rxLine := .mark }).reportError l .line :=
  if_pos ⟨hr, hm⟩

theorem gap_of_runs : gap l s = s.modLane l fun L => { L with rxFifo := L.rxFifo ++ [.gap] } :=
  if_pos hr

end

theorem lineReturnToMark_after_break {s : State} {l : LaneId} (hm : (s.lane l).rxLine = .inBreak) :
    lineReturnToMark l s = s.modLane l fun L => { L with rxLine := .mark } :=
  if_neg fun h => by simp [hm] at h

/-- A gap marker takes no place (R125, R127). -/
theorem fill_append_gap (L : Lane) : ({ L with rxFifo := L.rxFifo ++ [.gap] } : Lane).fill = L.fill := by
  simp [Lane.fill]

/-! ## Breaks (R124) -/

theorem lineBreak_ready {s : State} {l : LaneId} (hm : (s.lane l).mode = .ready)
    (hx : (s.lane l).rxLine ≠ .inBreak) :
    lineBreak l s =
      ((s.leaveReady l .lost).modLane l Lane.broken).modCauses l fun c => { c with down := true } := by
  simp [lineBreak, Lane.runs, hm, hx]

theorem lineBreak_down {s : State} {l : LaneId} (hm : (s.lane l).mode = .down)
    (hx : (s.lane l).rxLine ≠ .inBreak) : lineBreak l s = s.modLane l Lane.broken := by
  simp [lineBreak, Lane.runs, hm, hx]

theorem lineBreak_not_runs {s : State} {l : LaneId} (hr : (s.lane l).runs = false) :
    lineBreak l s = s.modLane l fun L => { L with rxLine := .inBreak } :=
  if_neg (by simp [hr])

/-! ## A lane leaves READY (R54, R55) -/

theorem modBook_modBook (s : State) (l : LaneId) (f g : LaneBook → LaneBook) :
    (s.modBook l f).modBook l g = s.modBook l (g ∘ f) := by
  simp [State.modBook, State.book]

/-- An engaged handle that is current names the lane's engaged record (R10). -/
theorem engaged_of_current {s : State} {l : LaneId} {h : Handle} {r : Record}
    (he : (s.book l).engaged = some h) (hr : s.current? h = some r) :
    s.engaged? l = some (slotOf h, r) := by
  simp [State.engaged?, he, hr]

theorem engaged_of_none {s : State} {l : LaneId} (he : (s.book l).engaged = none) :
    s.engaged? l = none := by
  simp [State.engaged?, he]

/-- The lane's expired delivery sequence becomes absent (R47). -/
def State.forgetExpired (s : State) (l : LaneId) : State :=
  s.modBook l fun b => { b with expired := none }

section
variable {s : State} {l : LaneId} {slot : Slot} {r : Record}

theorem leaveReady_not_engaged (he : s.engaged? l = none) (cause : LeaveCause) :
    s.leaveReady l cause = s.forgetExpired l := by
  simp only [State.leaveReady, he]; rfl

theorem leaveReady_armed (he : s.engaged? l = some (slot, r)) (hs : r.state = .armed)
    (cause : LeaveCause) :
    s.leaveReady l cause =
      ((s.modRecord slot (Record.laneLost cause)).endEngagement l).forgetExpired l := by
  simp only [State.leaveReady, he, if_pos hs]; rfl

theorem leaveReady_delivering (he : s.engaged? l = some (slot, r)) (hs : r.state ≠ .armed)
    (hd : r.delivery.value = .queued ∨ r.delivery.value = .sent) (cause : LeaveCause) :
    s.leaveReady l cause =
      ((s.modRecord slot Record.deliveryLost).endEngagement l).forgetExpired l := by
  simp only [State.leaveReady, he, if_neg hs, if_pos hd]; rfl

theorem leaveReady_kept (he : s.engaged? l = some (slot, r)) (hs : r.state ≠ .armed)
    (hd : ¬ (r.delivery.value = .queued ∨ r.delivery.value = .sent)) (cause : LeaveCause) :
    s.leaveReady l cause = s.forgetExpired l := by
  simp only [State.leaveReady, he, if_neg hs, if_neg hd]; rfl

end

/-- The engagement ended and the expired sequence absent, in one change of the book (R47, R48). -/
theorem forgetExpired_endEngagement (s : State) (l : LaneId) :
    (s.endEngagement l).forgetExpired l =
      s.modBook l fun b => { b with engaged := none, expired := none } :=
  modBook_modBook ..

/-! ## The outbound list (R129) -/

theorem Lane.runs_iff (L : Lane) : L.runs = true ↔ L.mode = .down ∨ L.mode = .ready := by
  simp [Lane.runs]

theorem Lane.offer_of_runs {L : Lane} (h : L.mode = .down ∨ L.mode = .ready) (f : PartFrame) :
    L.offer f = { L with outbound := offerTo L.outbound f } :=
  if_pos ((Lane.runs_iff L).mpr h)

theorem Lane.offer_of_not_runs {L : Lane} (h : L.runs = false) (f : PartFrame) : L.offer f = L :=
  if_neg (by simp [h])

theorem isRefuse_iff (f : PartFrame) :
    f.isRefuse = true ↔ ∃ reason sequence, f = .refuse reason sequence := by
  cases f <;> simp [PartFrame.isRefuse]

/-- The REFUSE nearest the tail is the one with none behind it (R129). -/
theorem dropLastRefuse_of_last {before after : List PartFrame} {f : PartFrame} (hf : f.isRefuse = true)
    (hafter : ∀ g ∈ after, g.isRefuse = false) :
    dropLastRefuse (before ++ f :: after) = before ++ after := by
  have hrev : ∀ g ∈ after.reverse, ¬ g.isRefuse = true := by simpa using hafter
  rw [dropLastRefuse, List.reverse_append, List.reverse_cons, List.append_assoc,
    List.eraseP_append_right _ hrev]
  simp [hf]

theorem offerTo_of_room {l : List PartFrame} (h : l.length < 4) (f : PartFrame) :
    offerTo l f = l ++ [f] :=
  if_pos h

theorem offerTo_refuse_full {l : List PartFrame} (h : l.length = 4) {f : PartFrame}
    (hf : f.isRefuse = true) : offerTo l f = l :=
  (if_neg (by simp [Config.outboundCapacity, h])).trans (if_pos hf)

/-- At four another frame takes the place of the REFUSE nearest the tail (R129). -/
theorem offerTo_replaces {before after : List PartFrame} {f g : PartFrame}
    (h : (before ++ g :: after).length = 4) (hg : g.isRefuse = true)
    (hafter : ∀ x ∈ after, x.isRefuse = false) (hf : f.isRefuse = false) :
    offerTo (before ++ g :: after) f = before ++ after ++ [f] := by
  have hkept : (before ++ after).length < Config.outboundCapacity := by
    simp only [List.length_append, List.length_cons, Config.outboundCapacity] at h ⊢; omega
  unfold offerTo
  rw [if_neg (by simp only [Config.outboundCapacity, h]; decide), if_neg (by simp [hf]),
    dropLastRefuse_of_last hg hafter]
  exact if_pos hkept

end Sys2Proof.Machine

/-! ## The obligations -/

namespace Sys2Proof.Proofs

open Sys2Proof.Machine

/-- Settles O41: the line receiver by the level of the line and the fill. -/
theorem lineReceiverFillsTheFifo : Obligations.LineReceiverFillsTheFifo := by
  unfold Obligations.LineReceiverFillsTheFifo
  intro s l b hp hr
  refine ⟨fun hm hf => exec_of_running hp rfl (lineCharacter_kept hr hm hf b),
    fun hm hf => exec_of_running hp rfl (lineCharacter_lost hr hm hf b),
    fun hm => exec_of_running hp rfl (lineCharacter_stopAtSpace hr hm b),
    fun hm => exec_of_running hp rfl (lineReturnToMark_after_stop hr hm),
    fun hm => exec_of_running hp rfl (lineReturnToMark_after_break hm),
    exec_of_running hp rfl (gap_of_runs hr), ?_⟩
  rw [State.lane_modLane_self, fill_append_gap]

/-- Settles O42: a break by the lane's state, and the record table's acts by the engaged record. -/
theorem breaksAndLeavingReady : Obligations.BreaksAndLeavingReady := by
  unfold Obligations.BreaksAndLeavingReady
  refine ⟨fun s l hp hx => ⟨fun hm => exec_of_running hp rfl (lineBreak_ready hm hx),
    fun hm => exec_of_running hp rfl (lineBreak_down hm hx),
    fun hr => exec_of_running hp rfl (lineBreak_not_runs hr)⟩, fun s l cause => ?_⟩
  refine ⟨fun he => leaveReady_not_engaged (engaged_of_none he) cause, fun h r he hr => ?_⟩
  have hengaged := engaged_of_current he hr
  have hat : s.recordAt (slotOf h) = some r := State.recordAt_of_current hr
  refine ⟨fun hs => ?armed, fun hs hd => ?delivering, fun hs hq hsent => ?kept⟩
  case armed =>
    rw [leaveReady_armed hengaged hs, forgetExpired_endEngagement, modRecord_eq hat]
    cases cause <;> rfl
  case delivering =>
    rw [leaveReady_delivering hengaged hs hd, forgetExpired_endEngagement, modRecord_eq hat]
    rfl
  case kept => exact leaveReady_kept hengaged hs (fun hd => hd.elim hq hsent) cause

/-- Settles O43: an end frame by the delivery and the lane's state. -/
theorem endFramesFollowTheLane : Obligations.EndFramesFollowTheLane := by
  unfold Obligations.EndFramesFollowTheLane
  intro s slot kind frame r hr
  exact ⟨fun hd hl => queueEndFrame_ready hr hd hl kind frame,
    fun hd hl => queueEndFrame_not_ready hr hd hl kind frame,
    fun hd => queueEndFrame_again hr hd kind frame, fun _ => rfl, fun _ => rfl⟩

/-- Settles O44: an offer by the lane's state and the room on its list. -/
theorem outboundListTakesFourFrames : Obligations.OutboundListTakesFourFrames := by
  unfold Obligations.OutboundListTakesFourFrames
  refine ⟨fun _ _ _ => rfl, fun L f h => Lane.offer_of_runs h f, isRefuse_iff, fun L f h => ?stopped,
    fun L f h hroom => ?room, fun L reason sequence h hfull => ?dropped,
    fun L before after reason sequence f h hlist hfull hafter hf => ?replaces⟩
  case stopped =>
    refine Lane.offer_of_not_runs (Bool.eq_false_iff.mpr fun hr => ?_) f
    rcases (Lane.runs_iff L).mp hr with hm | hm <;> simp [hm] at h
  case room => rw [Lane.offer_of_runs h, offerTo_of_room hroom]
  case dropped => rw [Lane.offer_of_runs h, offerTo_refuse_full hfull rfl]
  case replaces =>
    rw [Lane.offer_of_runs h, hlist, offerTo_replaces (hlist ▸ hfull) rfl hafter hf]

end Sys2Proof.Proofs
end


section
/-! PROOFS. Reader lanes (Chapter 7): the frame assembler, the transmit side, and LANE HOLD, LANE OPEN and LANE
SETUP. -/

namespace Sys2Proof.Machine

/-! ## What the assembler takes next (R126, R127) -/

/-- The assembler's next byte with the lane it leaves: first what is left of an abandoned frame, then the
FIFO, whose fill hold clears at the low mark (R125, R127). -/
def Lane.NextByte (L : Lane) (b : Byte) (M : Lane) : Prop :=
  (∃ more, L.replay = b :: more ∧ M = { L with replay := more }) ∨
    ∃ rest, L.replay = [] ∧ L.rxFifo = .byte b :: rest ∧ M = L.dropHead rest

section
variable {L M : Lane} {b : Byte}

theorem takeNext_of_nextByte (h : L.NextByte b M) : L.takeNext = M.assemble b := by
  rcases h with ⟨more, hr, rfl⟩ | ⟨rest, hr, hf, rfl⟩
  · simp only [Lane.takeNext, hr]
  · simp only [Lane.takeNext, hr, hf]

theorem takeNext_of_gap {rest : List RxItem} (hr : L.replay = []) (hf : L.rxFifo = .gap :: rest) :
    L.takeNext = ({ L with rxFifo := rest } : Lane).assembleGap := by
  simp only [Lane.takeNext, hr, hf]

theorem takeNext_of_nothing (hr : L.replay = []) (hf : L.rxFifo = []) : L.takeNext = (L, false) := by
  simp only [Lane.takeNext, hr, hf]

/-- Taking a byte leaves the assembler's state and its partial frame. -/
theorem assembler_of_nextByte (h : L.NextByte b M) : M.assembler = L.assembler ∧ M.frame = L.frame := by
  rcases h with ⟨more, _, rfl⟩ | ⟨rest, _, _, rfl⟩ <;> exact ⟨rfl, rfl⟩

/-! ## What a byte does (R126) -/

theorem assemble_hunt_start (h : L.assembler = .hunt) :
    L.assemble 0x7E = ({ L with assembler := .length, frame := [0x7E] }, false) := by
  simp [Lane.assemble, h, Config.laneStartByte]

theorem assemble_hunt_other (h : L.assembler = .hunt) (hb : b ≠ 0x7E) : L.assemble b = (L, false) := by
  simp only [Lane.assemble, h]
  exact if_neg hb

theorem assemble_length_short (h : L.assembler = .length) (hb : b.toNat ≤ 240) :
    L.assemble b = ({ L with assembler := .collect, frame := L.frame ++ [b] }, false) := by
  simp only [Lane.assemble, h]
  exact if_pos hb

theorem assemble_length_long (h : L.assembler = .length) (hb : 240 < b.toNat) :
    L.assemble b = ({ L with assembler := .hunt, frame := [] }, true) := by
  simp only [Lane.assemble, h]
  exact if_neg (Nat.not_le.mpr hb)

theorem assemble_collect_more (h : L.assembler = .collect)
    (hn : (L.frame ++ [b]).length < ((L.frame ++ [b]).getD 1 0).toNat + 6) :
    L.assemble b = ({ L with frame := L.frame ++ [b] }, false) := by
  simp only [Lane.assemble, h, if_pos hn]

theorem assemble_collect_good (h : L.assembler = .collect)
    (hn : ((L.frame ++ [b]).getD 1 0).toNat + 6 ≤ (L.frame ++ [b]).length)
    (hg : frameGood (L.frame ++ [b]) = true) :
    L.assemble b =
      ({ L with assembler := .stalled, frame := [], slot := some (frameOf (L.frame ++ [b])) }, false) := by
  simp only [Lane.assemble, h, if_neg (Nat.not_lt.mpr hn), if_pos hg]

theorem assemble_collect_bad (h : L.assembler = .collect)
    (hn : ((L.frame ++ [b]).getD 1 0).toNat + 6 ≤ (L.frame ++ [b]).length)
    (hg : frameGood (L.frame ++ [b]) = false) :
    L.assemble b =
      ({ L with
          assembler := .hunt, frame := [], replay := (L.frame ++ [b]).drop 1 ++ L.replay }, true) := by
  simp only [Lane.assemble, h, if_neg (Nat.not_lt.mpr hn), hg]
  rfl

theorem assembleGap_hunt (h : L.assembler = .hunt) : L.assembleGap = (L, false) := by
  simp only [Lane.assembleGap, h]

theorem assembleGap_inside (h : L.assembler = .length ∨ L.assembler = .collect) :
    L.assembleGap = ({ L with assembler := .hunt, frame := [] }, true) := by
  rcases h with h | h <;> simp only [Lane.assembleGap, h]

end

/-! ## A step of the assembler -/

section
variable {s : State} {l : LaneId}

theorem assemblerTakeByte_waits
    (h : (s.lane l).runs = false ∨ (s.lane l).assembler = .stalled ∨ (s.lane l).slot ≠ none) :
    assemblerTakeByte l s = s :=
  if_neg fun hc => by rcases h with h | h | h <;> simp_all

/-- The lane as it stands, put back, changes nothing. -/
theorem modLane_same (s : State) (l : LaneId) : (s.modLane l fun _ => s.lane l) = s := by
  simp [State.modLane, State.lane]

variable {M : Lane} (hr : (s.lane l).runs = true) (ha : (s.lane l).assembler ≠ .stalled)
  (hs : (s.lane l).slot = none)
include hr ha hs

theorem assemblerTakeByte_keeps (h : (s.lane l).takeNext = (M, false)) :
    assemblerTakeByte l s = s.modLane l fun _ => M := by
  simp [assemblerTakeByte, hr, ha, hs, h]

theorem assemblerTakeByte_reports (h : (s.lane l).takeNext = (M, true)) :
    assemblerTakeByte l s = (s.modLane l fun _ => M).reportError l .check := by
  simp [assemblerTakeByte, hr, ha, hs, h]

end

/-! ## The transmit side (R45, R130, R131) -/

theorem PartFrame.endKind_outcome_iff (f : PartFrame) : f.endKind = some .outcome ↔ f.kind = 0x84 := by
  cases f <;> simp [PartFrame.endKind, PartFrame.kind]

theorem PartFrame.endKind_close_iff (f : PartFrame) : f.endKind = some .close ↔ f.kind = 0x85 := by
  cases f <;> simp [PartFrame.endKind, PartFrame.kind]

/-- A part frame on the line: start byte, length, kind, sequence, body, check (R185). -/
theorem PartFrame.bytes_eq (f : PartFrame) (sequence : Byte) :
    f.bytes sequence =
      [0x7E] ++ ([BitVec.ofNat 8 f.body.length, f.kind, sequence] ++ f.body) ++
        checkBytes ([BitVec.ofNat 8 f.body.length, f.kind, sequence] ++ f.body) := by
  simp [PartFrame.bytes, laneFrameBytes, u8, bytesOf, Config.laneStartByte]

section
variable {s : State} {l : LaneId}

theorem transmitCharacter_sends {b : Byte} {rest : List Byte} (hr : (s.lane l).runs = true)
    (hf : (s.lane l).txFifo = b :: rest) (hh : (s.lane l).holdIn = false) :
    transmitCharacter l s = s.modLane l fun L => { L with txFifo := rest, txLine := some b } := by
  simp only [transmitCharacter, hf, if_pos (And.intro hr hh)]

theorem transmitCharacter_held (hh : (s.lane l).holdIn = true) : transmitCharacter l s = s := by
  unfold transmitCharacter
  split
  · rfl
  · exact if_neg fun h => by simp [hh] at h

/-- A lane with its head part frame moved into the transmit FIFO (R130). -/
def Lane.sent (L : Lane) (rest : List PartFrame) (bytes : List Byte) : Lane :=
  { L with outbound := rest, txFifo := L.txFifo ++ bytes, nextPart := L.nextPart + 1 }

variable {f : PartFrame} {rest : List PartFrame} (hf : (s.lane l).outbound = f :: rest)
include hf

theorem moveFrame_waits (h : 64 < (s.lane l).txFifo.length + (f.bytes (s.lane l).nextPart).length) :
    moveFrame l s = s := by
  simp only [moveFrame, hf]
  exact if_neg fun hc => absurd hc.2 (Nat.not_le.mpr h)

variable (hr : (s.lane l).runs = true)
  (h : (s.lane l).txFifo.length + (f.bytes (s.lane l).nextPart).length ≤ 64)
include hr h

theorem moveFrame_moves (hk : f.endKind = none) :
    moveFrame l s = s.modLane l fun L => L.sent rest (f.bytes (s.lane l).nextPart) := by
  simp only [moveFrame, hf, if_pos (And.intro hr (show _ ≤ Config.transmitCapacity from h)), hk]
  rfl

theorem moveFrame_moves_end {k : EndFrameKind} (hk : f.endKind = some k) :
    moveFrame l s = deliverySent l (s.lane l).nextPart
      (s.modLane l fun L => L.sent rest (f.bytes (s.lane l).nextPart)) := by
  simp only [moveFrame, hf, if_pos (And.intro hr (show _ ≤ Config.transmitCapacity from h)), hk]
  rfl

end

/-- A QUEUED end frame becomes SENT with the sequence stamped and its delivery timer (R45, R47). -/
theorem deliverySent_of_queued {s : State} {l : LaneId} {slot : Slot} {r : Record} (sequence : Byte)
    (he : s.engaged? l = some (slot, r)) (hr : s.recordAt slot = some r)
    (hd : r.delivery.value = .queued) :
    deliverySent l sequence s =
      (s.withRecordAt slot
        { r with
          delivery := { r.delivery with value := .sent, sequence := some sequence }
          deliveryTimer := some s.timers.delivery }).forgetExpired l := by
  simp only [deliverySent, he, if_pos hd, modRecord_eq hr]
  rfl

end Sys2Proof.Machine

/-! ## The obligations -/

namespace Sys2Proof.Proofs

open Sys2Proof.Machine

/-- Settles O45: a step of the assembler by what it takes next and by its state. -/
theorem assemblerCollectsFrames : Obligations.AssemblerCollectsFrames := by
  unfold Obligations.AssemblerCollectsFrames
  intro s l hp L put next
  have run : ∀ {t}, assemblerTakeByte l s = t → exec (.assemblerTakeByte l) s = .next t :=
    exec_of_running hp rfl
  refine ⟨fun h => run ?waits, fun hr hs => ⟨fun b M hnext => ?byte, fun rest hreplay hfifo => ?gap⟩⟩
  case waits =>
    rcases h with h | h | h | ⟨hreplay, hfifo⟩
    · exact assemblerTakeByte_waits (.inl h)
    · exact assemblerTakeByte_waits (.inr (.inl h))
    · exact assemblerTakeByte_waits (.inr (.inr h))
    · by_cases hw : L.runs = false ∨ L.assembler = .stalled ∨ L.slot ≠ none
      · exact assemblerTakeByte_waits hw
      · simp only [not_or, Bool.not_eq_false, not_not] at hw
        obtain ⟨hr, ha, hs⟩ := hw
        rw [assemblerTakeByte_keeps hr ha hs (takeNext_of_nothing hreplay hfifo), modLane_same]
  case byte =>
    have hbyte : L.NextByte b M := hnext
    have htake : L.takeNext = M.assemble b := takeNext_of_nextByte hbyte
    obtain ⟨hstate, hframe⟩ := assembler_of_nextByte hbyte
    have keeps : ∀ {a N}, L.assembler = a → a ≠ .stalled → M.assemble b = (N, false) →
        exec (.assemblerTakeByte l) s = .next (put N) := fun ha hn h =>
      run (assemblerTakeByte_keeps hr (ha ▸ hn) hs (htake.trans h))
    have reports : ∀ {a N}, L.assembler = a → a ≠ .stalled → M.assemble b = (N, true) →
        exec (.assemblerTakeByte l) s = .next ((put N).reportError l .check) := fun ha hn h =>
      run (assemblerTakeByte_reports hr (ha ▸ hn) hs (htake.trans h))
    rw [← hframe]
    refine ⟨fun ha hb => ?_, fun ha hb => ?_, fun ha hb => ?_, fun ha hb => ?_, fun ha => ?_⟩
    · exact hb ▸ keeps ha (by decide) (hb ▸ assemble_hunt_start (hstate.trans ha))
    · exact keeps ha (by decide) (assemble_hunt_other (hstate.trans ha) hb)
    · exact keeps ha (by decide) (assemble_length_short (hstate.trans ha) hb)
    · exact reports ha (by decide) (assemble_length_long (hstate.trans ha) hb)
    · have hcollect : M.assembler = .collect := hstate.trans ha
      refine ⟨fun hn => ?_, fun hn hg => ?_, fun hn hg => ?_⟩
      · exact keeps ha (by decide) (assemble_collect_more hcollect hn)
      · exact keeps ha (by decide) (assemble_collect_good hcollect hn (decide_eq_true hg))
      · exact reports ha (by decide) (assemble_collect_bad hcollect hn (decide_eq_false hg))
  case gap =>
    have htake : L.takeNext = ({ L with rxFifo := rest } : Lane).assembleGap :=
      takeNext_of_gap hreplay hfifo
    refine ⟨fun ha => run ?_, fun ha => run ?_⟩
    · exact assemblerTakeByte_keeps hr (ha ▸ by decide) hs (htake.trans (assembleGap_hunt ha))
    · refine assemblerTakeByte_reports hr (fun hc => ?_) hs (htake.trans (assembleGap_inside ha))
      rcases ha with ha | ha <;> exact absurd (ha.symm.trans hc) (by decide)

/-- Settles O46: the part frames by kind and body, then the transmit side by the room and the frame. -/
theorem transmitSideSendsWholeFrames : Obligations.TransmitSideSendsWholeFrames := by
  unfold Obligations.TransmitSideSendsWholeFrames
  refine ⟨fun store lane => ⟨rfl, by simp [PartFrame.body, u8, bytesOf]⟩,
    fun payment amount exponent => ⟨rfl, by simp [PartFrame.body, u8, u16, u32]⟩,
    fun payment => ⟨rfl, rfl⟩,
    fun payment amount => ⟨fun code => ⟨rfl, by simp [PartFrame.body, u8, u16, u32, codeBytes, bytesOf]⟩,
      rfl, by simp [PartFrame.body, u8, u16, u32, bytesOf, List.replicate]⟩,
    fun payment reason => ⟨rfl, by cases reason <;> rfl⟩,
    fun reason sequence => ⟨rfl, by cases reason <;> rfl⟩,
    fun f => ⟨f.endKind_outcome_iff, f.endKind_close_iff⟩, Lane.runs_iff,
    fun s l hp => ⟨fun _ => rfl, fun hr => ⟨fun b rest hf => ⟨fun hh => ?sends, fun hh => ?held⟩,
      fun f rest hf => ?frame⟩⟩⟩
  case sends => exact exec_of_running hp rfl (transmitCharacter_sends hr hf hh)
  case held => exact exec_of_running hp rfl (transmitCharacter_held hh)
  case frame =>
    intro sequence checked bytes moved
    have hbytes : f.bytes (s.lane l).nextPart = bytes := f.bytes_eq sequence
    have hmoved : (s.modLane l fun L => L.sent rest (f.bytes (s.lane l).nextPart)) = moved := by
      rw [hbytes]; rfl
    rw [← hbytes]
    refine ⟨fun h => exec_of_running hp rfl (moveFrame_waits hf h), fun h hk => ?_,
      fun handle r k h hk he hcur hd => ?_⟩
    · exact exec_of_running hp rfl ((moveFrame_moves hf hr h hk).trans hmoved)
    · refine exec_of_running hp rfl ((moveFrame_moves_end hf hr h hk).trans ?_)
      rw [hmoved]
      exact deliverySent_of_queued sequence (engaged_of_current he hcur)
        (State.recordAt_of_current hcur) hd

end Sys2Proof.Proofs
end


section
/-! PROOFS. Requests that set values: SET LIMITS, SET TIMERS, LANE SETUP, LANE HOLD, LANE OPEN and COMMISSION.
A value with its presence indication is taken when it is absent or lies in its range; the settings of a
request are taken together when each of them is. -/

namespace Sys2Proof.Machine

/-! ## A value with its presence indication (R183) -/

/-- A value is absent, or present and within its range; another presence byte than 0 and 1 is neither
(R69, R134; log entry 11). -/
abbrev Given (present : Byte) (value low high : Nat) : Prop :=
  present = 0 ∨ present = 1 ∧ low ≤ value ∧ value ≤ high

theorem yesNoOf_eq (b : Byte) :
    yesNoOf b = if 0 ≤ b.toNat ∧ b.toNat ≤ 1 then some (decide (b = 1)) else none := by
  revert b; decide

theorem terminalOf_eq (b : Byte) :
    terminalOf b =
      if 1 ≤ b.toNat ∧ b.toNat ≤ 2 then some (if b = 1 then .hold else .wrap) else none := by
  revert b; decide

theorem actionOf_eq (b : Byte) :
    actionOf b = if b = 1 ∨ b = 2 then some (if b = 1 then .notify else .lapse) else none := by
  revert b; decide

/-- The speed of a byte in range, and any speed for another byte (R183). -/
def speedOr (b : Byte) : Speed :=
  (speedOf b).getD .b9600

theorem speedOf_eq (b : Byte) :
    speedOf b = if 1 ≤ b.toNat ∧ b.toNat ≤ 6 then some (speedOr b) else none := by
  revert b; decide

theorem code_speedOr (b : Byte) (h : 1 ≤ b.toNat ∧ b.toNat ≤ 6) : (speedOr b).code = b.toNat := by
  revert b; decide

/-- A present value replaces the one in force within its range, an absent one keeps it (R69). -/
theorem limitOf_eq (o : OptWord) (current low high : Nat) :
    limitOf o current low high =
      if Given o.present o.value.toNat low high then
        some (if o.present = 1 then o.value.toNat else current)
      else none := by
  unfold limitOf yesNoOf
  by_cases h0 : o.present = 0
  · simp [Given, h0]
  · by_cases h1 : o.present = 1
    · simp [Given, h1, inRange]
    · simp only [h0, h1, if_false]
      exact (if_neg fun hg => hg.elim h0 fun h => h1 h.1).symm

/-- A present setting that its range admits replaces the one in force, an absent one keeps it (R134). -/
theorem settingOf_eq {α : Type} {parse : Byte → Option α} {value : Byte → α} {low high : Nat}
    (hparse : ∀ b, parse b = if low ≤ b.toNat ∧ b.toNat ≤ high then some (value b) else none)
    (o : OptByte) (current : α) :
    settingOf o current parse =
      if Given o.present o.value.toNat low high then
        some (if o.present = 1 then value o.value else current)
      else none := by
  unfold settingOf yesNoOf
  by_cases h0 : o.present = 0
  · simp [Given, h0]
  · by_cases h1 : o.present = 1
    · simp [Given, h1, hparse]
    · simp only [h0, h1, if_false]
      exact (if_neg fun hg => hg.elim h0 fun h => h1 h.1).symm

theorem numberIn_eq (low high : Nat) (b : Byte) :
    numberIn low high b = if low ≤ b.toNat ∧ b.toNat ≤ high then some b.toNat else none := by
  simp [numberIn, inRange]

/-- A check in front of the rest of a computation that may end without a value. -/
theorem ite_some_bind {α β : Type} {p : Prop} [Decidable p] (a : α) (f : α → Option β) :
    ((if p then some a else none) >>= f) = if p then f a else none := by
  split <;> rfl

/-! ## SET LIMITS (R9, R69) -/

/-- The values of SET LIMITS in force when they are taken (R69). -/
def limitsTaken (fields : Vector OptWord 8) (c : Limits) : Limits :=
  let value (i : Fin 8) (old : Nat) : Nat :=
    if (look fields i).present = 1 then (look fields i).value.toNat else old
  { floor := value 0 c.floor, laneCeiling := value 1 c.laneCeiling, storeCeiling := value 2 c.storeCeiling
    adjustCap := value 3 c.adjustCap, reserve := value 4 c.reserve, warning := value 5 c.warning
    lowMark := value 6 c.lowMark, share := value 7 c.share }

/-- Every value of SET LIMITS is absent or in its range (R69). -/
def LimitsGiven (fields : Vector OptWord 8) : Prop :=
  let given (i : Fin 8) (low high : Nat) : Prop :=
    Given (look fields i).present (look fields i).value.toNat low high
  given 0 0 99999999 ∧ given 1 0 999999999 ∧ given 2 0 999999999 ∧ given 3 0 50 ∧ given 4 16 4096 ∧
    given 5 1 65535 ∧ given 6 0 2047 ∧ given 7 1 2048

theorem limitsOf_given {fields : Vector OptWord 8} (h : LimitsGiven fields) (c : Limits) :
    limitsOf fields c = some (limitsTaken fields c) := by
  simp only [limitsOf, limitOf_eq, ite_some_bind, ← ite_and]
  exact if_pos h

theorem limitsOf_not_given {fields : Vector OptWord 8} (h : ¬ LimitsGiven fields) (c : Limits) :
    limitsOf fields c = none := by
  simp only [limitsOf, limitOf_eq, ite_some_bind, ← ite_and]
  exact if_neg h

/-- What a new low mark does to the low-mark indicator and the TABLE cause (R9). -/
theorem applyLowMark_eq (s : State) :
    s.applyLowMark =
      { s with
        table := { s.table with lowMarkArmed := decide (s.limits.lowMark < s.freeCount) }
        attention := { s.attention with
          table := s.attention.table || (!decide (s.limits.lowMark < s.freeCount) && s.table.lowMarkArmed) } } := by
  unfold State.applyLowMark
  by_cases h : s.limits.lowMark < s.freeCount
  · simp [h]
  · cases ha : s.table.lowMarkArmed with
    | true => simp [h, State.latchTable]
    | false =>
      simp only [h, if_false, Bool.false_eq_true, decide_false, Bool.and_false, Bool.or_false]
      rw [← ha]

/-! ## SET TIMERS (R50) -/

theorem timersOf_eq (present outcome : Half) (delivery life a b : Byte) :
    timersOf present outcome delivery life a b =
      if (10 ≤ present.toNat ∧ present.toNat ≤ 900 ∧ 10 ≤ outcome.toNat ∧ outcome.toNat ≤ 900 ∧
          2 ≤ delivery.toNat ∧ delivery.toNat ≤ 120 ∧ 1 ≤ life.toNat ∧ life.toNat ≤ 168 ∧
          (a = 1 ∨ a = 2) ∧ (b = 1 ∨ b = 2)) then
        some
          { present := present.toNat, outcome := outcome.toNat, delivery := delivery.toNat
            life := life.toNat, outcomeAction := if a = 1 then .notify else .lapse
            deferredAction := if b = 1 then .notify else .lapse }
      else none := by
  unfold timersOf
  rw [actionOf_eq, actionOf_eq]
  by_cases ha : a = 1 ∨ a = 2
  · by_cases hb : b = 1 ∨ b = 2
    · rw [if_pos ha, if_pos hb]
      simp only [inRange, Bool.and_eq_true, decide_eq_true_eq, and_assoc, ha, hb, and_true]
    · simp only [hb, and_false, if_false]
      cases ha <;> simp_all
  · simp only [ha, false_and, and_false, if_false]

theorem code_action {b : Byte} (h : b = 1 ∨ b = 2) :
    u8 (TimerAction.code (if b = 1 then .notify else .lapse)) = [b] := by
  rcases h with rfl | rfl <;> rfl

/-- A byte is its number as one byte (R183). -/
theorem u8_toNat (b : Byte) : u8 b.toNat = [b] := by
  simp [u8, bytesOf]

/-! ## LANE SETUP (R134) -/

section
variable (fields : Vector OptByte 16)

/-- The setting at a place is absent or in its range (R134). -/
abbrev SettingGiven (i : Fin 16) (low high : Nat) : Prop :=
  Given (look fields i).present (look fields i).value.toNat low high

/-- The four settings of a counter are absent or in their ranges (R134). -/
abbrev CounterGiven (i : Fin 16) : Prop :=
  SettingGiven fields i 0 1 ∧ SettingGiven fields (i + 1) 1 2 ∧ SettingGiven fields (i + 2) 0 1 ∧
    SettingGiven fields (i + 3) 0 1

/-- A setting taken: the value at a place when it is present, the one in force otherwise (R134). -/
def settingTaken {α : Type} (value : Byte → α) (i : Fin 16) (old : α) : α :=
  if (look fields i).present = 1 then value (look fields i).value else old

/-- The settings of a counter taken (R134). -/
def counterTaken (i : Fin 16) (old : CounterSettings) : CounterSettings :=
  { enable := settingTaken fields (fun b => decide (b = 1)) i old.enable
    terminal := settingTaken fields (fun b => if b = 1 then .hold else .wrap) (i + 1) old.terminal
    attend := settingTaken fields (fun b => decide (b = 1)) (i + 2) old.attend
    fault := settingTaken fields (fun b => decide (b = 1)) (i + 3) old.fault }

/-- The settings of a lane taken (R134). -/
def settingsTaken (old : LaneSettings) : LaneSettings :=
  { speed := settingTaken fields speedOr 0 old.speed
    high := settingTaken fields BitVec.toNat 1 old.high
    low := settingTaken fields BitVec.toNat 2 old.low
    threshold := settingTaken fields BitVec.toNat 3 old.threshold
    line := counterTaken fields 4 old.line, check := counterTaken fields 8 old.check
    order := counterTaken fields 12 old.order }

/-- Every setting is absent or in its range, and the low mark that results stands at least 8 below the high
mark (R134). -/
def SettingsGiven (old : LaneSettings) : Prop :=
  SettingGiven fields 0 1 6 ∧ SettingGiven fields 1 8 127 ∧ SettingGiven fields 2 0 127 ∧
    SettingGiven fields 3 1 255 ∧ CounterGiven fields 4 ∧ CounterGiven fields 8 ∧ CounterGiven fields 12 ∧
    (settingsTaken fields old).low + 8 ≤ (settingsTaken fields old).high

theorem counterOf_eq (i : Fin 16) (old : CounterSettings) :
    counterOf old (look fields i) (look fields (i + 1)) (look fields (i + 2)) (look fields (i + 3)) =
      if CounterGiven fields i then some (counterTaken fields i old) else none := by
  simp only [counterOf, settingOf_eq yesNoOf_eq, settingOf_eq terminalOf_eq, ite_some_bind, ← ite_and]
  rfl

theorem settingsOf_eq (old : LaneSettings) :
    settingsOf fields old =
      if SettingGiven fields 0 1 6 then
        if SettingGiven fields 1 8 127 then
          if SettingGiven fields 2 0 127 then
            if SettingGiven fields 3 1 255 then
              if CounterGiven fields 4 then
                if CounterGiven fields 8 then
                  if CounterGiven fields 12 then
                    if (settingsTaken fields old).low + 8 ≤ (settingsTaken fields old).high then
                      some (settingsTaken fields old)
                    else none
                  else none
                else none
              else none
            else none
          else none
        else none
      else none := by
  have h4 : counterOf old.line fields[4] fields[5] fields[6] fields[7] = _ :=
    counterOf_eq fields 4 old.line
  have h8 : counterOf old.check fields[8] fields[9] fields[10] fields[11] = _ :=
    counterOf_eq fields 8 old.check
  have h12 : counterOf old.order fields[12] fields[13] fields[14] fields[15] = _ :=
    counterOf_eq fields 12 old.order
  simp only [settingsOf, h4, h8, h12, settingOf_eq speedOf_eq, settingOf_eq (numberIn_eq 8 127),
    settingOf_eq (numberIn_eq 0 127), settingOf_eq (numberIn_eq 1 255), ite_some_bind]
  rfl

theorem settingsOf_given {old : LaneSettings} (h : SettingsGiven fields old) :
    settingsOf fields old = some (settingsTaken fields old) := by
  obtain ⟨h0, h1, h2, h3, h4, h8, h12, hmarks⟩ := h
  rw [settingsOf_eq, if_pos h0, if_pos h1, if_pos h2, if_pos h3, if_pos h4, if_pos h8, if_pos h12,
    if_pos hmarks]

theorem settingsOf_not_given {old : LaneSettings} (h : ¬ SettingsGiven fields old) :
    settingsOf fields old = none := by
  rw [settingsOf_eq]
  split_ifs with h0 h1 h2 h3 h4 h8 h12 hmarks
  · exact absurd ⟨h0, h1, h2, h3, h4, h8, h12, hmarks⟩ h
  all_goals rfl

end

theorem settingsBytes_eq (c : LaneSettings) :
    settingsBytes c = List.flatten
      [bytesOf 1 c.speed.code, bytesOf 1 c.high, bytesOf 1 c.low, bytesOf 1 c.threshold,
        counterBytes c.line, counterBytes c.check, counterBytes c.order] := rfl

theorem counterBytes_eq (c : CounterSettings) :
    counterBytes c =
      [if c.enable then 1 else 0, match c.terminal with | .hold => 1 | .wrap => 2,
        if c.attend then 1 else 0, if c.fault then 1 else 0] := by
  cases hc : c.terminal <;> simp [counterBytes, flagByte, hc, u8, bytesOf, TerminalChoice.code]

/-! ## LANE HOLD (R133) -/

theorem holdLane_ready {s : State} {l : LaneId} (h : (s.lane l).mode = .ready) :
    s.holdLane l = (s.leaveReady l .held).modLane l fun L => L.stopped .held := by
  simp only [State.holdLane, if_pos h]

theorem holdLane_not_ready {s : State} {l : LaneId} (h : (s.lane l).mode ≠ .ready) :
    s.holdLane l = s.modLane l fun L => L.stopped .held := by
  simp only [State.holdLane, if_neg h]

theorem laneHold_held {s : State} {lane : Byte} {l : LaneId} (hl : laneOf lane = some l)
    (h : (s.lane l).mode = .held) : laneHold lane s = .answer s .done [4] := by
  rw [laneHold, withLane_of_fitted hl (by rw [h]; decide)]
  simp only [h, if_true, modeByte]
  rfl

/-- A lane that is not HELD is HELD after LANE HOLD, and the response says so (R133). -/
theorem laneHold_holds {s : State} {lane : Byte} {l : LaneId} (hl : laneOf lane = some l)
    (hoff : (s.lane l).mode ≠ .off) (h : (s.lane l).mode ≠ .held) :
    laneHold lane s = .answer (s.holdLane l) .done [4] := by
  have hmode : ((s.holdLane l).lane l).mode = .held := by
    rw [State.holdLane, State.lane_modLane_self]; rfl
  rw [laneHold, withLane_of_fitted hl hoff]
  simp only [if_neg h, modeByte, hmode]
  rfl

theorem laneOpen_held {s : State} {lane : Byte} {l : LaneId} (hl : laneOf lane = some l)
    (h : (s.lane l).mode = .held) :
    laneOpen lane s = .answer (s.modLane l fun L => { L with mode := .down }) .done [2] := by
  rw [laneOpen, withLane_of_fitted hl (by rw [h]; decide)]
  simp only [if_pos h, modeByte, State.lane_modLane_self]
  rfl

theorem laneOpen_not_held {s : State} {lane : Byte} {l : LaneId} (hl : laneOf lane = some l)
    (hoff : (s.lane l).mode ≠ .off) (h : (s.lane l).mode ≠ .held) :
    laneOpen lane s = refuse s .wrongState := by
  rw [laneOpen, withLane_of_fitted hl hoff]
  exact if_neg h

section
variable {s : State} {lane : Byte} {l : LaneId} {fields : Vector OptByte 16} (hl : laneOf lane = some l)
include hl

theorem laneSetup_not_held (hoff : (s.lane l).mode ≠ .off) (h : (s.lane l).mode ≠ .held) :
    laneSetup lane fields s = refuse s .wrongState := by
  rw [laneSetup, withLane_of_fitted hl hoff]
  exact if_pos h

variable (h : (s.lane l).mode = .held)
include h

theorem laneSetup_refused (hg : ¬ SettingsGiven fields (s.lane l).settings) :
    laneSetup lane fields s = refuse s .range := by
  rw [laneSetup, withLane_of_fitted hl (by rw [h]; decide)]
  simp only [h, settingsOf_not_given fields hg]
  rfl

theorem laneSetup_taken (hg : SettingsGiven fields (s.lane l).settings) :
    laneSetup lane fields s =
      .answer (s.modLane l fun L => { L with settings := settingsTaken fields (s.lane l).settings }) .done
        (settingsBytes (settingsTaken fields (s.lane l).settings)) := by
  rw [laneSetup, withLane_of_fitted hl (by rw [h]; decide)]
  simp only [h, settingsOf_given fields hg]
  rfl

end

end Sys2Proof.Machine

/-! ## The obligations -/

namespace Sys2Proof.Proofs

open Sys2Proof.Machine

/-- Settles O32: SET LIMITS by whether every value is given in its range, then SET TIMERS. -/
theorem settingsAreReplacedWithinTheirRanges : Obligations.SettingsAreReplacedWithinTheirRanges := by
  unfold Obligations.SettingsAreReplacedWithinTheirRanges
  refine ⟨fun s tag fields hs => ?limits, fun s tag present outcome delivery life a b hs => ?timers⟩
  case limits =>
    intro low high old allowed new
    have hall : (∀ i, allowed i) ↔ LimitsGiven fields := by
      refine ⟨fun h => ⟨h 0, h 1, h 2, h 3, h 4, h 5, h 6, h 7⟩, fun h i => ?_⟩
      obtain ⟨h0, h1, h2, h3, h4, h5, h6, h7⟩ := h
      fin_cases i
      · exact h0
      · exact h1
      · exact h2
      · exact h3
      · exact h4
      · exact h5
      · exact h6
      · exact h7
    refine ⟨fun h => ?refused, fun h => ?taken⟩
    case refused =>
      have hno : ¬ LimitsGiven fields := fun hg => h.elim fun i hi => hi (hall.mpr hg i)
      refine exec_of_handler_answers rfl rfl hs ?_
      rw [setLimits, limitsOf_not_given hno]
      rfl
    case taken =>
      let c := limitsTaken fields s.limits
      let replaced : State := { s with limits := c }
      let t : State := if (look fields 6).present = 1 then replaced.applyLowMark else replaced
      have hset : setLimits fields s = .answer t .done (limitsBytes c) := by
        rw [setLimits, limitsOf_given (hall.mp h)]
        rfl
      have happlied : (look fields 6).present = 1 → t = replaced.applyLowMark := fun h6 => if_pos h6
      have hkept : (look fields 6).present = 0 → t = replaced := fun h6 => if_neg (by rw [h6]; decide)
      refine ⟨t, exec_of_handler_answers rfl rfl hs hset, ?_, ?_, fun h6 => ?_, fun h6 hfree => ?_,
        fun h6 hfree => ?_⟩
      · rcases h 6 with h6 | ⟨h6, _⟩
        · rw [hkept h6]; rfl
        · rw [happlied h6, applyLowMark_eq]; rfl
      · rcases h 6 with h6 | ⟨h6, _⟩
        · rw [hkept h6]
        · rw [happlied h6, applyLowMark_eq]
      · rw [hkept h6]; exact ⟨rfl, rfl⟩
      · have hlow : replaced.limits.lowMark < replaced.freeCount := hfree
        rw [happlied h6, applyLowMark_eq, decide_eq_true hlow]
        exact ⟨rfl, by simp [replaced]⟩
      · have hlow : ¬ replaced.limits.lowMark < replaced.freeCount := Nat.not_lt.mpr hfree
        rw [happlied h6, applyLowMark_eq, decide_eq_false hlow]
        exact ⟨rfl, by simp [replaced]⟩
  case timers =>
    intro inRange
    refine ⟨fun h => exec_of_handler_answers rfl rfl hs ?_, fun h => exec_of_handler_answers rfl rfl hs ?_⟩
    · obtain ⟨-, -, -, -, -, -, -, -, ha, hb⟩ := id h
      have hbytes : timersBytes
            { present := present.toNat, outcome := outcome.toNat, delivery := delivery.toNat
              life := life.toNat, outcomeAction := if a = 1 then .notify else .lapse
              deferredAction := if b = 1 then .notify else .lapse } =
          bytesOf 2 present.toNat ++ bytesOf 2 outcome.toNat ++ [delivery, life, a, b] := by
        simp only [timersBytes, u8_toNat, code_action ha, code_action hb, u16]
        simp
      rw [setTimers, timersOf_eq, if_pos h]
      simp only [hbytes]
    · rw [setTimers, timersOf_eq, if_neg h]
      rfl

/-- Settles O47: LANE HOLD and LANE OPEN by the lane's state, LANE SETUP by whether every setting is given
in its range. -/
theorem lanesAreHeldOpenedAndSetUp : Obligations.LanesAreHeldOpenedAndSetUp := by
  unfold Obligations.LanesAreHeldOpenedAndSetUp
  refine ⟨fun s tag lane hs => ⟨fun h => ?above, fun l hl => ?modes⟩, fun s tag lane fields hs h => ?noLane,
    fun s tag lane fields l hs hl hoff => ?setup, fun c => ?bytes⟩
  case above =>
    have hnone : laneOf lane = none := laneOf_of_above (Nat.lt_of_succ_le h)
    exact ⟨exec_of_handler_answers rfl rfl hs (withLane_of_no_lane hnone _),
      exec_of_handler_answers rfl rfl hs (withLane_of_no_lane hnone _)⟩
  case modes =>
    intro held
    refine ⟨fun h => ⟨exec_of_handler_answers rfl rfl hs (withLane_of_off hl h _),
        exec_of_handler_answers rfl rfl hs (withLane_of_off hl h _)⟩, fun h => ?_, fun h => ?_,
      fun h => ⟨exec_of_handler_answers rfl rfl hs (laneHold_held hl h),
        exec_of_handler_answers rfl rfl hs (laneOpen_held hl h)⟩, fun h => ?_⟩
    · rw [← show s.holdLane l = held (s.leaveReady l .held) from holdLane_ready h]
      exact exec_of_handler_answers rfl rfl hs
        (laneHold_holds hl (by rw [h]; decide) (by rw [h]; decide))
    · have hready : (s.lane l).mode ≠ .ready := by rcases h with h | h <;> rw [h] <;> decide
      rw [← show s.holdLane l = held s from holdLane_not_ready hready]
      refine exec_of_handler_answers rfl rfl hs (laneHold_holds hl ?_ ?_) <;>
        rcases h with h | h <;> rw [h] <;> decide
    · refine exec_of_handler_answers rfl rfl hs (laneOpen_not_held hl ?_ ?_) <;>
        rcases h with h | h | h <;> rw [h] <;> decide
  case noLane =>
    rcases h with h | ⟨l, hl, h⟩
    · exact exec_of_handler_answers rfl rfl hs (withLane_of_no_lane (laneOf_of_above h) _)
    · exact exec_of_handler_answers rfl rfl hs (withLane_of_off hl h _)
  case setup =>
    intro at' given number flag choice counter counterGiven old high low ok
    have hok : ok ↔ SettingsGiven fields old := Iff.rfl
    refine ⟨fun h => exec_of_handler_answers rfl rfl hs (laneSetup_not_held hl hoff h),
      fun h hno => exec_of_handler_answers rfl rfl hs (laneSetup_refused hl h hno),
      fun h hyes => ⟨settingsTaken fields old, rfl, ?_,
        exec_of_handler_answers rfl rfl hs (laneSetup_taken hl h hyes)⟩⟩
    obtain ⟨h0, -⟩ := hyes
    change (settingTaken fields speedOr 0 old.speed).code =
      if (look fields 0).present = 1 then (look fields 0).value.toNat else old.speed.code
    unfold settingTaken
    rcases h0 with h0 | ⟨h0, hrange⟩
    · rw [h0]; rfl
    · rw [if_pos h0, if_pos h0, code_speedOr _ hrange]
  case bytes =>
    intro flag terminal counter
    have hcounter : ∀ x, counterBytes x = counter x := counterBytes_eq
    rw [settingsBytes_eq, hcounter, hcounter, hcounter]

end Sys2Proof.Proofs
end


section
/-! PROOFS. Requests on payments (Chapters 1 to 4): the order of their checks, ABANDON, TAKE and COLLECT, CONFIRM
and REJECT. -/

namespace Sys2Proof.Machine

/-! ## The first check that fails -/

theorem firstFailing_cons (b : Bool) (status : Status) (rest : List (Bool × Status)) :
    firstFailing ((b, status) :: rest) = if b = true then some status else firstFailing rest := by
  cases b <;> simp [firstFailing]

@[simp] theorem firstFailing_nil : firstFailing [] = none := rfl

theorem laneOf_eq_some_iff (lane : Byte) (l : LaneId) : laneOf lane = some l ↔ lane.toNat = l.val := by
  unfold laneOf
  split
  · simp [Fin.ext_iff]
  · next h =>
    refine ⟨fun hn => absurd hn (by simp), fun hl => ?_⟩
    have := l.isLt
    omega

theorem laneOf_eq_none_iff (lane : Byte) : laneOf lane = none ↔ 15 < lane.toNat := by
  unfold laneOf
  split <;> simp <;> omega

/-- No entry is in a state exactly when the search finds none (R89). -/
theorem entryIn_eq_none_iff (s : State) (st : EntryState) :
    s.entryIn st = none ↔ ∀ i, (s.entry i).state ≠ st := by
  simp [State.entryIn, State.findEntry]

/-! ## Refused requests on a record (R3, R21, R35, R39, R41, R63, R64, R75, R77, R85) -/

/-- Without a counter below 65536 a follow-up finds its counter spent (R73). -/
theorem followUpCounter_spent {s : State} {r : Record}
    (h : ∀ b, r.binding = some b → ∀ i, s.entryOf b.generation = some i →
      65536 ≤ look (s.entry i).counters r.lane) : s.followUpCounter? r = none := by
  unfold State.followUpCounter?
  split
  · next b hb => exact takeCounter_spent (h b hb)
  · rfl

theorem resultOf_eq_none_iff (b : Byte) : resultOf b = none ↔ b ≠ 1 ∧ b ≠ 2 ∧ b ≠ 3 := by
  revert b; decide

/-- SETTLE's result and its fields are out of range together when one of them is (R41). -/
theorem settle_out_of_range {result : Byte} {approval : Code6} {decline : Byte}
    (h : result ≠ 1 ∧ result ≠ 2 ∧ result ≠ 3 ∨
      (result = 1 ∨ result = 3) ∧ (codeBytes approval).all isCodeChar = false ∨
      result = 2 ∧ 99 < decline.toNat) :
    ∀ x, resultOf result = some x → settleInRange x approval decline = false := by
  intro x hx
  rcases h with h | ⟨rfl | rfl, hc⟩ | ⟨rfl, hd⟩
  · rw [(resultOf_eq_none_iff result).mpr h] at hx; cases hx
  · cases hx; exact hc
  · cases hx; exact hc
  · cases hx; exact decide_eq_false (Nat.not_le.mpr hd)

theorem settle_in_range {result : Byte} {approval : Code6} {decline : Byte}
    (h : ¬ (result ≠ 1 ∧ result ≠ 2 ∧ result ≠ 3 ∨
      (result = 1 ∨ result = 3) ∧ (codeBytes approval).all isCodeChar = false ∨
      result = 2 ∧ 99 < decline.toNat)) :
    ∃ x, resultOf result = some x ∧ settleInRange x approval decline = true := by
  simp only [not_or, not_and, Bool.not_eq_false, not_lt, not_not] at h
  obtain ⟨hresult, hcode, hdecline⟩ := h
  by_cases h1 : result = 1
  · exact ⟨.approve, by rw [h1]; rfl, hcode (.inl h1)⟩
  · by_cases h2 : result = 2
    · exact ⟨.decline, by rw [h2]; rfl, decide_eq_true (hdecline h2)⟩
    · exact ⟨.defer, by rw [hresult h1 h2]; rfl, hcode (.inr (hresult h1 h2))⟩

section
variable {s : State} {h : Handle} {r : Record} (hr : s.current? h = some r)
include hr

theorem settle_refused_range {result : Byte} {approval : Code6} {decline : Byte}
    (hx : ∀ x, resultOf result = some x → settleInRange x approval decline = false) :
    settle h result approval decline s = refuse s .range := by
  rw [settle, withRecord_of_current hr]
  cases hres : resultOf result with
  | none => rfl
  | some x => simp [hx x hres]

theorem settle_refused_state {result : Byte} {approval : Code6} {decline : Byte}
    (hx : ∃ x, resultOf result = some x ∧ settleInRange x approval decline = true)
    (hst : r.state ≠ .released) :
    settle h result approval decline s =
      refuse s (if r.state = .lapsed then .tooLate else .wrongState) := by
  obtain ⟨x, hres, hin⟩ := hx
  rw [settle, withRecord_of_current hr]
  by_cases hl : r.state = .lapsed <;> simp [hres, hin, hl, hst]

theorem confirm_refused_range {present : Byte} {code : Code6} (hc : confirmCode present code = none) :
    confirm h present code s = refuse s .range := by
  rw [confirm, withRecord_of_current hr, hc]

theorem confirm_refused_state {present : Byte} {code : Code6} {new : Option Code6}
    (hc : confirmCode present code = some new) (hst : r.state ≠ .deferred) :
    confirm h present code s = refuse s (if r.state = .lapsed then .tooLate else .wrongState) := by
  rw [confirm, withRecord_of_current hr, hc]
  by_cases hl : r.state = .lapsed <;> simp [hl, hst]

end

/-- CONFIRM's code is in range when it is absent, or present with its characters in range (R63). -/
theorem confirmCode_eq (present : Byte) (code : Code6) :
    confirmCode present code =
      if 1 < present.toNat ∨ present = 1 ∧ (codeBytes code).all isCodeChar = false then none
      else some (if present = 1 then some code else none) := by
  have hpresent : present = 0 ∨ present = 1 ∨ 1 < present.toNat := by revert present; decide
  rcases hpresent with rfl | rfl | hp
  · rfl
  · cases hc : (codeBytes code).all isCodeChar <;> simp [confirmCode, yesNoOf, codeInRange, hc]
  · have hno : ¬ (0 ≤ present.toNat ∧ present.toNat ≤ 1) := fun hle => absurd hle.2 (Nat.not_le.mpr hp)
    rw [if_pos (.inl hp), confirmCode, yesNoOf_eq, if_neg hno]

/-- The checks that ADJUST and VOID share, past the state (R75, R77): the card block, a pending follow-up, the
requested share and the counter. -/
theorem noCardStatus_eq (r : Record) :
    noCardStatus r = if r.binding.isSome && !r.bound then .keysLost else .wrongState := rfl

theorem adjustCeiling_eq (cap original : Nat) :
    adjustCeiling cap original = min (original * (100 + cap) / 100) 99999999 := rfl

/-- The checks ADJUST and VOID have in common, each with those before it passed (R75, R77). -/
theorem followUp_refused {s : State} {r : Record} {status : Status} {p : Prop} [Decidable p]
    {rest : Reply} (hspent : p → rest = refuse s .keySpent)
    (h : (if (r.card.isNone && r.binding.isSome && !r.bound) = true then some Status.keysLost
      else if r.card.isNone = true then some .wrongState
      else if (r.followUps.any fun f => decide (f.status = .waiting ∨ f.status = .wrapping)) = true then
        some .busyRecord
      else if 15 ≤ s.requestedCount then some .engineFull
      else if p then some .keySpent else none) = some status) :
    (if r.card = none then refuse s (noCardStatus r)
      else if (r.followUps.any fun f => decide (f.status = .waiting ∨ f.status = .wrapping)) = true then
        refuse s .busyRecord
      else if Config.requestedShare ≤ s.requestedCount then refuse s .engineFull
      else rest) = refuse s status := by
  by_cases hcard : r.card = none
  · rw [if_pos hcard, noCardStatus_eq]
    cases hb : r.binding.isSome && !r.bound <;> simp [hcard, hb] at h ⊢ <;> rw [h]
  have hnone : r.card.isNone = false := by cases hc : r.card <;> simp_all
  simp only [hnone, Bool.false_and, Bool.false_eq_true, if_false] at h
  rw [if_neg hcard, show Config.requestedShare = 15 from rfl]
  split_ifs at h ⊢ with hbusy hfull hno
  · cases h; rfl
  · cases h; rfl
  · cases h; exact hspent hno

/-- Every WAITING or WRAPPING entry makes the record busy (R75). -/
theorem busy_eq (r : Record) :
    r.busy = r.followUps.any fun f => decide (f.status = .waiting ∨ f.status = .wrapping) := by
  simp [Record.busy]

/-! ## Cancellation (R38, R39) -/

theorem isEngaging_iff (st : PaymentState) :
    st.isEngaging = true ↔ st ∈ [PaymentState.armed, .capturing, .wrapped, .released] := by
  cases st <;> decide

theorem isCaptureOf_iff (h : Handle) (job : Job) :
    Job.isCaptureOf h job = true ↔ ∃ l g c, job = .capture h l g c := by
  cases job <;> simp [Job.isCaptureOf]

theorem queueEndFrame_recordAt {s : State} {slot : Slot} {r : Record} (hr : s.recordAt slot = some r)
    (kind : EndFrameKind) (frame : Record → PartFrame) :
    ∃ d, (s.queueEndFrame slot kind frame).recordAt slot = some { r with delivery := d } := by
  by_cases hd : r.delivery.value = .none
  · by_cases hl : (s.lane r.lane).mode = .ready
    · exact ⟨_, by rw [queueEndFrame_ready hr hd hl, recordAt_withRecordAt_self]⟩
    · exact ⟨_, by rw [queueEndFrame_not_ready hr hd hl, recordAt_withRecordAt_self]⟩
  · exact ⟨r.delivery, by rw [queueEndFrame_again hr hd, hr]⟩

/-- A record just cancelled is answered with its state and no cancel pending, whatever becomes of its CLOSE
(R39). -/
theorem abandonBytes_queueClose (s : State) (slot : Slot) (r : Record) (reason : CloseReason)
    (hs : r.state = .cancelled) (hc : r.cancelPending = none) :
    bytesAt ((s.withRecordAt slot r).queueClose slot reason) slot abandonBytes = [11, 0, 0] := by
  obtain ⟨d, hd⟩ := queueEndFrame_recordAt (s := s.withRecordAt slot r)
    (recordAt_withRecordAt_self s slot r) .close fun q => .close q.payment reason
  rw [State.queueClose, bytesAt, hd]
  simp only [abandonBytes, hs, hc]
  rfl

theorem cancelNow_eq {s : State} {slot : Slot} {r : Record} (hr : s.recordAt slot = some r)
    (reason : CancelReason) :
    s.cancelNow slot reason =
      (s.withRecordAt slot (r.cancel reason)).queueClose slot reason.closeReason := by
  rw [State.cancelNow, modRecord_eq hr]

theorem cancelCapturing_queued {s : State} {slot : Slot} (reason : CancelReason)
    (h : s.engine.queue.any (Job.isCaptureOf (s.handleOf slot)) = true) :
    s.cancelCapturing slot reason = (s.withdrawCapture (s.handleOf slot)).cancelNow slot reason :=
  if_pos h

theorem cancelCapturing_served {s : State} {slot : Slot} (reason : CancelReason)
    (h : s.engine.queue.any (Job.isCaptureOf (s.handleOf slot)) = false) :
    s.cancelCapturing slot reason =
      s.modRecord slot fun r => { r with cancelPending := some reason } :=
  if_neg (by simp only [h]; decide)

section
variable {s : State} {h : Handle} {r : Record} (hr : s.current? h = some r)
include hr

theorem abandon_cancels {s' : State} (hc : cancellation .abandoned (slotOf h) r s = some s') :
    abandon h s = .answer s' .done (bytesAt s' (slotOf h) abandonBytes) := by
  rw [abandon, withRecord_of_current hr, hc]

theorem abandon_refused (hc : cancellation .abandoned (slotOf h) r s = none) :
    abandon h s = refuse s .wrongState := by
  rw [abandon, withRecord_of_current hr, hc]

end

theorem cancellation_standing {r : Record} (hs : r.state = .armed ∨ r.state = .wrapped)
    (reason : CancelReason) (slot : Slot) (s : State) :
    cancellation reason slot r s = some (s.cancelNow slot reason) := by
  rcases hs with hs | hs <;> simp only [cancellation, hs]

theorem cancellation_capturing {r : Record} (hs : r.state = .capturing) (hp : r.cancelPending = none)
    (reason : CancelReason) (slot : Slot) (s : State) :
    cancellation reason slot r s = some (s.cancelCapturing slot reason) := by
  simp only [cancellation, hs, hp, if_true]

theorem cancellation_pending {r : Record} (hs : r.state = .capturing) {why : CancelReason}
    (hp : r.cancelPending = some why) (reason : CancelReason) (slot : Slot) (s : State) :
    cancellation reason slot r s = some s := by
  simp [cancellation, hs, hp]

theorem cancellation_too_late {r : Record} (ha : r.state ≠ .armed) (hc : r.state ≠ .capturing)
    (hw : r.state ≠ .wrapped) (reason : CancelReason) (slot : Slot) (s : State) :
    cancellation reason slot r s = none := by
  cases hs : r.state <;> simp_all [cancellation]

/-! ## TAKE and COLLECT (R35, R85) -/

section
variable {s : State} {h : Handle} {r : Record} (hr : s.current? h = some r)
include hr

theorem takePayload_wrapped (hs : r.state = .wrapped) :
    takePayload h s =
      .answer (s.withRecordAt (slotOf h)
          { r with
            state := .released
            stateTimer := some { remaining := s.timers.outcome, action := some s.timers.outcomeAction } })
        .done (payloadBytes (r.payload.getD [])) := by
  rw [takePayload, withRecord_of_current hr]
  simp only [if_pos hs, modRecord_eq (State.recordAt_of_current hr)]

theorem takePayload_refused (hs : r.state ≠ .wrapped) : takePayload h s = refuse s .wrongState := by
  rw [takePayload, withRecord_of_current hr]
  exact if_neg hs

theorem collect_ready {index : Byte} {e : FollowUp} (hi : index.toNat ≤ 2)
    (he : r.followUps[index.toNat]? = some e) (hready : e.status = .ready) :
    collect h index s =
      .answer (s.withRecordAt (slotOf h)
          { r with followUps := r.followUps.set index.toNat { e with status := .collected } })
        .done
        (List.flatten [u8 e.kind.code, u32 e.amount, u16 (e.counter.getD 0),
          u16 (e.payload.getD []).length, e.payload.getD []]) := by
  have hset : r.followUps.modify index.toNat (fun e => { e with status := .collected }) =
      r.followUps.set index.toNat { e with status := .collected } := by
    rw [List.modify_eq_set_getElem?, he]; rfl
  rw [collect, withRecord_of_current hr]
  simp only [if_neg (Nat.not_lt.mpr hi), he, if_pos hready, modRecord_eq (State.recordAt_of_current hr),
    Record.modFollowUp, hset]

theorem collect_refused_range {index : Byte} (hi : 2 < index.toNat) :
    collect h index s = refuse s .range := by
  rw [collect, withRecord_of_current hr]
  exact if_pos hi

theorem collect_refused_notFound {index : Byte} (hi : ¬ 2 < index.toNat)
    (hn : r.followUps.length ≤ index.toNat) : collect h index s = refuse s .notFound := by
  rw [collect, withRecord_of_current hr]
  simp only [if_neg hi, List.getElem?_eq_none hn]

theorem collect_refused_state {index : Byte} (hi : ¬ 2 < index.toNat) {e : FollowUp}
    (he : r.followUps[index.toNat]? = some e) (hs : e.status ≠ .ready) :
    collect h index s = refuse s .wrongState := by
  rw [collect, withRecord_of_current hr]
  simp only [if_neg hi, he, if_neg hs]

end

/-! ## CONFIRM and REJECT (R62 to R64) -/

/-- A DEFERRED record leaves the account with its current amount and takes its new state (R62). -/
theorem leaveDeferred_eq {s : State} {slot : Slot} {r : Record} (hr : s.recordAt slot = some r)
    (f : Record → Record) :
    s.leaveDeferred slot r f =
      (s.leaveAccount r.lane r.current).withRecordAt slot { f r with stateTimer := none } := by
  have h2 : (s.leaveAccount r.lane r.current).recordAt slot = some r := hr
  rw [State.leaveDeferred, modRecord_eq h2]

theorem totalsBytes_leaveAccount (s : State) (l : LaneId) (n : Nat) :
    totalsBytes (s.leaveAccount l n) l =
      bytesOf 4 ((s.book l).total - n) ++ bytesOf 4 (s.table.storeTotal - n) := by
  simp [totalsBytes, u32, State.book_leaveAccount]

section
variable {s : State} {h : Handle} {r : Record} (hr : s.current? h = some r) (hs : r.state = .deferred)
include hr hs

theorem confirm_deferred {present : Byte} {code : Code6} {new : Option Code6}
    (hc : confirmCode present code = some new) :
    confirm h present code s =
      .answer ((s.leaveAccount r.lane r.current).withRecordAt (slotOf h)
          { r.confirm new with stateTimer := none })
        .done (totalsBytes (s.leaveAccount r.lane r.current) r.lane) := by
  rw [confirm, withRecord_of_current hr, hc]
  simp only [hs, leaveDeferred_eq (State.recordAt_of_current hr)]
  rfl

theorem reject_deferred (hf : ∀ f ∈ r.followUps, f.status ≠ .wrapping) :
    reject h s =
      .answer ((s.leaveAccount r.lane r.current).withRecordAt (slotOf h)
          { r.rejectPayment with stateTimer := none })
        .done (totalsBytes (s.leaveAccount r.lane r.current) r.lane) := by
  have hany : (r.followUps.any fun f => decide (f.status = .wrapping)) = false := by simpa using hf
  rw [reject, withRecord_of_current hr]
  simp only [hs, hany, leaveDeferred_eq (State.recordAt_of_current hr)]
  rfl

end

end Sys2Proof.Machine

/-! ## The obligations -/

namespace Sys2Proof.Proofs

open Sys2Proof.Machine

/-- Settles O20: the nine checks of ARM, each with those before it passed. -/
theorem armIsRefusedInOrder : Obligations.ArmIsRefusedInOrder := by
  unfold Obligations.ArmIsRefusedInOrder
  refine ⟨laneOf_eq_some_iff, fun s tag lane amount till status hs hst => ?_⟩
  refine exec_of_handler_answers rfl rfl hs ?_
  change arm lane amount till s = refuse s status
  simp only [firstFailing_cons, firstFailing_nil, decide_eq_true_eq] at hst
  cases hcom : s.commission with
  | none => simp only [hcom] at hst; cases hst; simp only [arm, hcom]
  | some c =>
    simp only [hcom, Option.isNone_some, Bool.false_eq_true, if_false] at hst
    cases hl : laneOf lane with
    | none =>
      rw [if_pos (.inl ((laneOf_eq_none_iff lane).mp hl))] at hst
      cases hst; simp only [arm, hcom, hl]
    | some l =>
      have hlane : ¬ 15 < lane.toNat := fun h => by rw [(laneOf_eq_none_iff lane).mpr h] at hl; cases hl
      have heach : ∀ p : LaneId → Prop, (∀ x, laneOf lane = some x → p x) ↔ p l := fun p => by
        rw [hl]; exact ⟨fun h => h l rfl, fun h x hx => by cases hx; exact h⟩
      have hin : inRange 1 amount.toNat Config.amountMax = true ↔
          ¬ (15 < lane.toNat ∨ amount.toNat = 0 ∨ 99999999 < amount.toNat) := by
        rw [inRange, Config.amountMax, decide_eq_true_eq]; omega
      have heachKey : (∀ x, laneOf lane = some x → ∀ i, s.entryIn .active = some i →
          65536 - s.limits.reserve ≤ look (s.entry i).counters x) ↔
          ∀ i, s.entryIn .active = some i → 65536 - s.limits.reserve ≤ look (s.entry i).counters l :=
        heach fun x => ∀ i, s.entryIn .active = some i → 65536 - s.limits.reserve ≤ look (s.entry i).counters x
      simp only [heachKey, heach fun x => (s.lane x).mode ≠ .ready, heach fun x => (s.book x).engaged ≠ none,
        heach fun x => s.limits.share ≤ (s.book x).list.length, ← entryIn_eq_none_iff] at hst
      simp only [arm, hcom, hl, hin, not_not]
      by_cases hrange : 15 < lane.toNat ∨ amount.toNat = 0 ∨ 99999999 < amount.toNat
      · rw [if_pos hrange] at hst ⊢; cases hst; rfl
      rw [if_neg hrange] at hst ⊢
      by_cases hready : (s.lane l).mode ≠ .ready
      · rw [if_pos hready] at hst ⊢; cases hst; rfl
      rw [if_neg hready] at hst ⊢
      by_cases hlow : s.supply.state = .low
      · rw [if_pos hlow] at hst ⊢; cases hst; rfl
      rw [if_neg hlow] at hst ⊢
      by_cases hengaged : (s.book l).engaged ≠ none
      · rw [if_pos hengaged] at hst ⊢; cases hst; rfl
      rw [if_neg hengaged] at hst ⊢
      cases hkey : s.entryIn .active with
      | none => rw [hkey, if_pos rfl] at hst; cases hst; rfl
      | some i =>
        have hspent : (∀ j, s.entryIn .active = some j →
            65536 - s.limits.reserve ≤ look (s.entry j).counters l) ↔
            s.captureLimit ≤ look (s.entry i).counters l :=
          ⟨fun h => h i hkey, fun h j hj => by rw [hkey] at hj; cases hj; exact h⟩
        rw [if_neg (show ¬ s.entryIn .active = none by rw [hkey]; simp)] at hst
        dsimp only
        by_cases hcounter : s.captureLimit ≤ look (s.entry i).counters l
        · rw [if_pos (hspent.mpr hcounter)] at hst; rw [if_pos hcounter]; cases hst; rfl
        rw [if_neg fun hall => hcounter (hspent.mp hall)] at hst
        rw [if_neg hcounter]
        by_cases hshare : s.limits.share ≤ (s.book l).list.length
        · rw [if_pos hshare] at hst ⊢; cases hst; rfl
        rw [if_neg hshare] at hst ⊢
        cases hfree : s.table.free with
        | nil => rw [hfree] at hst; cases hst; rfl
        | cons slot rest => rw [hfree] at hst; cases hst

/-- Settles O22: ABANDON by the record's state and, while CAPTURING, by its job. -/
theorem abandonActsByState : Obligations.AbandonActsByState := by
  unfold Obligations.AbandonActsByState
  refine ⟨isEngaging_iff, isCaptureOf_iff, fun s tag h r hs hr => ?_⟩
  intro slot cancelled t withdrawn t'
  have hat : s.recordAt slot = some r := State.recordAt_of_current hr
  have hhandle : s.handleOf slot = h := handleOf_of_current hr
  have hcancel : r.cancel .abandoned = cancelled := by simp [Record.cancel, cancelled]; rfl
  refine ⟨fun hst => ?standing, fun hst hp hq => ?queued, fun hst hp hq => ?served,
    fun why hst hp => ?pending, fun hst => ?refused⟩
  case standing =>
    have ht : s.cancelNow slot .abandoned = t := by rw [cancelNow_eq hat, hcancel]; rfl
    rw [← abandonBytes_queueClose s slot cancelled .abandoned rfl rfl]
    exact exec_of_handler_answers rfl rfl hs
      (abandon_cancels hr ((cancellation_standing hst .abandoned slot s).trans (congrArg some ht)))
  case queued =>
    have ht : s.cancelCapturing slot .abandoned = t' := by
      have hw : withdrawn.recordAt slot = some r := hat
      rw [cancelCapturing_queued _ (by rw [hhandle]; exact hq), hhandle]
      exact (cancelNow_eq hw .abandoned).trans (by rw [hcancel]; rfl)
    rw [← abandonBytes_queueClose withdrawn slot cancelled .abandoned rfl rfl]
    exact exec_of_handler_answers rfl rfl hs
      (abandon_cancels hr ((cancellation_capturing hst hp .abandoned slot s).trans (congrArg some ht)))
  case served =>
    have ht : s.cancelCapturing slot .abandoned =
        s.withRecordAt slot { r with cancelPending := some .abandoned } := by
      rw [cancelCapturing_served _ (by rw [hhandle]; exact hq), modRecord_eq hat]
    refine exec_of_handler_answers rfl rfl hs
      ((abandon_cancels hr ((cancellation_capturing hst hp .abandoned slot s).trans
        (congrArg some ht))).trans ?_)
    rw [bytesAt, recordAt_withRecordAt_self]
    simp only [abandonBytes, hst]
    rfl
  case pending =>
    refine exec_of_handler_answers rfl rfl hs
      ((abandon_cancels hr (cancellation_pending hst hp .abandoned slot s)).trans ?_)
    rw [bytesAt, hat]
    simp only [abandonBytes, hst, hp]
    cases why <;> rfl
  case refused =>
    refine exec_of_handler_answers rfl rfl hs
      (abandon_refused hr (cancellation_too_late ?_ ?_ ?_ .abandoned slot s)) <;>
    · intro hc
      rw [hc] at hst
      revert hst
      decide

/-- Settles O23: TAKE by the record's state, and COLLECT of a READY entry. -/
theorem payloadsAreHandedOver : Obligations.PayloadsAreHandedOver := by
  unfold Obligations.PayloadsAreHandedOver
  refine ⟨fun s tag h r hs hr => ⟨fun payload hst hp => ?taken, fun hst => ?refused⟩,
    fun s tag h index r e c payload hs hr hi he hready hc hp => ?collected⟩
  case taken =>
    refine exec_of_handler_answers rfl rfl hs ((takePayload_wrapped hr hst).trans ?_)
    rw [hp]; rfl
  case refused => exact exec_of_handler_answers rfl rfl hs (takePayload_refused hr hst)
  case collected =>
    refine exec_of_handler_answers rfl rfl hs ((collect_ready hr hi he hready).trans ?_)
    rw [hc, hp]
    simp [u8, u16, u32]

/-- Settles O26: each request on a record by its checks, each with those before it passed. -/
theorem recordRequestsAreRefusedInOrder : Obligations.RecordRequestsAreRefusedInOrder := by
  unfold Obligations.RecordRequestsAreRefusedInOrder
  intro s tag h hs stale holds tooLate shareFull spent busy lost cardless notApproved refuses
  cases hr : s.current? h with
  | none =>
    have hstale : ∀ {checks status}, firstFailing (stale :: checks) = some status → status = .staleHandle := by
      intro checks status hst
      have hfirst : stale = (true, Status.staleHandle) := by simp [stale, hr]
      rw [hfirst, firstFailing_cons, if_pos rfl] at hst
      exact (Option.some.inj hst).symm
    refine ⟨?_, ?_, ?_, ?_, fun _ _ _ => ?_, fun _ _ => ?_, ?_, fun _ => ?_, ?_, fun _ => ?_⟩ <;>
      intro status hst <;> cases hstale hst <;>
      exact exec_of_handler_answers rfl rfl hs (withRecord_of_stale hr _)
  | some r =>
    have hlive : ∀ checks, firstFailing (stale :: checks) = firstFailing checks := by
      intro checks
      have hfirst : stale = (false, Status.staleHandle) := by simp [stale, hr]
      rw [hfirst, firstFailing_cons, if_neg (by decide)]
    have hholds : ∀ test : Record → Bool, holds test = test r := by
      intro test; simp only [holds, hr, Option.any_some]
    have hspent : (∀ b, r.binding = some b → ∀ i, s.entryOf b.generation = some i →
        65536 ≤ look (s.entry i).counters r.lane) → s.followUpCounter? r = none := followUpCounter_spent
    refine ⟨?take, ?abandon, ?retire, ?readRecord, fun result approval decline => ?settle,
      fun present code => ?confirm, ?reject, fun amount => ?adjust, ?void, fun index => ?collect⟩ <;>
      intro status hst <;> rw [hlive] at hst <;>
      simp only [firstFailing_cons, firstFailing_nil, hholds, decide_eq_true_eq, tooLate, notApproved, lost,
        cardless, busy, shareFull, spent] at hst <;>
      refine exec_of_handler_answers rfl rfl hs ?_
    case take =>
      split_ifs at hst with hst'
      cases hst
      exact takePayload_refused hr hst'
    case abandon =>
      split_ifs at hst with hst'
      cases hst
      exact abandon_refused hr (cancellation_too_late hst'.1 hst'.2.1 hst'.2.2 ..)
    case retire =>
      split_ifs at hst with hclosed
      cases hst
      rw [retire, withRecord_of_current hr]
      exact if_neg (by simpa using hclosed)
    case readRecord => cases hst
    case settle =>
      split_ifs at hst with hrange hlapsed hstate
      · cases hst; exact settle_refused_range hr (settle_out_of_range hrange)
      · cases hst
        exact (settle_refused_state hr (settle_in_range hrange) (by rw [hlapsed]; decide)).trans
          (by rw [if_pos hlapsed]; rfl)
      · cases hst
        exact (settle_refused_state hr (settle_in_range hrange) hstate).trans (by rw [if_neg hlapsed]; rfl)
    case confirm =>
      split_ifs at hst with hrange hlapsed hstate
      · cases hst
        exact confirm_refused_range hr ((confirmCode_eq present code).trans (if_pos hrange))
      · cases hst
        exact (confirm_refused_state hr ((confirmCode_eq present code).trans (if_neg hrange))
          (by rw [hlapsed]; decide)).trans (by rw [if_pos hlapsed]; rfl)
      · cases hst
        exact (confirm_refused_state hr ((confirmCode_eq present code).trans (if_neg hrange)) hstate).trans
          (by rw [if_neg hlapsed]; rfl)
    case reject =>
      change reject h s = refuse s status
      rw [reject, withRecord_of_current hr]
      split_ifs at hst ⊢ <;> cases hst <;> rfl
    case adjust =>
      change adjust h amount s = refuse s status
      rw [adjust, withRecord_of_current hr]
      have hin : ¬ inRange 1 amount.toNat (adjustCeiling s.limits.adjustCap r.original) = true ↔
          amount.toNat = 0 ∨
            min (r.original * (100 + s.limits.adjustCap) / 100) 99999999 < amount.toNat := by
        rw [inRange, adjustCeiling_eq, decide_eq_true_eq]; omega
      simp only [hin, busy_eq]
      by_cases hlapsed : r.state = .lapsed
      · rw [if_pos hlapsed] at hst ⊢; cases hst; rfl
      rw [if_neg hlapsed] at hst ⊢
      by_cases hstate : r.state ≠ .approved ∧ r.state ≠ .deferred
      · rw [if_pos hstate] at hst ⊢; cases hst; rfl
      rw [if_neg hstate] at hst ⊢
      by_cases hrange : amount.toNat = 0 ∨
          min (r.original * (100 + s.limits.adjustCap) / 100) 99999999 < amount.toNat
      · rw [if_pos hrange] at hst ⊢; cases hst; rfl
      rw [if_neg hrange] at hst ⊢
      by_cases hcount : 2 ≤ (r.followUps.filter fun f => f.kind = .adjust).length
      · rw [if_pos hcount] at hst; rw [if_pos (show 2 ≤ r.adjustCount from hcount)]; cases hst; rfl
      rw [if_neg hcount] at hst
      rw [if_neg (show ¬ 2 ≤ r.adjustCount from hcount)]
      exact followUp_refused (fun hno => by rw [hspent hno]) hst
    case void =>
      change voidPayment h s = refuse s status
      rw [voidPayment, withRecord_of_current hr]
      simp only [busy_eq]
      by_cases hlapsed : r.state = .lapsed
      · rw [if_pos hlapsed] at hst ⊢; cases hst; rfl
      rw [if_neg hlapsed] at hst ⊢
      by_cases hstate : r.state ≠ .approved ∧ r.state ≠ .deferred
      · rw [if_pos hstate] at hst ⊢; cases hst; rfl
      rw [if_neg hstate] at hst ⊢
      exact followUp_refused (fun hno => by rw [hspent hno]) hst
    case collect =>
      split_ifs at hst with hrange hfound hstate
      · cases hst; exact collect_refused_range hr hrange
      · cases hst; exact collect_refused_notFound hr hrange hfound
      · cases hst
        obtain ⟨e, he, hready⟩ := (Option.any_eq_true _ _).mp hstate
        exact collect_refused_state hr hrange he (by simpa using hready)

/-- Settles O27: CONFIRM without and with a code, and REJECT. -/
theorem confirmAndRejectLeaveTheAccount : Obligations.ConfirmAndRejectLeaveTheAccount := by
  unfold Obligations.ConfirmAndRejectLeaveTheAccount
  intro s tag h r hs hr hst slot lowered account totals
  have htotals : totalsBytes (s.leaveAccount r.lane r.current) r.lane = totals :=
    totalsBytes_leaveAccount ..
  refine ⟨fun code => ?kept, fun code o hcode ho => ?replaced, fun hf => ?rejected⟩
  case kept =>
    refine exec_of_handler_answers rfl rfl hs ((confirm_deferred hr hst (new := none) rfl).trans ?_)
    simp only [Record.confirm, Option.map_id', htotals]
    rfl
  case replaced =>
    have hc : confirmCode 1 code = some (some code) := by
      rw [confirmCode_eq, hcode]; rfl
    refine exec_of_handler_answers rfl rfl hs ((confirm_deferred hr hst hc).trans ?_)
    simp only [Record.confirm, ho, Option.map_some, htotals]
    rfl
  case rejected =>
    refine exec_of_handler_answers rfl rfl hs ((reject_deferred hr hst hf).trans ?_)
    rw [htotals]
    rfl

end Sys2Proof.Proofs
end


section
/-! PROOFS. Follow-ups, RETIRE, the key table and the wrap engine (Chapters 1, 4, 5 and 6): what the engine
leaves of the record table, the checks and acts of ADJUST and VOID, RETIRE, KEY LOAD, KEY ROLL and KEY DROP,
and the engine's service. -/

namespace Sys2Proof.Machine

/-! ## What serving leaves of the record table (R81, R110) -/

/-- Admission changes the slots and the WAITING set of the record table alone (R81). -/
theorem admitFrom_table (slots : List Slot) (s : State) :
    (State.admitFrom slots s).table =
      { s.table with
        slots := (State.admitFrom slots s).table.slots
        waiting := (State.admitFrom slots s).table.waiting } := by
  induction slots generalizing s with
  | nil => rfl
  | cons slot rest ih =>
    unfold State.admitFrom
    split
    · exact ih s
    · split
      · exact ih s
      · split
        · next h => rw [takeCounter_frame h]; rfl
        · exact ih _

theorem admitted_table (s : State) (job : Job) :
    (if job.isAutomatic = true then s.admitWaiting else s).table =
      { s.table with
        slots := (if job.isAutomatic = true then s.admitWaiting else s).table.slots
        waiting := (if job.isAutomatic = true then s.admitWaiting else s).table.waiting } := by
  split
  · exact admitFrom_table ..
  · rfl

theorem serveHead_table (n : Nat) (s : State) :
    (State.serveHead n s).table =
      { s.table with
        slots := (State.serveHead n s).table.slots
        waiting := (State.serveHead n s).table.waiting } := by
  induction n generalizing s with
  | zero => rfl
  | succ n ih =>
    cases hq : s.engine.queue with
    | nil => rw [serveHead_nil n hq]; rfl
    | cons job rest =>
      rw [serveHead_cons n hq]
      dsimp only
      have hadmitted := admitted_table (s.setQueue rest) job
      split
      · exact hadmitted
      · rw [ih, endAtOnce_frame]
        dsimp only
        rw [hadmitted]
        rfl

/-- A job placed changes the slots and the WAITING set of the record table alone (R110). -/
theorem placeJob_table (s : State) (job : Job) :
    (s.placeJob job).table =
      { s.table with
        slots := (s.placeJob job).table.slots, waiting := (s.placeJob job).table.waiting } := by
  unfold State.placeJob
  dsimp only
  split
  · split
    · rfl
    · exact serveHead_table ..
  · rfl
  · rfl

@[simp] theorem book_placeJob (s : State) (job : Job) (l : LaneId) :
    (s.placeJob job).book l = s.book l := by
  rw [State.book, placeJob_table]; rfl

@[simp] theorem storeTotal_placeJob (s : State) (job : Job) :
    (s.placeJob job).table.storeTotal = s.table.storeTotal := by
  rw [placeJob_table]

@[simp] theorem port_placeJob (s : State) (job : Job) : (s.placeJob job).port = s.port := by
  rw [placeJob_frame]

/-! ## A take leaves the other blocks (R99) -/

section
variable {s t : State} {g c : Nat} {l : LaneId} {limit : Nat}
  (h : s.takeCounter g l limit = some (c, t))
include h

theorem takeCounter_table : t.table = s.table := by rw [takeCounter_frame h]

theorem takeCounter_recordAt (slot : Slot) : t.recordAt slot = s.recordAt slot := by
  rw [State.recordAt, State.cell, takeCounter_table h]; rfl

theorem takeCounter_handleOf (slot : Slot) : t.handleOf slot = s.handleOf slot := by
  rw [State.handleOf, State.cell, takeCounter_table h]; rfl

theorem takeCounter_book (x : LaneId) : t.book x = s.book x := by
  rw [State.book, takeCounter_table h]; rfl

end

theorem followUpCounter_eq {s : State} {r : Record} {b : Binding} (hb : r.binding = some b) :
    s.followUpCounter? r = s.takeCounter b.generation r.lane 65536 := by
  simp only [State.followUpCounter?, hb]; rfl

theorem captureGeneration_eq {r : Record} {b : Binding} (hb : r.binding = some b) :
    r.captureGeneration = b.generation := by
  simp only [Record.captureGeneration, hb]

/-! ## ADJUST past its checks (R67, R73 to R76) -/

/-- A record after an accepted ADJUST (R76). -/
def Record.adjusted (r : Record) (amount counter : Nat) : Record :=
  { r with
    current := amount
    followUps := r.followUps ++
      [{ kind := .adjust, amount := amount, counter := some counter, status := .wrapping, payload := none }] }

/-- A record after an accepted VOID (R78). -/
def Record.voided (r : Record) (counter : Nat) : Record :=
  { r with
    state := .voided, stateTimer := none
    followUps := r.followUps ++
      [{ kind := .reversal, amount := r.current, counter := some counter, status := .wrapping
         payload := none }] }

/-- The bytes of an accepted ADJUST or VOID without totals (R76, R78). -/
theorem followUpReply_alone (s : State) (l : LaneId) (index counter amount : Nat) :
    followUpReply s l false index counter amount =
      .answer s .done
        (bytesOf 1 index ++ bytesOf 2 counter ++ bytesOf 4 amount ++ List.replicate 9 0) := by
  simp [followUpReply, u8, u16, u32, Machine.optional, List.replicate]

/-- The bytes of an accepted ADJUST or VOID of a DEFERRED record (R76, R78). -/
theorem followUpReply_totals (s : State) (l : LaneId) (index counter amount : Nat) :
    followUpReply s l true index counter amount =
      .answer s .done
        (bytesOf 1 index ++ bytesOf 2 counter ++ bytesOf 4 amount ++ [1] ++
          bytesOf 4 (s.book l).total ++ bytesOf 4 s.table.storeTotal) := by
  simp [followUpReply, u8, u16, u32, Machine.optional, totalsBytes]

section
variable {s s' : State} {h : Handle} {r : Record} {b : Binding} {c : Nat}
  (hr : s.current? h = some r) (hcard : r.card.isSome = true)
  (hidle : ∀ f ∈ r.followUps, f.status ≠ .waiting ∧ f.status ≠ .wrapping)
  (hroom : s.requestedCount < 15) (hb : r.binding = some b)
  (htake : s.takeCounter b.generation r.lane 65536 = some (c, s'))
include hr hcard hidle hroom hb htake

/-- A VOID that passes its checks is accepted with the counter taken (R77). -/
theorem voidPayment_passed (hst : r.state = .approved ∨ r.state = .deferred) :
    voidPayment h s = acceptVoid (slotOf h) r c s' := by
  have hbusy : r.busy = false := by simpa [busy_eq] using hidle
  have hfull : ¬ Config.requestedShare ≤ s.requestedCount := Nat.not_le.mpr hroom
  have hhas : r.card ≠ none := Option.isSome_iff_ne_none.mp hcard
  rw [voidPayment, withRecord_of_current hr]
  rcases hst with hst | hst <;> simp [hst, hhas, hbusy, hfull, followUpCounter_eq hb, htake]

variable {amount : Word} (hlow : 1 ≤ amount.toNat)
  (hceiling : amount.toNat ≤ adjustCeiling s.limits.adjustCap r.original)
  (hcount : (r.followUps.filter fun f => f.kind = .adjust).length < 2)
include hlow hceiling hcount

/-- An ADJUST that passes the checks of R75 answers by the exposure check of R76 alone. -/
theorem adjust_exposed {check : ExposureCheck} (hst : r.state = .approved ∨ r.state = .deferred)
    (hx : adjustExposure s r amount.toNat = some check) :
    adjust h amount s = .answer s .exposure (u8 check.code) := by
  have hbusy : r.busy = false := by simpa [busy_eq] using hidle
  have hfull : ¬ Config.requestedShare ≤ s.requestedCount := Nat.not_le.mpr hroom
  have hhas : r.card ≠ none := Option.isSome_iff_ne_none.mp hcard
  have hrange : inRange 1 amount.toNat (adjustCeiling s.limits.adjustCap r.original) = true :=
    decide_eq_true ⟨hlow, hceiling⟩
  have htwo : ¬ 2 ≤ r.adjustCount := Nat.not_le.mpr hcount
  rw [adjust, withRecord_of_current hr]
  rcases hst with hst | hst <;>
    simp [hst, hrange, htwo, hhas, hbusy, hfull, followUpCounter_eq hb, htake, hx]

theorem adjust_accepted (hst : r.state = .approved ∨ r.state = .deferred)
    (hx : adjustExposure s r amount.toNat = none) :
    adjust h amount s = acceptAdjust (slotOf h) r amount.toNat c s' := by
  have hbusy : r.busy = false := by simpa [busy_eq] using hidle
  have hfull : ¬ Config.requestedShare ≤ s.requestedCount := Nat.not_le.mpr hroom
  have hhas : r.card ≠ none := Option.isSome_iff_ne_none.mp hcard
  have hrange : inRange 1 amount.toNat (adjustCeiling s.limits.adjustCap r.original) = true :=
    decide_eq_true ⟨hlow, hceiling⟩
  have htwo : ¬ 2 ≤ r.adjustCount := Nat.not_le.mpr hcount
  rw [adjust, withRecord_of_current hr]
  rcases hst with hst | hst <;>
    simp [hst, hrange, htwo, hhas, hbusy, hfull, followUpCounter_eq hb, htake, hx]

end

section
variable {s : State} {slot : Slot} {r : Record} {b : Binding} (hr : s.recordAt slot = some r)
  (hb : r.binding = some b) (amount counter : Nat)
include hr hb

theorem acceptAdjust_approved (hst : r.state = .approved) :
    acceptAdjust slot r amount counter s =
      followUpReply
        ((s.withRecordAt slot (r.adjusted amount counter)).placeJob
          (.followUp .adjust .requested (s.handleOf slot) r.followUps.length r.lane b.generation counter))
        r.lane false r.followUps.length counter amount := by
  simp only [acceptAdjust, hst, modRecord_eq hr, captureGeneration_eq hb]
  rfl

theorem acceptAdjust_deferred (hst : r.state = .deferred) :
    acceptAdjust slot r amount counter s =
      followUpReply
        (((s.changeAccount r.lane r.current amount).withRecordAt slot (r.adjusted amount counter)).placeJob
          (.followUp .adjust .requested (s.handleOf slot) r.followUps.length r.lane b.generation counter))
        r.lane true r.followUps.length counter amount := by
  simp only [acceptAdjust, hst, modRecord_eq hr, captureGeneration_eq hb]
  rfl

theorem acceptVoid_approved (hst : r.state = .approved) :
    acceptVoid slot r counter s =
      followUpReply
        ((s.withRecordAt slot (r.voided counter)).placeJob
          (.followUp .reversal .requested (s.handleOf slot) r.followUps.length r.lane b.generation counter))
        r.lane false r.followUps.length counter r.current := by
  simp only [acceptVoid, hst, modRecord_eq hr, captureGeneration_eq hb]
  rfl

theorem acceptVoid_deferred (hst : r.state = .deferred) :
    acceptVoid slot r counter s =
      followUpReply
        (((s.leaveAccount r.lane r.current).withRecordAt slot (r.voided counter)).placeJob
          (.followUp .reversal .requested (s.handleOf slot) r.followUps.length r.lane b.generation counter))
        r.lane true r.followUps.length counter r.current := by
  simp only [acceptVoid, hst, modRecord_eq hr, captureGeneration_eq hb]
  rfl

end

/-- Past the ceiling check an ADJUST answers another status than RANGE (R75). -/
theorem adjust_status_of_in_ceiling {s : State} {h : Handle} {r : Record} {amount : Word}
    (hr : s.current? h = some r) (hst : r.state = .approved ∨ r.state = .deferred)
    (hlow : 1 ≤ amount.toNat) (hceiling : amount.toNat ≤ adjustCeiling s.limits.adjustCap r.original) :
    ∃ t status body, adjust h amount s = .answer t status body ∧ status ≠ .range := by
  have hrange : inRange 1 amount.toNat (adjustCeiling s.limits.adjustCap r.original) = true :=
    decide_eq_true ⟨hlow, hceiling⟩
  have hlapsed : r.state ≠ .lapsed := by rcases hst with hst | hst <;> rw [hst] <;> decide
  have hstate : ¬ (r.state ≠ .approved ∧ r.state ≠ .deferred) := fun hno => hst.elim hno.1 hno.2
  have hcard : noCardStatus r ≠ .range := by
    rw [noCardStatus_eq]; split <;> decide
  rw [adjust, withRecord_of_current hr]
  rw [if_neg hlapsed, if_neg hstate, hrange]
  simp only [not_true_eq_false, if_false]
  split_ifs with hcount hnone hbusy hfull
  · exact ⟨_, _, _, rfl, by decide⟩
  · exact ⟨_, _, _, rfl, hcard⟩
  · exact ⟨_, _, _, rfl, by decide⟩
  · exact ⟨_, _, _, rfl, by decide⟩
  · split
    · exact ⟨_, _, _, rfl, by decide⟩
    · split
      · exact ⟨_, _, _, rfl, by decide⟩
      · exact ⟨_, _, _, rfl, by decide⟩

/-! ## RETIRE (R20, R21, R97, R98) -/

theorem Record.closed_iff (r : Record) :
    r.closed = true ↔
      r.state ∈ [PaymentState.approved, .declined, .rejected, .voided, .lapsed, .cancelled, .failed] ∧
        r.delivery.value ∈ [DeliveryValue.none, .acked, .unconfirmed] ∧
        ∀ f ∈ r.followUps, f.status = .collected ∨ f.status = .failed := by
  have hstate : ∀ st : PaymentState, st.isClosing = true ↔
      st ∈ [PaymentState.approved, .declined, .rejected, .voided, .lapsed, .cancelled, .failed] := by
    intro st; cases st <;> decide
  have hdelivery : ∀ d : DeliveryValue, (!d.isOpen) = true ↔
      d ∈ [DeliveryValue.none, .acked, .unconfirmed] := by
    intro d; cases d <;> decide
  have hsettled : ∀ x : FollowUpStatus, x.isSettled = true ↔ x = .collected ∨ x = .failed := by
    intro x; cases x <;> decide
  rw [Record.closed, Bool.and_eq_true, Bool.and_eq_true, hstate, hdelivery, List.all_eq_true, and_assoc]
  simp only [hsettled]

/-- A number put into an ascending list stands there once, in its place (R173). -/
theorem insertBy_ascending {drained : List Nat} (h : drained.Pairwise fun a b => a < b) (g : Nat) :
    (insertBy (fun x y => decide (x < y)) g drained).Pairwise fun a b => a < b := by
  have hsorted := insertBy_pairwise (before := fun x y => decide (x < y))
    (fun a b c hab hbc => by simp only [decide_eq_true_eq] at *; omega)
    (fun a b hne hab => by simp only [decide_eq_true_eq, decide_eq_false_iff_not] at *; omega) g
    (l := drained) (by simpa using h)
  simpa using hsorted

/-- Unbinding changes the key entries and the drained generations alone (R97, R98). -/
theorem unbindRecord_frame (s : State) (r : Record) :
    s.unbindRecord r =
      { s with keys := (s.unbindRecord r).keys, attention := (s.unbindRecord r).attention } := by
  unfold State.unbindRecord
  split
  · split
    · unfold State.unbindEntry
      split
      · rfl
      · dsimp only; split <;> rfl
    · rfl
  · rfl

theorem unbindRecord_unbound {r : Record} (h : r.bound = false ∨ r.binding = none) (s : State) :
    s.unbindRecord r = s := by
  unfold State.unbindRecord
  rcases h with h | h
  · split <;> simp [h]
  · simp only [h]

section
variable {s : State} {r : Record} {b : Binding} {i : Fin 4} (hbound : r.bound = true)
  (hb : r.binding = some b) (hi : s.entryOf b.generation = some i)
include hbound hb hi

theorem unbindRecord_drains (hst : (s.entry i).state = .draining) (hone : (s.entry i).bindings = 1) :
    s.unbindRecord r = (s.setEntry i KeyEntry.vacant).latchDrained b.generation := by
  simp [State.unbindRecord, hbound, hb, State.unbindEntry, hi, hst, hone]

theorem unbindRecord_lowers (h : (s.entry i).state ≠ .draining ∨ 2 ≤ (s.entry i).bindings) :
    s.unbindRecord r = s.setEntry i { s.entry i with bindings := (s.entry i).bindings - 1 } := by
  have hno : ¬ ((s.entry i).state = .draining ∧ (s.entry i).bindings - 1 = 0) := by
    rintro ⟨hst, hzero⟩
    exact h.elim (fun hne => hne hst) (fun htwo => by omega)
  simp only [State.unbindRecord, hbound, hb, State.unbindEntry, hi, if_true, if_neg hno]

end

theorem cell_freeSlot (s : State) (slot : Slot) (l : LaneId) (x : Slot) :
    (s.freeSlot slot l).cell x =
      if x = slot then { tag := (s.cell slot).tag, record := none } else s.cell x :=
  look_put ..

theorem book_freeSlot (s : State) (slot : Slot) (l x : LaneId) :
    (s.freeSlot slot l).book x =
      if x = l then { s.book l with list := (s.book l).list.erase slot } else s.book x :=
  look_put ..

theorem freeSlot_frame (s : State) (slot : Slot) (l : LaneId) :
    s.freeSlot slot l =
      { s with table :=
        { s.table with
          slots := (s.freeSlot slot l).table.slots, books := (s.freeSlot slot l).table.books
          free := s.table.free ++ [slot]
          lowMarkArmed := s.table.lowMarkArmed || decide (s.limits.lowMark < s.freeCount + 1) } } := rfl

theorem retire_closed {s : State} {h : Handle} {r : Record} (hr : s.current? h = some r)
    (hc : r.closed = true) :
    retire h s =
      .answer ((s.unbindRecord r).freeSlot (slotOf h) r.lane) .done (bytesOf 4 (s.freeCount + 1)) := by
  have hfree : ((s.unbindRecord r).freeSlot (slotOf h) r.lane).freeCount = s.freeCount + 1 := by
    rw [State.freeCount, freeSlot_frame, unbindRecord_frame]
    simp [State.freeCount]
  rw [retire, withRecord_of_current hr, if_pos hc]
  dsimp only
  rw [hfree]
  rfl

end Sys2Proof.Machine

/-! ## The obligations -/

namespace Sys2Proof.Proofs

open Sys2Proof.Machine

/-- Settles O28: the ceiling by its formula, and its check by the amount. -/
theorem adjustCeilingFollowsTheCap : Obligations.AdjustCeilingFollowsTheCap := by
  unfold Obligations.AdjustCeilingFollowsTheCap
  refine ⟨fun cap original => ?formula, by decide, by decide, by decide, by decide,
    fun s tag h r amount hs hr hst => ⟨fun hno => ?outside, fun hlow hceiling t ht answer hanswer => ?inside⟩⟩
  case formula =>
    rw [adjustCeiling_eq]
    split <;> omega
  case outside =>
    have hlapsed : r.state ≠ .lapsed := by rcases hst with hst | hst <;> rw [hst] <;> decide
    have hstate : ¬ (r.state ≠ .approved ∧ r.state ≠ .deferred) := fun hno => hst.elim hno.1 hno.2
    have hrange : ¬ inRange 1 amount.toNat (adjustCeiling s.limits.adjustCap r.original) = true := by
      rw [inRange, decide_eq_true_eq]; omega
    refine exec_of_handler_answers rfl rfl hs ?_
    rw [adjust, withRecord_of_current hr, if_neg hlapsed, if_neg hstate, if_pos hrange]
    rfl
  case inside =>
    obtain ⟨t', status, body, hadjust, hne⟩ := adjust_status_of_in_ceiling hr hst hlow hceiling
    rw [exec_of_handler_answers rfl rfl hs hadjust] at ht
    cases ht
    rw [State.port_respond] at hanswer
    cases hanswer
    exact hne

/-- Settles O29: ADJUST by the record's state and the two ceilings, VOID by the record's state. -/
theorem adjustAndVoidAddAFollowUp : Obligations.AdjustAndVoidAddAFollowUp := by
  unfold Obligations.AdjustAndVoidAddAFollowUp
  refine ⟨fun s tag h amount r b c s' hs hr hlow hceiling hcount hcard hidle hroom hb htake => ?adjust,
    fun s tag h r b c s' hs hr hcard hidle hroom hb htake => ?void⟩
  case adjust =>
    intro slot index adjusted job entry laneTotal storeTotal moved account
    have haccepts := adjust_accepted hr hcard hidle hroom hb htake hlow hceiling hcount
    have hexposes := fun {check} => adjust_exposed (check := check) hr hcard hidle hroom hb htake hlow
      hceiling hcount
    have hat : s'.recordAt slot = some r := (takeCounter_recordAt htake slot).trans
      (State.recordAt_of_current hr)
    have hhandle : s'.handleOf slot = h := (takeCounter_handleOf htake slot).trans
      (handleOf_of_current hr)
    have hbook : s'.book r.lane = s.book r.lane := takeCounter_book htake r.lane
    have htable : s'.table = s.table := takeCounter_table htake
    refine ⟨fun hst => ?approved, fun hst hmore hlane => ?laneCeiling,
      fun hst hmore hlane hstore => ?storeCeiling, fun hst hfits => ?deferred⟩
    case approved =>
      have hx : adjustExposure s r amount.toNat = none := by simp [adjustExposure, hst]
      refine exec_of_handler_answers rfl rfl hs ((haccepts (.inl hst) hx).trans ?_)
      rw [acceptAdjust_approved hat hb _ _ hst, followUpReply_alone, hhandle]
      rfl
    case laneCeiling =>
      have hx : adjustExposure s r amount.toNat = some .laneCeiling := by
        simp [adjustExposure, hst, hmore, hlane]
      exact exec_of_handler_answers rfl rfl hs (hexposes (.inr hst) hx)
    case storeCeiling =>
      have hx : adjustExposure s r amount.toNat = some .storeCeiling := by
        simp [adjustExposure, hst, hmore, Nat.not_lt.mpr hlane, hstore]
      exact exec_of_handler_answers rfl rfl hs (hexposes (.inr hst) hx)
    case deferred =>
      have hx : adjustExposure s r amount.toNat = none := by
        unfold adjustExposure
        split
        · next hd => rw [if_neg (Nat.not_lt.mpr (hfits hd.2).1), if_neg (Nat.not_lt.mpr (hfits hd.2).2)]
        · rfl
      have haccount : s'.changeAccount r.lane r.current amount.toNat = account := by
        simp only [State.changeAccount, account, moved, laneTotal, storeTotal, State.modBook, hbook, htable]
      have hlane : (account.book r.lane).total = laneTotal := by
        rw [← haccount, State.book_changeAccount, if_pos rfl, hbook]
      refine exec_of_handler_answers rfl rfl hs ((haccepts (.inr hst) hx).trans ?_)
      refine (acceptAdjust_deferred hat hb _ _ hst).trans ?_
      rw [followUpReply_totals, hhandle, haccount, book_placeJob, book_withRecordAt, hlane,
        storeTotal_placeJob]
      rfl
  case void =>
    intro slot index voided job entry laneTotal storeTotal moved account
    have hpassed := voidPayment_passed hr hcard hidle hroom hb htake
    have hat : s'.recordAt slot = some r := (takeCounter_recordAt htake slot).trans
      (State.recordAt_of_current hr)
    have hhandle : s'.handleOf slot = h := (takeCounter_handleOf htake slot).trans
      (handleOf_of_current hr)
    have hbook : s'.book r.lane = s.book r.lane := takeCounter_book htake r.lane
    have htable : s'.table = s.table := takeCounter_table htake
    refine ⟨fun hst => ?approved, fun hst => ?deferred⟩
    case approved =>
      refine exec_of_handler_answers rfl rfl hs ((hpassed (.inl hst)).trans ?_)
      rw [acceptVoid_approved hat hb _ hst, followUpReply_alone, hhandle]
      rfl
    case deferred =>
      have haccount : s'.leaveAccount r.lane r.current = account := by
        simp only [State.leaveAccount, account, moved, laneTotal, storeTotal, State.modBook, hbook, htable]
      have hlane : (account.book r.lane).total = laneTotal := by
        rw [← haccount, State.book_leaveAccount, if_pos rfl, hbook]
      refine exec_of_handler_answers rfl rfl hs ((hpassed (.inr hst)).trans ?_)
      refine (acceptVoid_deferred hat hb _ hst).trans ?_
      rw [followUpReply_totals, hhandle, haccount, book_placeJob, book_withRecordAt, hlane,
        storeTotal_placeJob]
      rfl

/-- Settles O30: closed records, the drained generations' order, and RETIRE by the record's binding. -/
theorem retireFreesTheSlot : Obligations.RetireFreesTheSlot := by
  unfold Obligations.RetireFreesTheSlot
  refine ⟨Record.closed_iff, fun g drained h => ⟨insertBy_ascending h g, fun x => mem_insertBy ..⟩,
    fun s tag h r hs hr hc => ?_⟩
  intro slot
  let u := s.unbindRecord r
  have hu : u = { s with keys := u.keys, attention := u.attention } := unbindRecord_frame s r
  have htable : u.table = s.table := by rw [hu]
  have hlimits : u.limits = s.limits := by rw [hu]
  have hcell : ∀ x, u.cell x = s.cell x := fun x => by rw [State.cell, htable]; rfl
  have hbook : ∀ x, u.book x = s.book x := fun x => by rw [State.book, htable]; rfl
  have hframe : u.freeSlot slot r.lane =
      { u with table := (u.freeSlot slot r.lane).table } := rfl
  refine ⟨u.freeSlot slot r.lane, exec_of_handler_answers rfl rfl hs (retire_closed hr hc), ?frame, ?cell,
    fun x hx => ?cells, ?free, ?book, fun x hx => ?books, ?mark, ?total, ?waiting, fun hun => ?unbound,
    fun b i hbound hb hi => ?bound⟩
  case frame => rw [hframe, hu]
  case cell => rw [cell_freeSlot, if_pos rfl, hcell]
  case cells => rw [cell_freeSlot, if_neg hx, hcell]
  case free => rw [freeSlot_frame]; exact congrArg (· ++ [slot]) (congrArg (·.free) htable)
  case book => rw [book_freeSlot, if_pos rfl, hbook]
  case books => rw [book_freeSlot, if_neg hx, hbook]
  case mark =>
    change (u.table.lowMarkArmed || decide (u.limits.lowMark < u.freeCount + 1)) = _
    rw [htable, hlimits, State.freeCount, htable]
    rfl
  case total => rw [freeSlot_frame]; exact congrArg (·.storeTotal) htable
  case waiting => rw [freeSlot_frame]; exact congrArg (·.waiting) htable
  case unbound =>
    rw [hframe]
    have hsame : u = s := unbindRecord_unbound hun s
    exact ⟨congrArg (·.keys) hsame, congrArg (·.attention) hsame⟩
  case bound =>
    rw [hframe]
    refine ⟨?_, fun j hj => ?_, fun hst hone => ?_, fun hno => ?_⟩
    · by_cases hdrains : (s.entry i).state = .draining ∧ (s.entry i).bindings = 1
      · exact congrArg (·.keys.highest) (unbindRecord_drains hbound hb hi hdrains.1 hdrains.2)
      · by_cases hzero : (s.entry i).state ≠ .draining ∨ 2 ≤ (s.entry i).bindings
        · exact congrArg (·.keys.highest) (unbindRecord_lowers hbound hb hi hzero)
        · simp only [u, State.unbindRecord, hbound, hb, State.unbindEntry, hi, if_true]
          split <;> rfl
    · change u.entry j = s.entry j
      have hset : ∀ e, (s.setEntry i e).entry j = s.entry j := fun e => by
        rw [State.entry_setEntry, if_neg hj]
      simp only [u, State.unbindRecord, hbound, hb, State.unbindEntry, hi, if_true]
      split
      · exact hset _
      · exact hset _
    · have hd : u = _ := unbindRecord_drains hbound hb hi hst hone
      change u.entry i = _ ∧ u.attention = _
      rw [hd]
      exact ⟨State.entry_setEntry_self .., rfl⟩
    · have hl : u = _ := unbindRecord_lowers hbound hb hi hno
      change u.entry i = _ ∧ u.attention = _
      rw [hl]
      exact ⟨State.entry_setEntry_self .., rfl⟩

end Sys2Proof.Proofs
end


section
/-! PROOFS. Keys and the engine (Chapters 5 and 6): KEY LOAD's checks, KEY ROLL and KEY DROP, the take of a
counter, the completions, the engine's service, the expiries and the automatic reversal. -/

namespace Sys2Proof.Machine

/-! ## Finding a key table entry (R88, R89) -/

theorem findEntry_eq_some_iff {s : State} {test : KeyEntry → Bool} {i : Fin 4} :
    s.findEntry test = some i ↔
      test (s.entry i) = true ∧ ∀ j, j < i → test (s.entry j) = false := by
  rw [State.findEntry, List.find?_eq_some_iff_getElem]
  constructor
  · rintro ⟨hi, k, hk, rfl, hbefore⟩
    refine ⟨hi, fun j hj => ?_⟩
    have hjk : j.val < k := by simpa [Fin.lt_def] using hj
    simpa using hbefore j.val hjk
  · rintro ⟨hi, hbefore⟩
    refine ⟨hi, i.val, by simp, by simp, fun j hj => ?_⟩
    have hlt : j < 4 := by omega
    simpa using hbefore ⟨j, hlt⟩ hj

theorem entryIn_eq_some_iff {s : State} {st : EntryState} {i : Fin 4} :
    s.entryIn st = some i ↔ (s.entry i).state = st ∧ ∀ j, j < i → (s.entry j).state ≠ st := by
  simp [State.entryIn, findEntry_eq_some_iff]

theorem isSome_entryIn_iff {s : State} {st : EntryState} :
    (s.entryIn st).isSome = true ↔ ∃ i, (s.entry i).state = st := by
  rw [Option.isSome_iff_ne_none, ne_eq, entryIn_eq_none_iff]
  simp

/-- An entry carries a generation exactly when its material has that number (R88). -/
theorem carries_iff {g : Nat} {e : KeyEntry} :
    e.carries g = true ↔ e.material.map (fun m => m.generation) = some g := by
  unfold KeyEntry.carries
  split <;> simp [*]

theorem entryOf_eq_some_iff {s : State} {g : Nat} {i : Fin 4} :
    s.entryOf g = some i ↔
      (s.entry i).material.map (fun m => m.generation) = some g ∧
        ∀ j, j < i → ¬ (s.entry j).material.map (fun m => m.generation) = some g := by
  simp only [State.entryOf, findEntry_eq_some_iff, carries_iff, ← Bool.not_eq_true]

theorem entryOf_eq_none_iff {s : State} {g : Nat} :
    s.entryOf g = none ↔ ∀ i, ¬ (s.entry i).material.map (fun m => m.generation) = some g := by
  simp only [State.entryOf, State.findEntry, List.find?_eq_none, List.mem_finRange, forall_const,
    carries_iff]

/-! ## KEY LOAD (R90) -/

/-- The checks of KEY LOAD, in the order of R90. -/
def keyLoadChecks (generation : Half) (s : State) : List (Bool × Status) :=
  [ (s.commission.isNone, .notCommissioned), (decide (generation.toNat = 0), .range),
    (decide (s.caseMon.current = .opened), .caseOpen), (decide (s.supply.state = .low), .supplyLow),
    (decide (generation.toNat ≤ s.keys.highest), .genOrder),
    (decide (∃ i, (s.entry i).state = .pending), .pendingExists),
    (decide (∀ i, (s.entry i).state ≠ .empty), .keyTableFull) ]

theorem keyLoadRefusal_eq (generation : Half) (s : State) :
    keyLoadRefusal generation s = firstFailing (keyLoadChecks generation s) := by
  have hzero : generation = 0 ↔ generation.toNat = 0 := by
    rw [← BitVec.toNat_inj]; rfl
  have hcase : caseLevel s.caseMon.lineA s.caseMon.lineB = s.caseMon.current := rfl
  simp only [keyLoadRefusal, keyLoadChecks, firstFailing_cons, firstFailing_nil, decide_eq_true_eq,
    Option.isNone_iff_eq_none, hzero, hcase, isSome_entryIn_iff, entryIn_eq_none_iff]

/-! ## KEY ROLL and KEY DROP (R94, R96) -/

/-- An entry just found PENDING is another than the one found ACTIVE (R88). -/
theorem ne_of_entryIn {s : State} {a b : EntryState} {i j : Fin 4} (hi : s.entryIn a = some i)
    (hj : s.entryIn b = some j) (hab : a ≠ b) : i ≠ j := by
  rintro rfl
  exact hab ((entryIn_eq_some_iff.mp hi).1.symm.trans (entryIn_eq_some_iff.mp hj).1)

theorem turnAway_bound {s : State} {i : Fin 4} (h : 0 < (s.entry i).bindings) :
    s.turnAway i = s.setEntry i { s.entry i with state := .draining } := by
  simp only [State.turnAway, if_pos h]

theorem turnAway_unbound {s : State} {i : Fin 4} {m : KeyMaterial} (h : (s.entry i).bindings = 0)
    (hm : (s.entry i).material = some m) :
    s.turnAway i = (s.setEntry i KeyEntry.vacant).latchDrained m.generation := by
  simp [State.turnAway, h, hm]

section
variable {s : State} {p : Fin 4} {m : KeyMaterial} (hc : s.commission ≠ none)
  (hp : s.entryIn .pending = some p) (hm : (s.entry p).material = some m)
include hc hp hm

/-- A KEY ROLL without an ACTIVE entry (R94). -/
theorem keyRoll_first (ha : s.entryIn .active = none) :
    keyRoll s =
      .answer (s.setEntry p { s.entry p with state := .active }) .done
        (entryBytes p m ++ List.replicate 4 0) := by
  simp only [keyRoll, if_neg hc, hp, ha, hm, Option.getD_some]

/-- A KEY ROLL turns the ACTIVE entry away and makes the PENDING one ACTIVE (R94). -/
theorem keyRoll_next {a : Fin 4} (ha : s.entryIn .active = some a) :
    keyRoll s =
      .answer ((s.turnAway a).setEntry p { (s.turnAway a).entry p with state := .active }) .done
        (entryBytes p m ++ 1 :: turnedAwayBytes (s.entry a) ((s.turnAway a).entry a)) := by
  simp only [keyRoll, if_neg hc, hp, ha, hm, Option.getD_some]

end

/-- The bytes of the earlier ACTIVE entry in KEY ROLL's response (R94). -/
theorem turnedAwayBytes_eq {before : KeyEntry} {k : KeyMaterial} (h : before.material = some k)
    (after : KeyEntry) :
    turnedAwayBytes before after = bytesOf 2 k.generation ++ [BitVec.ofNat 8 after.state.code] := by
  simp [turnedAwayBytes, h, u16, u8, bytesOf]

/-! ## A counter taken (R99, R101) -/

/-- The state with the counter of a lane in an entry advanced by one (R99). -/
def State.advanceEntry (s : State) (i : Fin 4) (l : LaneId) : State :=
  s.setEntry i
    { s.entry i with counters := put (s.entry i).counters l (look (s.entry i).counters l + 1) }

/-- A take below the limit advances the counter, and latches the warning at its level (R99, R101). -/
theorem takeCounter_eq {s : State} {g : Nat} {l : LaneId} {limit : Nat} {i : Fin 4}
    (hi : s.entryOf g = some i) (hc : look (s.entry i).counters l < limit) :
    s.takeCounter g l limit = some (look (s.entry i).counters l,
      if look (s.entry i).counters l + 1 = s.limits.warning then (s.advanceEntry i l).latchWarning l g
      else s.advanceEntry i l) :=
  takeCounter_below hi hc

/-! ## Completions (R34, R83, R92) -/

section
variable {s : State} {slot : Slot} {r : Record} (hr : s.recordAt slot = some r)
  (hst : r.state = .capturing) (payload : List Byte)
include hr hst

theorem captureDone_kept (hp : r.cancelPending = none) :
    captureDone slot payload s = s.withRecordAt slot (r.wrap payload) := by
  simp only [captureDone, hr, hst, hp, if_true]
  exact modRecord_eq hr _

theorem captureDone_cancelled {reason : CancelReason} (hp : r.cancelPending = some reason) :
    captureDone slot payload s = s.cancelNow slot reason := by
  simp only [captureDone, hr, hst, hp, if_true]

end

theorem captureCompletion_eq {s : State} {h : Handle} {l : LaneId} {g c : Nat} {w : WrapInputs}
    (hv : s.engine.service = .serving (.capture h l g c) (.wrap w)) :
    captureCompletion s = (captureDone (slotOf h) (payloadOf (.capture h l g c) w) s).afterJob := by
  simp only [captureCompletion, hv]

theorem followUpCompletion_eq {s : State} {kind : FollowUpKind} {share : FollowUpShare} {h : Handle}
    {i : Nat} {l : LaneId} {g c : Nat} {w : WrapInputs}
    (hv : s.engine.service = .serving (.followUp kind share h i l g c) (.wrap w)) :
    followUpCompletion s =
      (s.modRecord (slotOf h) fun r =>
        r.completeFollowUp i kind (payloadOf (.followUp kind share h i l g c) w)).afterJob := by
  simp only [followUpCompletion, hv]

theorem keyUnwrapCompletion_eq {s : State} {g : Nat} {block transportKey : Block} {check : BitVec 64}
    (hv : s.engine.service = .serving (.unwrap g block check) (.unwrap transportKey)) :
    keyUnwrapCompletion s = (unwrapDone g (unwrapResult transportKey g block check) s).afterJob := by
  simp only [keyUnwrapCompletion, hv]

theorem respondHeld_serving {s : State} {kind tag : Byte} (h : s.port.state = .serving kind tag)
    (status : Status) (body : List Byte) :
    s.respondHeld status body = s.respond kind tag status body := by
  simp only [State.respondHeld, h]

/-- A follow-up entry changed is the entry put in its place. -/
theorem modFollowUp_eq {r : Record} {i : Nat} {e : FollowUp} (he : r.followUps[i]? = some e)
    (f : FollowUp → FollowUp) :
    r.modFollowUp i f = { r with followUps := r.followUps.set i (f e) } := by
  have hset : r.followUps.modify i f = r.followUps.set i (f e) := by
    rw [List.modify_eq_set_getElem?, he]; rfl
  rw [Record.modFollowUp, hset]

end Sys2Proof.Machine

/-! ## The obligations -/

namespace Sys2Proof.Proofs

open Sys2Proof.Machine

/-- Settles O33: the checks in order, then the job placed and the request held. -/
theorem keyLoadIsCheckedThenHeld : Obligations.KeyLoadIsCheckedThenHeld := by
  unfold Obligations.KeyLoadIsCheckedThenHeld
  intro s tag generation block check hs
  refine ⟨fun status hfails => ?refused, fun hpasses => ?held⟩
  case refused =>
    refine exec_of_handler_answers rfl rfl hs ?_
    rw [keyLoad, keyLoadRefusal_eq, keyLoadChecks, hfails]
    rfl
  case held =>
    have hhold : keyLoad generation block check s =
        .hold (s.placeJob (.unwrap generation.toNat block check)) := by
      rw [keyLoad, keyLoadRefusal_eq, keyLoadChecks, hpasses]
    rw [exec_request rfl rfl, takeRequest_of_accepts hs, hhold]
    rw [Reply.finish, port_placeJob]

/-- Settles O34: the lowest entry in a state, KEY ROLL by the entries' states, KEY DROP by the entry found. -/
theorem keyRollAndKeyDropTurnTheEntries : Obligations.KeyRollAndKeyDropTurnTheEntries := by
  unfold Obligations.KeyRollAndKeyDropTurnTheEntries
  refine ⟨fun s st => ⟨fun i => entryIn_eq_some_iff, entryIn_eq_none_iff s st⟩,
    ⟨fun s tag hs hc => ?notCommissioned, fun s tag c hs hc hnone => ?noPending,
      fun s tag c p m hs hc hp hm => ?rolls⟩,
    fun s tag generation hs => ⟨fun hzero => ?dropZero, fun hg hnone => ?dropNone,
      fun i hg hi => ⟨fun hst => ?dropState, fun hst => ?drops⟩⟩⟩
  case notCommissioned =>
    exact exec_of_handler_answers rfl rfl hs (by rw [keyRoll, if_pos hc]; rfl)
  case noPending =>
    have hin : s.entryIn .pending = none := (entryIn_eq_none_iff ..).mpr hnone
    refine exec_of_handler_answers rfl rfl hs ?_
    simp only [keyRoll, hc, hin, refuse, reduceCtorEq, if_false]
  case rolls =>
    intro named rolled
    have hcom : s.commission ≠ none := by rw [hc]; exact Option.some_ne_none c
    have hnamed : entryBytes p m = named := by
      simp [entryBytes, named, u8, u16, checkValueBytes]
    refine ⟨fun hnone => ?first, fun a k ha hk => ⟨fun hbound => ?bound, fun hfree => ?free⟩⟩
    case first =>
      refine exec_of_handler_answers rfl rfl hs ?_
      rw [keyRoll_first hcom hp hm ((entryIn_eq_none_iff ..).mpr hnone), hnamed]
      rfl
    case bound =>
      have hne : p ≠ a := ne_of_entryIn hp ha (by decide)
      refine exec_of_handler_answers rfl rfl hs ?_
      rw [keyRoll_next hcom hp hm ha, hnamed, turnAway_bound hbound, turnedAwayBytes_eq hk,
        State.entry_setEntry_self, State.entry_setEntry, if_neg hne]
      simp only [List.append_assoc, List.cons_append, rolled]
      rfl
    case free =>
      have hne : p ≠ a := ne_of_entryIn hp ha (by decide)
      refine exec_of_handler_answers rfl rfl hs ?_
      have hother : ((s.setEntry a KeyEntry.vacant).latchDrained k.generation).entry p = s.entry p :=
        (State.entry_setEntry ..).trans (if_neg hne)
      have hself : ((s.setEntry a KeyEntry.vacant).latchDrained k.generation).entry a = KeyEntry.vacant :=
        State.entry_setEntry_self ..
      rw [keyRoll_next hcom hp hm ha, hnamed, turnAway_unbound hfree hk, turnedAwayBytes_eq hk, hother,
        hself]
      simp only [List.append_assoc, List.cons_append, rolled]
      rfl
  case dropZero =>
    exact exec_of_handler_answers rfl rfl hs (by rw [keyDrop, if_pos hzero]; rfl)
  case dropNone =>
    refine exec_of_handler_answers rfl rfl hs ?_
    simp only [keyDrop, if_neg hg, hnone, refuse]
  case dropState =>
    refine exec_of_handler_answers rfl rfl hs ?_
    simp only [keyDrop, if_neg hg, hi, if_neg hst, refuse]
  case drops =>
    refine exec_of_handler_answers rfl rfl hs ?_
    simp only [keyDrop, if_neg hg, hi, if_pos hst]
    rfl

/-- Settles O35: the entry a generation finds, and a take by the counter and the limit. -/
theorem takingACounterAdvancesIt : Obligations.TakingACounterAdvancesIt := by
  unfold Obligations.TakingACounterAdvancesIt
  refine ⟨fun s g => ⟨fun i => entryOf_eq_some_iff, entryOf_eq_none_iff⟩, fun s g l limit i hi => ?_⟩
  intro c
  refine ⟨fun hspent => takeCounter_spent fun j hj => ?spent, fun hbelow => ?below⟩
  case spent =>
    obtain rfl : i = j := Option.some.inj (hi.symm.trans hj)
    exact hspent
  case below =>
    have hself : (s.advanceEntry i l).entry i =
        { s.entry i with counters := put (s.entry i).counters l (c + 1) } :=
      State.entry_setEntry_self ..
    have hother : ∀ j, j ≠ i → (s.advanceEntry i l).entry j = s.entry j := fun j hj =>
      (State.entry_setEntry ..).trans (if_neg hj)
    have hcounter : look ((s.advanceEntry i l).entry i).counters l = c + 1 := by
      rw [hself]; exact (look_put ..).trans (if_pos rfl)
    have hcounters : ∀ x, x ≠ l →
        look ((s.advanceEntry i l).entry i).counters x = look (s.entry i).counters x := fun x hx => by
      rw [hself]; exact (look_put ..).trans (if_neg hx)
    have hcarry : (s.advanceEntry i l).entry i =
        { s.entry i with counters := ((s.advanceEntry i l).entry i).counters } := by rw [hself]
    by_cases hw : c + 1 = s.limits.warning
    · exact ⟨(s.advanceEntry i l).latchWarning l g, (takeCounter_eq hi hbelow).trans (by rw [if_pos hw]),
        rfl, rfl, hother, hcounter, hcounters, hcarry, fun hno => absurd hw hno,
        fun _ => ⟨rfl, fun w => mem_insertBy ..⟩⟩
    · exact ⟨s.advanceEntry i l, (takeCounter_eq hi hbelow).trans (by rw [if_neg hw]),
        rfl, rfl, hother, hcounter, hcounters, hcarry, fun _ => rfl, fun hyes => absurd hyes hw⟩

/-- Settles O36: each completion by its job and its owner's act. -/
theorem completionsReportTheirResult : Obligations.CompletionsReportTheirResult := by
  unfold Obligations.CompletionsReportTheirResult
  refine ⟨⟨fun s h l g c w r hp hv hr hst => ⟨fun hn => ?wrapped, fun hn => ?reader, fun hn => ?abandoned⟩,
      fun s kind share h i l g c w r e hp hv hr he => ?followUp⟩,
    fun s g block check transportKey tag hp hv hheld =>
      ⟨fun hbad => ?keyCheck, fun i hgood hempty hfirst => ?stored⟩⟩
  case wrapped =>
    refine exec_of_running hp rfl ?_
    rw [captureCompletion_eq hv, captureDone_kept hr hst _ hn]
    rfl
  case reader =>
    refine exec_of_running hp rfl ?_
    rw [captureCompletion_eq hv, captureDone_cancelled hr hst _ hn, cancelNow_eq hr]
    simp only [Record.cancel, CancelReason.endReason, CancelReason.closeReason, decide_true, Bool.or_true]
  case abandoned =>
    refine exec_of_running hp rfl ?_
    have hno : decide (CancelReason.abandoned = .reader) = false := rfl
    rw [captureCompletion_eq hv, captureDone_cancelled hr hst _ hn, cancelNow_eq hr]
    simp only [Record.cancel, CancelReason.endReason, CancelReason.closeReason, hno, Bool.or_false]
  case followUp =>
    refine exec_of_running hp rfl ?_
    rw [followUpCompletion_eq hv, modRecord_eq hr, Record.completeFollowUp, modFollowUp_eq he]
  case keyCheck =>
    have hresult : unwrapResult transportKey g block check = none := if_neg hbad
    refine exec_of_running hp rfl ?_
    rw [keyUnwrapCompletion_eq hv, hresult, unwrapDone, respondHeld_serving hheld]
  case stored =>
    intro key checkValue filled stored
    have hresult : unwrapResult transportKey g block check = some (key, checkValue) := if_pos hgood
    have hin : s.entryIn .empty = some i := entryIn_eq_some_iff.mpr ⟨hempty, hfirst⟩
    have hdone : unwrapDone g (some (key, checkValue)) s =
        stored.respondHeld .done
          (entryBytes i { generation := g, key := key, checkValue := checkValue }) := by
      simp only [unwrapDone, hin]
      rfl
    have hbytes : entryBytes i { generation := g, key := key, checkValue := checkValue } =
        bytesOf 1 i.val ++ bytesOf 2 g ++ bytesOf 3 checkValue.toNat := by
      simp [entryBytes, u8, u16, checkValueBytes]
    refine exec_of_running hp rfl ?_
    rw [keyUnwrapCompletion_eq hv, hresult, hdone, respondHeld_serving (s := stored) hheld, hbytes]

end Sys2Proof.Proofs
end


section
/-! PROOFS. The engine's service and the expiries (Chapters 2 and 6): service and admission, the record
timers and the automatic reversal of a lapse. -/

namespace Sys2Proof.Machine

/-! ## Service (R110, R114) -/

@[simp] theorem gather_setQueue (s : State) (queue : List Job) (job : Job) :
    (s.setQueue queue).gather job = s.gather job := by
  cases job <;> rfl

@[simp] theorem gather_setService (s : State) (v : Service) (job : Job) :
    (s.setService v).gather job = s.gather job := by
  cases job <;> rfl

theorem afterJob_low {s : State} (h : s.supply.state = .low) : s.afterJob = s.setService .held := if_pos h

theorem afterJob_normal {s : State} (h : s.supply.state = .normal) : s.afterJob = s.serveNext :=
  if_neg (by rw [h]; decide)

theorem engineSupply_serving {s : State} {job : Job} {inputs : JobInputs}
    (h : s.engine.service = .serving job inputs) : s.engineSupply = s := by
  simp only [State.engineSupply, h]

theorem engineSupply_not_serving {s : State} (h : s.engine.service = .idle ∨ s.engine.service = .held) :
    s.engineSupply = s.afterJob := by
  rcases h with h | h <;> simp only [State.engineSupply, h]

theorem placeJob_not_idle {s : State} (h : s.engine.service ≠ .idle) (job : Job) :
    s.placeJob job = s.setQueue (s.engine.queue ++ [job]) := by
  unfold State.placeJob
  dsimp only
  split
  · next hi => exact absurd hi h
  · rfl
  · rfl

theorem placeJob_idle {s : State} (h : s.engine.service = .idle) (hs : s.supply.state = .normal)
    (job : Job) : s.placeJob job = (s.setQueue (s.engine.queue ++ [job])).serveNext := by
  have hlow : ¬ (s.setQueue (s.engine.queue ++ [job])).supply.state = .low := by
    rw [show (s.setQueue (s.engine.queue ++ [job])).supply = s.supply from rfl, hs]; decide
  simp only [State.placeJob, State.service_setQueue, h, if_neg hlow]

/-- The state in which the head of the queue enters service: the job off the queue, and for an automatic one
the WAITING reversals admitted (R81, R110). -/
def State.headLeaves (s : State) (job : Job) (rest : List Job) : State :=
  if job.isAutomatic then (s.setQueue rest).admitWaiting else s.setQueue rest

theorem headLeaves_not_automatic {job : Job} (h : job.isAutomatic = false) (s : State)
    (rest : List Job) : s.headLeaves job rest = s.setQueue rest := by
  rw [State.headLeaves, h]; rfl

section
variable {s : State} {job : Job} {rest : List Job} (h : s.engine.queue = job :: rest)
include h

theorem serveNext_gathers {inputs : JobInputs} (hg : (s.headLeaves job rest).gather job = some inputs) :
    s.serveNext = (s.headLeaves job rest).setService (.serving job inputs) := by
  rw [State.headLeaves] at hg ⊢
  rw [serveNext_cons h]
  dsimp only
  rw [hg]

theorem serveNext_ends (hg : (s.headLeaves job rest).gather job = none) :
    s.serveNext = ((s.headLeaves job rest).endAtOnce job).serveNext := by
  rw [State.headLeaves] at hg ⊢
  rw [serveNext_cons h]
  dsimp only
  rw [hg]

end

/-- Admission leaves the service position alone (R81). -/
@[simp] theorem service_admitFrom (slots : List Slot) (s : State) :
    (State.admitFrom slots s).engine.service = s.engine.service := by
  induction slots generalizing s with
  | nil => rfl
  | cons slot rest ih =>
    unfold State.admitFrom
    split
    · exact ih s
    · split
      · exact ih s
      · split
        · next h => exact congrArg (·.service) (takeCounter_engine h)
        · exact ih _

@[simp] theorem service_headLeaves (s : State) (job : Job) (rest : List Job) :
    (s.headLeaves job rest).engine.service = s.engine.service := by
  rw [State.headLeaves]
  split
  · exact service_admitFrom ..
  · rfl

theorem headLeaves_frame (s : State) (job : Job) (rest : List Job) :
    s.headLeaves job rest =
      { s with
        table := (s.headLeaves job rest).table, keys := (s.headLeaves job rest).keys
        engine := (s.headLeaves job rest).engine, attention := (s.headLeaves job rest).attention } := by
  rw [State.headLeaves]
  split
  · exact admitFrom_frame ..
  · rfl

/-! ## What a job gathers (R82, R111) -/

section
variable {s : State} {r : Record} {card : CardBlock} {c : Commissioning} {b : Binding} {i : Fin 4}
  {m : KeyMaterial} {h : Handle} {g : Nat} (hr : s.current? h = some r) (hcard : r.card = some card)
  (hc : s.commission = some c) (hb : r.binding = some b) (hi : s.entryOf g = some i)
  (hm : (s.entry i).material = some m)
include hr hcard hc hb hi hm

theorem gatherWrap_eq (amount : Record → Nat) :
    s.gatherWrap h g amount =
      some
        { card := card, payment := r.payment, captureCounter := b.counter, amount := amount r
          chain := c.chain, store := c.store, currency := c.currency, key := m.key } := by
  have hkey : s.periodKey? g = some m.key := by
    simp only [State.periodKey?, hi, hm, Option.map_some]
  simp [State.gatherWrap, hr, hcard, hc, hb, hkey]

end

theorem gather_followUp_cardless {s : State} {h : Handle} {r : Record} (hr : s.current? h = some r)
    (hcard : r.card = none) (kind : FollowUpKind) (share : FollowUpShare) (index : Nat) (l : LaneId)
    (g k : Nat) : s.gather (.followUp kind share h index l g k) = none := by
  simp [State.gather, State.gatherWrap, hr, hcard]

theorem followUpAmount_eq {r : Record} {index : Nat} {e : FollowUp} (he : r.followUps[index]? = some e) :
    State.followUpAmount index r = e.amount := by
  simp only [State.followUpAmount, he]

/-! ## Admission (R81) -/

section
variable {s : State} {slot : Slot} {r : Record} {b : Binding} (hr : s.recordAt slot = some r)
  (hb : r.binding = some b) (rest : List Slot)
include hr hb

theorem admitFrom_taken {c : Nat} {s' : State}
    (htake : s.takeCounter b.generation r.lane 65536 = some (c, s')) :
    State.admitFrom (slot :: rest) s = (s'.admitOne slot r b.generation c).setWaiting rest := by
  simp only [State.admitFrom, hr, hb, Config.counterSpent, htake]

theorem admitFrom_spent (htake : s.takeCounter b.generation r.lane 65536 = none) :
    State.admitFrom (slot :: rest) s =
      State.admitFrom rest (s.modRecord slot fun r => r.failFollowUp r.waitingIndex .reversal) := by
  simp only [State.admitFrom, hr, hb, Config.counterSpent, htake]

end

/-! ## Expiries (R47, R51 to R53, R65, R66) -/

section
variable {s : State} {slot : Slot} {r : Record} (hr : s.recordAt slot = some r)
  {action : Option TimerAction} (ht : r.stateTimer = some { remaining := 0, action := action })
include ht

theorem stateTimerDue_of_zero : r.stateTimerDue = true := by
  simp [Record.stateTimerDue, ht]

theorem timerAction_of_zero : r.timerAction = action := by
  simp [Record.timerAction, ht]

include hr

theorem presentExpiry_due (hst : r.state = .armed) :
    presentExpiry slot s =
      (s.withRecordAt slot
        { r with
          state := .cancelled, endReason := some .presentTimeout, stateTimer := none
          ended := true }).queueClose slot .timeout := by
  simp only [presentExpiry, hr, hst, stateTimerDue_of_zero ht, and_self, if_true, modRecord_eq hr]

theorem outcomeExpiry_lapses (hst : r.state = .released) (ha : action = some .lapse) :
    outcomeExpiry slot s =
      ((s.withRecordAt slot r.lapse).automaticReversal slot).queueClose slot .notCompleted := by
  simp only [outcomeExpiry, hr, hst, stateTimerDue_of_zero ht, timerAction_of_zero ht, ha, and_self,
    if_true, modRecord_eq hr]

theorem outcomeExpiry_notifies (hst : r.state = .released) (ha : action = some .notify) :
    outcomeExpiry slot s = s.withRecordAt slot r.expireNotify := by
  have hno : ¬ (some TimerAction.notify = some .lapse) := by decide
  simp only [outcomeExpiry, hr, hst, stateTimerDue_of_zero ht, timerAction_of_zero ht, ha, and_self,
    if_true, if_neg hno, modRecord_eq hr]

theorem deferredExpiry_lapses (hst : r.state = .deferred) (ha : action = some .lapse) :
    deferredExpiry slot s =
      ((s.leaveAccount r.lane r.current).withRecordAt slot r.lapse).automaticReversal slot := by
  have hleft : (s.leaveAccount r.lane r.current).recordAt slot = some r := hr
  simp only [deferredExpiry, hr, hst, stateTimerDue_of_zero ht, timerAction_of_zero ht, ha, and_self,
    if_true, modRecord_eq hleft]

theorem deferredExpiry_notifies (hst : r.state = .deferred) (ha : action = some .notify) :
    deferredExpiry slot s = s.withRecordAt slot r.expireNotify := by
  have hno : ¬ (some TimerAction.notify = some .lapse) := by decide
  simp only [deferredExpiry, hr, hst, stateTimerDue_of_zero ht, timerAction_of_zero ht, ha, and_self,
    if_true, if_neg hno, modRecord_eq hr]

end

theorem deliveryExpiry_due {s : State} {slot : Slot} {r : Record} (hr : s.recordAt slot = some r)
    (hv : r.delivery.value = .sent) (ht : r.deliveryTimer = some 0) :
    deliveryExpiry slot s =
      (s.withRecordAt slot r.deliveryLost).modBook r.lane fun b =>
        { b with engaged := none, expired := r.delivery.sequence } := by
  simp only [deliveryExpiry, hr, hv, ht, and_self, if_true, modRecord_eq hr]

/-! ## The automatic REVERSAL of a lapse (R80) -/

/-- The entry an automatic REVERSAL adds to a record (R72, R80). -/
def Record.withReversal (r : Record) (counter : Option Nat) (status : FollowUpStatus) : Record :=
  { r with followUps := r.followUps ++
      [{ kind := .reversal, amount := r.current, counter := counter, status := status, payload := none }] }

section
variable {s : State} {slot : Slot} {r : Record} (hr : s.recordAt slot = some r)
include hr

theorem failReversal_eq :
    s.failReversal slot r =
      s.withRecordAt slot ({ r with late := true, card := none }.withReversal none .failed) :=
  modRecord_eq hr _

theorem automaticReversal_cardless (hcard : r.card = none) :
    s.automaticReversal slot =
      s.withRecordAt slot ({ r with late := true, card := none }.withReversal none .failed) := by
  simp only [State.automaticReversal, hr, hcard, if_true, failReversal_eq hr]

variable {b : Binding} (hcard : r.card ≠ none) (hb : r.binding = some b)
include hcard hb

theorem automaticReversal_spent (htake : s.takeCounter b.generation r.lane 65536 = none) :
    s.automaticReversal slot =
      s.withRecordAt slot ({ r with late := true, card := none }.withReversal none .failed) := by
  simp only [State.automaticReversal, hr, if_neg hcard, followUpCounter_eq hb, htake, failReversal_eq hr]

variable {c : Nat} {s' : State} (htake : s.takeCounter b.generation r.lane 65536 = some (c, s'))
include htake

theorem automaticReversal_waits (hfull : 8 ≤ s.automaticCount) :
    s.automaticReversal slot = (s.withRecordAt slot (r.withReversal none .waiting)).wait slot := by
  simp only [State.automaticReversal, hr, if_neg hcard, followUpCounter_eq hb, htake, if_pos hfull,
    Config.automaticShare, modRecord_eq hr]
  rfl

theorem automaticReversal_placed (hroom : s.automaticCount < 8) :
    s.automaticReversal slot =
      (s'.withRecordAt slot (r.withReversal (some c) .wrapping)).placeJob
        (.followUp .reversal .automatic (s.handleOf slot) r.followUps.length r.lane b.generation c) := by
  have hat : s'.recordAt slot = some r := (takeCounter_recordAt htake slot).trans hr
  simp only [State.automaticReversal, hr, if_neg hcard, followUpCounter_eq hb, htake,
    if_neg (Nat.not_le.mpr hroom), Config.automaticShare, modRecord_eq hat, captureGeneration_eq hb]
  rfl

end

end Sys2Proof.Machine

/-! ## The obligations -/

namespace Sys2Proof.Proofs

open Sys2Proof.Machine

/-- Settles O37: placing and serving by the service position, what a job gathers, and admission. -/
theorem engineServesAndAdmitsInOrder : Obligations.EngineServesAndAdmitsInOrder := by
  unfold Obligations.EngineServesAndAdmitsInOrder
  refine ⟨⟨fun s job hv => placeJob_not_idle hv job,
      fun s job inputs hv hq hn hauto hg => ?placeIdle,
      fun s job inputs hp hv => exec_of_running hp rfl (engineSupply_serving hv),
      fun s hp hv hlow => ?supplyFalls, fun s hp hv hn hq => ?supplyEmpty,
      fun s job rest inputs hp hv hn hq hauto hg => ?supplyHead⟩,
    ⟨fun s job rest hp hv hn hq => ?heads, fun s hp hn => ?held, fun s hlow => afterJob_low hlow,
      fun s job hp hn hv => ?placed, fun s hp => ⟨_, rfl⟩⟩,
    ⟨fun s r card c b i m h l g k hr hcard hc hb hi hm => ?gathers,
      fun s c g block check hc => ?unwraps,
      fun s kind share h index l g k r hr hcard => ⟨gather_followUp_cardless hr hcard .., fun e he => ?ends⟩⟩,
    fun s slot rest r b hr hb => ?admits⟩
  case placeIdle =>
    have hqueue : (s.setQueue (s.engine.queue ++ [job])).engine.queue = [job] := by
      rw [State.queue_setQueue, hq]; rfl
    rw [placeJob_idle hv hn, serveNext_gathers (inputs := inputs) hqueue, headLeaves_not_automatic hauto]
    · rfl
    · rw [headLeaves_not_automatic hauto, gather_setQueue, gather_setQueue, hg]
  case supplyFalls =>
    exact exec_of_running hp rfl ((engineSupply_not_serving (.inl hv)).trans (afterJob_low hlow))
  case supplyEmpty =>
    refine exec_of_running hp rfl ?_
    rw [engineSupply_not_serving (.inr hv), afterJob_normal hn, serveNext_nil hq]
    simp only [State.setService, hq]
  case supplyHead =>
    refine exec_of_running hp rfl ?_
    rw [engineSupply_not_serving (.inr hv), afterJob_normal hn, serveNext_gathers (inputs := inputs) hq,
      headLeaves_not_automatic hauto]
    · rfl
    · rw [headLeaves_not_automatic hauto, gather_setQueue, hg]
  case heads =>
    intro left admitted
    have hserves : exec .engineSupplyChange s = .next s.serveNext :=
      exec_of_running hp rfl ((engineSupply_not_serving (.inr hv)).trans (afterJob_normal hn))
    have hadmitted : admitted = s.headLeaves job rest := rfl
    refine ⟨fun inputs hg => ?_, fun hg => ?_⟩
    · rw [hserves, serveNext_gathers hq hg]
      rfl
    · have hframe := (congrArg (·.endAtOnce job) hadmitted).trans
        ((endAtOnce_frame _ job).trans (by rw [headLeaves_frame]))
      have hengine : (admitted.endAtOnce job).engine.service = .held := by
        rw [endAtOnce_engine, hadmitted, service_headLeaves, hv]
      have hphase : (admitted.endAtOnce job).phase = .running := by
        rw [endAtOnce_frame, hadmitted, headLeaves_frame]; exact hp
      have hsupply : (admitted.endAtOnce job).supply.state = .normal := by
        rw [endAtOnce_frame, hadmitted, headLeaves_frame]; exact hn
      rw [hserves, serveNext_ends hq hg, ← hadmitted]
      exact (exec_of_running hphase rfl ((engineSupply_not_serving (.inr hengine)).trans
        (afterJob_normal hsupply))).symm
  case held =>
    refine exec_of_running (s := s.setService .held) hp rfl ?_
    rw [engineSupply_not_serving (.inr rfl), afterJob_normal (s := s.setService .held) hn,
      serveNext_setService, afterJob_normal hn]
  case placed =>
    let queued := s.setQueue (s.engine.queue ++ [job])
    refine exec_of_running (s := queued.setService .held) hp rfl ?_
    rw [engineSupply_not_serving (.inr rfl), afterJob_normal (s := queued.setService .held) hn,
      serveNext_setService, placeJob_idle hv hn]
  case gathers =>
    have hwrap := gatherWrap_eq hr hcard hc hb hi hm
    refine ⟨?_, fun kind share index e he => ?_⟩
    · rw [State.gather, hwrap]; rfl
    · rw [State.gather, hwrap, followUpAmount_eq he]; rfl
  case unwraps =>
    rw [State.gather, hc]; rfl
  case ends =>
    have hkept : (if kind = .reversal then none else r.card) = r.card := by rw [hcard]; split <;> rfl
    rw [State.endAtOnce, modRecord_eq (State.recordAt_of_current hr), Record.failFollowUp,
      modFollowUp_eq he]
    simp only [hkept]
  case admits =>
    intro i e he
    refine ⟨fun c s' htake => ?_, fun htake => ?_⟩
    · intro admitted
      have hat : s'.recordAt slot = some r := (takeCounter_recordAt htake slot).trans hr
      have hengine : s'.engine = s.engine := takeCounter_engine htake
      have hhandle : s'.handleOf slot = s.handleOf slot := takeCounter_handleOf htake slot
      have hmod : (s'.modRecord slot fun r => r.modFollowUp i fun e =>
          { e with status := .wrapping, counter := some c }) = admitted := by
        rw [modRecord_eq hat, modFollowUp_eq he]
      rw [admitFrom_taken hr hb rest htake, State.admitOne]
      change (State.setQueue (s'.modRecord slot _) _).setWaiting rest = _
      rw [show r.waitingIndex = i from rfl, hmod]
      have hq : admitted.engine = s.engine := hengine
      have hh : admitted.handleOf slot = s.handleOf slot :=
        (congrArg (handleAt · slot) (tag_withRecordAt ..)).trans hhandle
      simp only [State.setQueue, State.setWaiting, hq, hh]
    · rw [admitFrom_spent hr hb rest htake, modRecord_eq hr, Record.failFollowUp,
        show r.waitingIndex = i from rfl, modFollowUp_eq he]
      rfl

/-- Settles O38: the tick, and each expiry by its record's state and timer. -/
theorem tickAndExpiriesActOnTheirRecords : Obligations.TickAndExpiriesActOnTheirRecords := by
  unfold Obligations.TickAndExpiriesActOnTheirRecords
  refine ⟨fun s hp => ⟨s.mapRecords Record.tick, exec_of_running hp rfl rfl, rfl, fun slot =>
    ⟨State.tag_mapRecords .., State.recordAt_mapRecords ..⟩⟩, fun s slot r hp hr => ?_⟩
  intro lowered account lapsed late
  refine ⟨fun action hst ht => exec_of_running hp rfl (presentExpiry_due hr ht hst),
    fun hst ht => exec_of_running hp rfl (outcomeExpiry_notifies hr ht hst rfl),
    fun hst ht => exec_of_running hp rfl (outcomeExpiry_lapses hr ht hst rfl),
    fun hst ht => exec_of_running hp rfl (deferredExpiry_notifies hr ht hst rfl),
    fun hst ht => exec_of_running hp rfl (deferredExpiry_lapses hr ht hst rfl),
    fun kind sequence hd ht => ?delivery⟩
  case delivery =>
    refine exec_of_running hp rfl ?_
    rw [deliveryExpiry_due hr (congrArg (·.value) hd) ht, Record.deliveryLost, hd]

/-- Settles O39: the automatic REVERSAL by the card block, the counter and the automatic share. -/
theorem lapsesAddTheirReversal : Obligations.LapsesAddTheirReversal := by
  unfold Obligations.LapsesAddTheirReversal
  intro s slot r hr withEntry failed
  refine ⟨automaticReversal_cardless hr, fun b hcard hb => ⟨automaticReversal_spent hr hcard hb,
    fun c s' htake => ⟨fun hfull => ?waits, automaticReversal_placed hr hcard hb htake⟩⟩⟩
  case waits =>
    let waiting := s.withRecordAt slot (r.withReversal none .waiting)
    refine ⟨waiting.wait slot, automaticReversal_waits hr hcard hb htake hfull,
      recordAt_withRecordAt_self .., fun x hx => ?_, fun x => mem_insertBy .., rfl⟩
    exact (State.cell_setCell ..).trans (if_neg hx)

end Sys2Proof.Proofs
end


section
/-! PROOFS. The store port (Chapter 11): responses and read transactions, the judging of request frames, and
what the port refuses and discards. -/

namespace Sys2Proof.Machine

/-! ## Read transactions (R172, R181) -/

theorem sdoBytes_short {frame : List Byte} {n : Nat} (h : n < frame.length) :
    sdoBytes frame n = frame.take n := by
  simp [sdoBytes, Nat.sub_eq_zero_of_le h.le]

theorem sdoBytes_whole {frame : List Byte} {n : Nat} (h : frame.length ≤ n) :
    sdoBytes frame n = frame ++ List.replicate (n - frame.length) 0xFF := by
  rw [sdoBytes, List.take_of_length_le h]; rfl

theorem exec_readTransaction {s t : State} {n : Nat} (h : readTransaction n s = t) :
    exec (.readTransaction n) s = .next t := by
  rw [← h]; rfl

theorem readTransaction_not_answering {s : State} (h : ∀ r, s.port.state ≠ .answering r) (n : Nat) :
    readTransaction n s = { s with port := { s.port with sdo := List.replicate n 0xFF } } := by
  unfold readTransaction
  rw [sdoRead_not_answering h]
  dsimp only
  split
  · rfl
  · rfl
  · next r hr => exact absurd hr (h r)

section
variable {s : State} {r : Response} {n : Nat} (hp : s.phase = .running)
  (hr : s.port.state = .answering r)
include hp hr

theorem readTransaction_part (h : n < r.frame.length) :
    readTransaction n s = { s with port := { s.port with sdo := r.frame.take n } } := by
  have hno : ¬ (s.phase = .running ∧ r.frame.length ≤ n) := fun hboth => Nat.not_le.mpr h hboth.2
  simp only [readTransaction, hr, if_neg hno, sdoRead_answering hp hr, sdoBytes_short h]

theorem readTransaction_whole (h : r.frame.length ≤ n) (hkind : r.kind = 33 → r.status ≠ .done) :
    readTransaction n s =
      { s with port :=
        { s.port with
          state := .idle, sdo := r.frame ++ List.replicate (n - r.frame.length) 0xFF } } := by
  have hno : ¬ (r.kind = Config.restartKind ∧ r.status = .done) := fun hboth => hkind hboth.1 hboth.2
  simp only [readTransaction, hr, hp, h, and_self, if_true, if_neg hno, sdoRead_answering hp hr,
    sdoBytes_whole h]

/-- A RESTART response read in full brings a start (R181). -/
theorem readTransaction_restart (h : r.frame.length ≤ n) (hkind : r.kind = 33) (hst : r.status = .done) :
    readTransaction n s =
      { s with port := { s.port with sdo := sdoBytes r.frame n } }.startValues .running .request := by
  have hyes : r.kind = Config.restartKind ∧ r.status = .done := ⟨hkind, hst⟩
  simp only [readTransaction, hr, hp, h, and_self, if_true, if_pos hyes, sdoRead_answering hp hr]
  rfl

end

theorem frame_eq (r : Response) :
    r.frame =
      0xC3 :: ([r.kind, r.tag, BitVec.ofNat 8 r.status.code, r.flags.byte] ++ bytesOf 2 r.body.length ++
        r.body ++ checkBytes ([r.kind, r.tag, BitVec.ofNat 8 r.status.code, r.flags.byte] ++
          bytesOf 2 r.body.length ++ r.body)) := by
  have hchecked : r.checked =
      [r.kind, r.tag, BitVec.ofNat 8 r.status.code, r.flags.byte] ++ bytesOf 2 r.body.length ++
        r.body := by
    simp [Response.checked, u8, u16, bytesOf]
  rw [Response.frame, hchecked]
  rfl

/-- The flags byte holds its three indications and zeros above (R184). -/
theorem flagsByte_bits (f : ResponseFlags) :
    f.byte.getLsbD 0 = f.discarded ∧ f.byte.getLsbD 1 = f.attention ∧
      f.byte.getLsbD 2 = f.startUnread ∧ ∀ i, 3 ≤ i → f.byte.getLsbD i = false := by
  obtain ⟨discarded, attention, startUnread⟩ := f
  have hlow : ∀ d a u : Bool, let b := ResponseFlags.byte ⟨d, a, u⟩
      b.getLsbD 0 = d ∧ b.getLsbD 1 = a ∧ b.getLsbD 2 = u ∧
        ∀ i : Fin 8, 3 ≤ i.val → b.getLsbD i.val = false := by decide
  obtain ⟨hd, ha, hu, habove⟩ := hlow discarded attention startUnread
  refine ⟨hd, ha, hu, fun i hi => ?_⟩
  rcases Nat.lt_or_ge i 8 with h | h
  · exact habove ⟨i, h⟩ hi
  · exact BitVec.getLsbD_of_ge _ _ h

theorem readTransaction_not_running {s : State} (hp : s.phase ≠ .running) (n : Nat) :
    readTransaction n s = { s with port := { s.port with sdo := List.replicate n 0xFF } } := by
  unfold readTransaction
  rw [sdoRead_not_running hp]
  dsimp only
  split
  · rfl
  · rfl
  · exact if_neg fun hboth => hp hboth.1

/-! ## What SDI brings (R170) -/

theorem portTransaction_request (frame : List Byte) (s : State) :
    portTransaction (0xA5 :: frame) s = requestTransaction frame s := by
  rw [portTransaction]
  exact if_pos rfl

theorem portTransaction_ignored {first : Byte} (hrequest : first ≠ 0xA5) (hread : first ≠ 0x5A)
    (rest : List Byte) (s : State) : portTransaction (first :: rest) s = s :=
  (if_neg hrequest).trans (if_neg hread)

/-! ## Judging a frame (R170) -/

/-- A frame is whole and its check matches (R170). -/
def frameSound (kind tag a b : Byte) (rest : List Byte) : Prop :=
  let length := a.toNat * 256 + b.toNat
  (length ≤ 512 ∧ length + 2 ≤ rest.length) ∧
    (rest.drop length).take 2 = checkBytes ((kind :: tag :: a :: b :: rest).take (length + 4))

theorem bodyNumber_length (kind tag a b : Byte) (rest : List Byte) :
    bodyNumber (kind :: tag :: a :: b :: rest) 2 2 = a.toNat * 256 + b.toNat := by
  simp [bodyNumber, numberOf]

/-- The judgement of a sound frame, by its kind and its body (R170). -/
def judgeBody (kind tag : Byte) (length : Nat) (body : List Byte) : Verdict :=
  match requestLength kind with
  | none => .unknownRequest kind tag
  | some n =>
    if length = n then
      match requestOf kind tag body with
      | some i => .passed i
      | none => .unknownRequest kind tag
    else .malformed kind tag

section
variable {kind tag a b : Byte} {rest : List Byte}

theorem judgeFrame_unsound (h : ¬ frameSound kind tag a b rest) :
    judgeFrame (kind :: tag :: a :: b :: rest) = .malformed kind tag := by
  rw [frameSound] at h
  rw [judgeFrame, bodyNumber_length]
  simp only [List.drop_succ_cons, bodyByte, List.getD_cons_zero, List.getD_cons_succ, List.length_cons,
    Config.requestBodyMax]
  split
  · rfl
  · next hwhole =>
    rw [not_or, Nat.not_lt, Nat.not_lt] at hwhole
    exact if_pos fun hcheck => h ⟨⟨hwhole.1, by omega⟩, hcheck⟩

variable (h : frameSound kind tag a b rest)
include h

theorem judgeFrame_sound :
    judgeFrame (kind :: tag :: a :: b :: rest) =
      judgeBody kind tag (a.toNat * 256 + b.toNat) (rest.take (a.toNat * 256 + b.toNat)) := by
  obtain ⟨⟨hmax, hend⟩, hcheck⟩ := h
  have hwhole : ¬ (512 < a.toNat * 256 + b.toNat ∨
      rest.length + 1 + 1 + 1 + 1 < a.toNat * 256 + b.toNat + 6) := by omega
  rw [judgeFrame, bodyNumber_length]
  simp only [List.drop_succ_cons, bodyByte, List.getD_cons_zero, List.getD_cons_succ, List.length_cons,
    Config.requestBodyMax, if_neg hwhole, hcheck, ne_eq, not_true_eq_false, if_false, List.take_succ_cons,
    List.drop_zero]
  rfl

theorem judgeFrame_unknown (hkind : requestLength kind = none) :
    judgeFrame (kind :: tag :: a :: b :: rest) = .unknownRequest kind tag := by
  simp only [judgeFrame_sound h, judgeBody, hkind]

theorem judgeFrame_wrong_length {n : Nat} (hkind : requestLength kind = some n)
    (hn : a.toNat * 256 + b.toNat ≠ n) :
    judgeFrame (kind :: tag :: a :: b :: rest) = .malformed kind tag := by
  simp only [judgeFrame_sound h, judgeBody, hkind, if_neg hn]

theorem judgeFrame_passed {i : Instr} (hkind : requestLength kind = some (a.toNat * 256 + b.toNat))
    (hi : requestOf kind tag (rest.take (a.toNat * 256 + b.toNat)) = some i) :
    judgeFrame (kind :: tag :: a :: b :: rest) = .passed i := by
  simp only [judgeFrame_sound h, judgeBody, hkind, if_true, hi]

end

/-! ## A request transaction is one request taken (R170, R171) -/

theorem handOver_of_handler {i : Instr} {kind tag : Byte} {body : List Byte} {f : State → Reply}
    (hparts : requestParts i = some (kind, tag, body)) (hf : handlerOf i = some f) (s : State) :
    handOver i s = takeRequest kind tag f s := by
  simp only [handOver, hparts, hf]

/-- What a body spells is a request with a handler. -/
theorem handlerOf_of_requestOf {kind tag : Byte} {body : List Byte} {i : Instr}
    (h : requestOf kind tag body = some i) : ∃ f, handlerOf i = some f := by
  unfold requestOf at h
  split at h <;> cases h <;> exact ⟨_, rfl⟩

theorem requestOf_of_passed {frame : List Byte} {i : Instr} (h : judgeFrame frame = .passed i) :
    ∃ kind tag body, requestOf kind tag body = some i := by
  unfold judgeFrame at h
  dsimp only at h
  split at h
  · cases h
  · split at h
    · cases h
    · split at h
      · cases h
      · split at h
        · split at h
          · next hi => cases h; exact ⟨_, _, _, hi⟩
          · cases h
        · cases h

theorem requestTransaction_takes (frame : List Byte) :
    ∃ kind tag f, ∀ s, requestTransaction frame s = takeRequest kind tag f s := by
  cases hj : judgeFrame frame with
  | malformed kind tag => exact ⟨kind, tag, fun s => refuse s .malformed, fun s => by simp only [requestTransaction, hj]⟩
  | unknownRequest kind tag =>
    exact ⟨kind, tag, fun s => refuse s .unknownRequest, fun s => by simp only [requestTransaction, hj]⟩
  | passed i =>
    obtain ⟨_, _, _, hi⟩ := requestOf_of_passed hj
    obtain ⟨f, hf⟩ := handlerOf_of_requestOf hi
    obtain ⟨kind, tag, body, hparts⟩ := requestParts_of_handlerOf hf
    exact ⟨kind, tag, f, fun s => by
      simp only [requestTransaction, hj, handOver_of_handler hparts hf]⟩

/-- An event inside a part that does not run finds nothing (R180). -/
theorem exec_of_not_running {i : Instr} {s : State} {f : State → State} (hp : s.phase ≠ .running)
    (hexec : exec i s = .next (whenRunning f s)) : exec i s = .next s := by
  rw [hexec, whenRunning_of_not_running hp]

theorem exec_request_not_running {i : Instr} {s : State} {f : State → Reply} (hp : s.phase ≠ .running)
    (hf : handlerOf i = some f) : exec i s = .next s := by
  obtain ⟨kind, tag, body, hparts⟩ := requestParts_of_handlerOf hf
  rw [exec_request hparts hf, takeRequest_of_not_running hp]

end Sys2Proof.Machine

/-! ## The obligations -/

namespace Sys2Proof.Proofs

open Sys2Proof.Machine

/-- Settles O7: responses, read transactions, RESTART, and the bytes of numbers and codes. -/
theorem portAnswersAndIsRead : Obligations.PortAnswersAndIsRead := by
  unfold Obligations.PortAnswersAndIsRead
  refine ⟨fun s kind tag status body => rfl,
    ⟨fun s n _ hr => exec_readTransaction (readTransaction_not_answering hr n),
      fun s r n hp hr h => exec_readTransaction (readTransaction_part hp hr h),
      fun s r n hp hr h hkind => exec_readTransaction (readTransaction_whole hp hr h hkind), frame_eq⟩,
    ⟨fun s tag hs => exec_of_handler_answers rfl rfl hs rfl,
      fun s r n hp hr hkind hst h => ⟨_, exec_readTransaction (readTransaction_restart hp hr h hkind hst),
        rfl, rfl, rfl⟩⟩,
    flagsByte_bits, by decide, fun x => ⟨rfl, fun n => rfl⟩⟩

/-- Settles O8: the port's judgement, the lengths of the kinds, and what a busy or stopped part takes. -/
theorem portRefusesAndDiscards : Obligations.PortRefusesAndDiscards := by
  unfold Obligations.PortRefusesAndDiscards
  refine ⟨fun s frame kind tag hs hj => ?malformed, fun s frame kind tag hs hj => ?unknown,
    fun kind tag a b rest => ?judged, rfl, fun kind => rfl, fun kind tag rest hrest => ?short,
    by decide, fun kind hkind => ?kinds, fun i => ?frames, fun s => ⟨rfl, rfl, fun first rest ha hb => ?ignored⟩,
    fun s hp => ?stopped, fun i f s hf hp hbusy => ?busy, fun frame s hp hbusy => ?discarded⟩
  case malformed =>
    have htaken : requestTransaction frame s = s.respond kind tag .malformed [] := by
      simp only [requestTransaction, hj, takeRequest_of_accepts hs, refuse, finish_answer]
    exact congrArg _ ((portTransaction_request frame s).trans htaken)
  case unknown =>
    have htaken : requestTransaction frame s = s.respond kind tag .unknownRequest [] := by
      simp only [requestTransaction, hj, takeRequest_of_accepts hs, refuse, finish_answer]
    exact congrArg _ ((portTransaction_request frame s).trans htaken)
  case judged =>
    exact ⟨judgeFrame_unsound, judgeFrame_unknown,
      fun hsound ⟨n, hn, hne⟩ => judgeFrame_wrong_length hsound hn hne⟩
  case short =>
    exact judgeFrame_of_short (by simp only [List.length_cons]; omega)
  case kinds =>
    revert hkind
    revert kind
    decide
  case frames => cases i <;> rfl
  case ignored =>
    exact ⟨congrArg _ (portTransaction_ignored ha hb rest s),
      congrArg _ (portTransaction_ignored ha hb rest s)⟩
  case stopped =>
    refine ⟨fun i f hf => exec_request_not_running hp hf, fun rest => ?_,
      fun n => exec_readTransaction (readTransaction_not_running hp n), fun i hi => ?_,
      fun slot i hi => ?_, fun l byte stopAtMark i hi => ?_⟩
    · obtain ⟨kind, tag, f, htaken⟩ := requestTransaction_takes rest
      have hkept : portTransaction (0xA5 :: rest) s = s := by
        rw [portTransaction_request, htaken, takeRequest_of_not_running hp]
      exact ⟨congrArg _ hkept, congrArg _ hkept⟩
    · simp only [List.mem_cons, List.not_mem_nil, or_false] at hi
      rcases hi with rfl | rfl | rfl | rfl | rfl | rfl <;> exact exec_of_not_running hp rfl
    · simp only [List.mem_cons, List.not_mem_nil, or_false] at hi
      rcases hi with rfl | rfl | rfl | rfl <;> exact exec_of_not_running hp rfl
    · simp only [List.mem_cons, List.not_mem_nil, or_false] at hi
      rcases hi with rfl | rfl | rfl | rfl | rfl | rfl | rfl | rfl | rfl | rfl | rfl | rfl | rfl <;>
        exact exec_of_not_running hp rfl
  case busy =>
    obtain ⟨kind, tag, body, hparts⟩ := requestParts_of_handlerOf hf
    rw [exec_request hparts hf, takeRequest_of_busy hp hbusy]
  case discarded =>
    obtain ⟨kind, tag, f, htaken⟩ := requestTransaction_takes frame
    have hmarked : portTransaction (0xA5 :: frame) s =
        { s with port := { s.port with discarded := true } } := by
      rw [portTransaction_request, htaken, takeRequest_of_busy hp hbusy]
    exact congrArg _ hmarked

end Sys2Proof.Proofs
end


section
/-! PROOFS. Request frames (R170, R183, R184): every request is read back from its frame. -/

namespace Sys2Proof.Machine

/-! ## Bytes of numbers (R183) -/

@[simp] theorem length_bytesOf (n x : Nat) : (bytesOf n x).length = n := by
  induction n with
  | zero => rfl
  | succ n ih => rw [bytesOf, List.length_cons, ih]

/-- The bytes of a number read back, behind bytes already read (R183). -/
theorem foldl_bytesOf (n x acc : Nat) :
    (bytesOf n x).foldl (fun acc b => acc * 256 + b.toNat) acc = acc * 256 ^ n + x % 256 ^ n := by
  induction n generalizing acc with
  | zero => simp [bytesOf, Nat.mod_one]
  | succ n ih =>
    have hsplit : x % 256 ^ (n + 1) = x / 256 ^ n % 256 * 256 ^ n + x % 256 ^ n := by
      rw [pow_succ, Nat.mod_mul, Nat.add_comm, Nat.mul_comm]
    rw [bytesOf, List.foldl_cons, ih, BitVec.toNat_ofNat, hsplit]
    ring

theorem numberOf_bytesOf (n x : Nat) : numberOf (bytesOf n x) = x % 256 ^ n := by
  rw [numberOf, foldl_bytesOf]; simp

theorem drop_bytesOf {n i : Nat} (h : n ≤ i) (x : Nat) : (bytesOf n x).drop i = [] :=
  List.drop_of_length_le (by rw [length_bytesOf]; exact h)

theorem take_bytesOf {n i : Nat} (h : n ≤ i) (x : Nat) : (bytesOf n x).take i = bytesOf n x :=
  List.take_of_length_le (by rw [length_bytesOf]; exact h)

/-- A bit field of whole bytes is read back from its bytes. -/
theorem ofNat_numberOf {w n : Nat} (hw : 256 ^ n = 2 ^ w) (x : BitVec w) :
    BitVec.ofNat w (numberOf (bytesOf n x.toNat)) = x := by
  rw [numberOf_bytesOf, hw, Nat.mod_eq_of_lt x.isLt, BitVec.ofNat_toNat, BitVec.setWidth_eq]

theorem getElem_tabulate {α : Type} {n : Nat} (f : Fin n → α) (i : Nat) (h : i < n) :
    (tabulate f)[i] = f ⟨i, h⟩ := by
  simp [tabulate]

/-! ## Fields of equal size, one after another (R184) -/

theorem drop_flatMap {α : Type} {f : α → List Byte} {k : Nat} (hk : ∀ a, (f a).length = k) (l : List α)
    (i : Nat) (h : i < l.length) :
    (l.flatMap f).drop (k * i) = f l[i] ++ (l.drop (i + 1)).flatMap f := by
  induction l generalizing i with
  | nil => exact absurd h (Nat.not_lt_zero i)
  | cons a rest ih =>
    cases i with
    | zero => simp
    | succ i =>
      have hlen : k * (i + 1) = (f a).length + k * i := by rw [hk]; ring
      rw [List.flatMap_cons, hlen, ← List.drop_drop, List.drop_left, ih i (by simpa using h)]
      rfl

theorem getElem?_drop_zero (l : List Byte) (i j : Nat) : l.getD (i + j) 0 = (l.drop i).getD j 0 := by
  simp [List.getD_eq_getElem?_getD]

theorem length_limitsBody (fields : Vector OptWord 8) : (limitsBody fields).length = 40 := by
  simp [limitsBody, wide, List.length_flatMap, List.map_const']

theorem length_settingsBody (settings : Vector OptByte 16) : (settingsBody settings).length = 32 := by
  simp [settingsBody, List.length_flatMap, List.map_const']

theorem bodyLimits_limitsBody (fields : Vector OptWord 8) : bodyLimits (limitsBody fields) = fields := by
  apply Vector.ext
  intro i hi
  have hfield := drop_flatMap (f := fun o : OptWord => o.present :: wide 4 o.value) (k := 5)
    (fun o => by simp [wide]) fields.toList i (by simpa using hi)
  have hpresent : bodyByte (limitsBody fields) (5 * i) = fields[i].present := by
    rw [bodyByte, ← Nat.add_zero (5 * i), getElem?_drop_zero, limitsBody, hfield]
    simp
  have hvalue : bodyWord (limitsBody fields) (5 * i + 1) = fields[i].value := by
    have hdrop : (limitsBody fields).drop (5 * i + 1) =
        wide 4 fields[i].value ++
          (fields.toList.drop (i + 1)).flatMap fun o => o.present :: wide 4 o.value := by
      rw [← List.drop_drop, limitsBody, hfield]
      simp
    rw [bodyWord, bodyNumber, hdrop, List.take_append, wide, length_bytesOf, take_bytesOf le_rfl,
      Nat.sub_self, List.take_zero, List.append_nil]
    exact ofNat_numberOf rfl _
  rw [bodyLimits, getElem_tabulate, hpresent, hvalue]

theorem bodySettings_settingsBody (lane : Byte) (settings : Vector OptByte 16) :
    bodySettings (lane :: settingsBody settings) = settings := by
  apply Vector.ext
  intro i hi
  have hfield := drop_flatMap (f := fun o : OptByte => [o.present, o.value]) (k := 2)
    (fun o => rfl) settings.toList i (by simpa using hi)
  have hdrop : (lane :: settingsBody settings).drop (2 * i + 1) =
      [settings[i].present, settings[i].value] ++
        (settings.toList.drop (i + 1)).flatMap fun o => [o.present, o.value] := by
    rw [List.drop_succ_cons, settingsBody, hfield]
    simp
  have hpresent : bodyByte (lane :: settingsBody settings) (2 * i + 1) = settings[i].present := by
    rw [bodyByte, ← Nat.add_zero (2 * i + 1), getElem?_drop_zero, hdrop]
    simp
  have hvalue : bodyByte (lane :: settingsBody settings) (2 * i + 2) = settings[i].value := by
    rw [bodyByte, show 2 * i + 2 = (2 * i + 1) + 1 from rfl, getElem?_drop_zero, hdrop]
    simp
  rw [bodySettings, getElem_tabulate, hpresent, hvalue]

/-! ## A request is read back from its parts (Table 12-1) -/

/-- The kind, the tag and the body of a request spell it, and the body has the kind's length. -/
theorem requestOf_of_requestParts {i : Instr} {kind tag : Byte} {body : List Byte}
    (h : requestParts i = some (kind, tag, body)) :
    requestLength kind = some body.length ∧ requestOf kind tag body = some i := by
  have half := fun x : Half => ofNat_numberOf (n := 2) (by norm_num) x
  have word := fun x : Word => ofNat_numberOf (n := 4) (by norm_num) x
  have code := fun x : Code6 => ofNat_numberOf (n := 6) (by norm_num) x
  have check := fun x : BitVec 64 => ofNat_numberOf (n := 8) (by norm_num) x
  have block := fun x : Block => ofNat_numberOf (n := 16) (by norm_num) x
  -- Table 12-1, a row for each request: the fields of the row are read where its body puts them.
  cases i <;> cases h <;>
    simp [requestLength, requestOf, wide, bodyByte, bodyHalf, bodyWord, bodyCode, bodyBlock, bodyNumber,
      List.drop_append, drop_bytesOf, take_bytesOf, half, word, code, check, block, length_limitsBody, length_settingsBody, bodyLimits_limitsBody,
      bodySettings_settingsBody]

theorem requestLength_le {kind : Byte} {n : Nat} (h : requestLength kind = some n) : n ≤ 40 := by
  unfold requestLength at h
  split at h <;> cases h <;> decide

/-- The two length bytes of a body short enough for a frame (R184). -/
theorem length_bytes {n : Nat} (h : n ≤ 40) :
    (BitVec.ofNat 8 (n / 256 ^ 1)).toNat * 256 + (BitVec.ofNat 8 (n / 256 ^ 0)).toNat = n := by
  simp only [BitVec.toNat_ofNat]
  omega

theorem length_checkBytes (bytes : List Byte) : (checkBytes bytes).length = 2 := length_bytesOf ..

/-- The frame of a request, behind its start byte, is judged to be that request (R170, R184). -/
theorem judgeFrame_of_requestParts {i : Instr} {kind tag : Byte} {body : List Byte}
    (h : requestParts i = some (kind, tag, body)) :
    judgeFrame (requestChecked kind tag body ++ checkBytes (requestChecked kind tag body)) =
      .passed i := by
  obtain ⟨hlength, hrequest⟩ := requestOf_of_requestParts h
  have hshort := requestLength_le hlength
  have hn := length_bytes hshort
  have hchecked : requestChecked kind tag body =
      kind :: tag :: BitVec.ofNat 8 (body.length / 256 ^ 1) :: BitVec.ofNat 8 (body.length / 256 ^ 0) ::
        body := by
    simp [requestChecked, bytesOf]
  have hbody : (body ++ checkBytes (requestChecked kind tag body)).take body.length = body := by simp
  rw [hchecked, List.cons_append, List.cons_append, List.cons_append, List.cons_append, ← hchecked]
  refine judgeFrame_passed ?_ (by rw [hn]; exact hlength) (by rw [hn, hbody]; exact hrequest)
  rw [frameSound, hn]
  refine ⟨⟨by omega, by rw [List.length_append, length_checkBytes]⟩, ?_⟩
  simp only [List.take_succ_cons, hbody, List.drop_left, ← hchecked]
  exact List.take_of_length_le (length_checkBytes _).le

theorem requestFrame_eq_some {i : Instr} {frame : List Byte} (h : requestFrame i = some frame) :
    ∃ kind tag body, requestParts i = some (kind, tag, body) ∧
      frame = 0xA5 :: (requestChecked kind tag body ++ checkBytes (requestChecked kind tag body)) := by
  unfold requestFrame at h
  split at h
  · next kind tag body hparts => cases h; exact ⟨kind, tag, body, hparts, rfl⟩
  · cases h

theorem handlerOf_of_requestParts {i : Instr} {kind tag : Byte} {body : List Byte}
    (h : requestParts i = some (kind, tag, body)) : ∃ f, handlerOf i = some f :=
  handlerOf_of_requestOf (requestOf_of_requestParts h).2

/-- The frame of a request does on the bus what the request does (R170). -/
theorem portTransaction_requestFrame {i : Instr} {frame : List Byte} (h : requestFrame i = some frame)
    (s : State) : exec i s = .next (portTransaction frame s) := by
  obtain ⟨kind, tag, body, hparts, rfl⟩ := requestFrame_eq_some h
  obtain ⟨f, hf⟩ := handlerOf_of_requestParts hparts
  rw [exec_request hparts hf, portTransaction_request]
  simp only [requestTransaction, judgeFrame_of_requestParts hparts, handOver_of_handler hparts hf]

theorem limitsBody_eq (fields : Vector OptWord 8) :
    limitsBody fields =
      (List.finRange 8).flatMap fun i =>
        (look fields i).present :: bytesOf 4 (look fields i).value.toNat := by
  rw [limitsBody, toList_eq_map_look, List.flatMap_map]
  rfl

theorem settingsBody_eq (fields : Vector OptByte 16) :
    settingsBody fields =
      (List.finRange 16).flatMap fun i => [(look fields i).present, (look fields i).value] := by
  rw [settingsBody, toList_eq_map_look, List.flatMap_map]

end Sys2Proof.Machine

/-! ## The obligations -/

namespace Sys2Proof.Proofs

open Sys2Proof.Machine

/-- Settles O6: every request is read back from its frame, and the body of each is its fields in order. -/
theorem requestFramesDecodeToTheirRequests : Obligations.RequestFramesDecodeToTheirRequests := by
  unfold Obligations.RequestFramesDecodeToTheirRequests
  refine ⟨fun i frame h => ?decodes, ?bodies⟩
  case decodes =>
    obtain ⟨kind, tag, body, hparts, hframe⟩ := requestFrame_eq_some h
    refine ⟨by rw [hframe]; rfl, by rw [hframe]; exact judgeFrame_of_requestParts hparts, fun s => ?_⟩
    rw [portTransaction_requestFrame h]
    exact ⟨rfl, rfl⟩
  case bodies =>
    intro framed
    refine ⟨fun tag h => ?handles, fun tag lane => ?lanes, fun tag => ?others⟩
    case handles =>
      exact ⟨rfl, rfl, rfl, rfl, rfl, rfl, rfl, fun _ _ _ => rfl, fun _ _ => rfl, fun _ => rfl,
        fun _ => rfl⟩
    case lanes =>
      refine ⟨rfl, rfl, rfl, rfl, fun _ _ => rfl, fun _ _ _ => rfl, fun _ => rfl, fun _ => rfl,
        fun fields => ?_⟩
      dsimp only [framed]
      rw [← settingsBody_eq]
      rfl
    case others =>
      refine ⟨rfl, rfl, rfl, rfl, rfl, rfl, rfl, fun fields => ?_, fun _ _ _ _ _ _ => rfl,
        fun _ _ _ => rfl, fun _ => rfl, fun _ _ => rfl, fun _ _ _ _ _ _ _ _ => rfl⟩
      dsimp only [framed]
      rw [← limitsBody_eq]
      rfl

end Sys2Proof.Proofs
end


section
/-! PROOFS. The reading requests (Chapters 1, 3, 5 and 7) and the layout of the payloads (Chapter 6). -/

namespace Sys2Proof.Machine

/-! ## FIND (R23) -/

theorem slotsWhere_eq (s : State) (slots : List Slot) (test : Record → Bool) :
    s.slotsWhere slots test = slots.filter fun x => (s.recordAt x).any test := by
  refine List.filter_congr fun x _ => ?_
  cases s.recordAt x <;> rfl

theorem find_lane {lane : Byte} {l : LaneId} (hl : laneOf lane = some l) {payment : Half}
    (hp : payment ≠ 0) (till : Word) (s : State) :
    find 1 lane payment till s =
      found s ((s.book l).list.filter fun x =>
        (s.recordAt x).any fun r => r.payment = payment.toNat) := by
  simp only [find, if_true, hl, if_neg hp, slotsWhere_eq]

theorem find_till (lane : Byte) (payment : Half) (till : Word) (s : State) :
    find 2 lane payment till s =
      found s ((List.finRange 2048).filter fun x => (s.recordAt x).any fun r => r.till = till) := by
  have htwo : ¬ (2 : Byte) = 1 := by decide
  simp only [find, if_neg htwo, if_true, slotsWhere_eq]

theorem found_cons (s : State) (slot : Slot) (rest : List Slot) :
    found s (slot :: rest) =
      .answer s .done (bytesOf 2 (s.handleOf slot).toNat ++ bytesOf 2 (rest.length + 1)) := rfl

/-! ## Items of a response (R183) -/

/-- An item that may be absent, by the bytes it has when it is present (R183). -/
def itemBytes (size : Nat) : Option (List Byte) → List Byte
  | some bytes => 1 :: bytes
  | none => 0 :: List.replicate size 0

theorem optional_eq_itemBytes {α : Type} (size : Nat) (encode : α → List Byte) (o : Option α) :
    Machine.optional size encode o = itemBytes size (o.map encode) := by
  cases o <;> rfl

/-- The seconds of a timer (R49). -/
def secondsBytes : Option Nat → List Byte
  | some (k + 1) => 1 :: bytesOf 4 (k + 1)
  | some 0 => [0, 0, 0, 0, 0]
  | none => [0, 0, 0, 0, 0]

theorem timerBytes_eq_secondsBytes (o : Option Nat) : timerBytes o = secondsBytes o := by
  rcases o with _ | _ | n <;> rfl

/-! ## The answers and the refusals of reading requests (R23 to R25, R104) -/

theorem tableStatus_eq (s : State) :
    tableStatus s = .answer s .done (List.flatten
      [u32 s.freeCount, u32 s.occupiedCount, u32 s.limits.lowMark, [if s.table.lowMarkArmed then 1 else 2],
        u32 s.limits.share, perLane fun l => u16 (s.book l).list.length,
        perLane fun l => Machine.optional 2 (fun h => u16 (BitVec.toNat h)) (s.book l).engaged,
        perLane fun l => u16 (s.book l).nextPayment]) := by
  have hmark : u8 (indicatorCode s.table.lowMarkArmed) = [if s.table.lowMarkArmed then 1 else 2] := by
    cases s.table.lowMarkArmed <;> rfl
  rw [tableStatus, hmark]

section
variable {s : State}

theorem find_refused {form lane : Byte} {payment : Half} {till : Word}
    (h : form ≠ 1 ∧ form ≠ 2 ∨ form = 1 ∧ (15 < lane.toNat ∨ payment = 0)) :
    find form lane payment till s = refuse s .range := by
  rcases h with ⟨hone, htwo⟩ | ⟨rfl, hlane⟩
  · simp only [find, if_neg hone, if_neg htwo]
  · cases hl : laneOf lane with
    | none => simp only [find, if_true, hl]
    | some l =>
      have hzero : payment = 0 := hlane.resolve_left fun habove => by
        rw [laneOf_of_above habove] at hl
        cases hl
      simp only [find, if_true, hl, if_pos hzero]

/-- No slot of a list passes a test that no record of it passes. -/
theorem filter_slots_eq_nil {slots : List Slot} {p : Record → Prop} [DecidablePred p]
    (h : ∀ x ∈ slots, ∀ r, s.recordAt x = some r → ¬ p r) :
    (slots.filter fun x => (s.recordAt x).any fun r => decide (p r)) = [] := by
  refine List.filter_eq_nil_iff.mpr fun x hx => ?_
  cases hr : s.recordAt x with
  | none => simp
  | some r => simpa using h x hx r hr

theorem laneList_refused {lane : Byte} {start : Half} (h : 15 < lane.toNat ∨ 2047 < start.toNat) :
    laneList lane start s = refuse s .range := by
  cases hl : laneOf lane with
  | none => simp only [laneList, hl]
  | some l =>
    have hstart : 2047 < start.toNat := h.resolve_left fun habove => by
      rw [laneOf_of_above habove] at hl
      cases hl
    simp only [laneList, hl, if_pos hstart]

theorem keyStatus_refused {present lane : Byte} (h : 1 < present.toNat ∨ present = 1 ∧ 15 < lane.toNat) :
    keyStatus present lane s = refuse s .range := by
  rcases h with hpresent | ⟨rfl, hlane⟩
  · have hzero : present ≠ 0 := by rintro rfl; exact absurd hpresent (by decide)
    have hone : present ≠ 1 := by rintro rfl; exact absurd hpresent (by decide)
    have hno : yesNoOf present = none := by rw [yesNoOf, if_neg hzero, if_neg hone]
    simp only [keyStatus, hno]
  · have hone : yesNoOf 1 = some true := rfl
    simp only [keyStatus, hone, laneOf_of_above hlane]

end

/-! ## The layouts of a record and of a key entry (R22, R104) -/

theorem outcomeBytes_eq (o : PostedOutcome) :
    outcomeBytes o = List.flatten
      [ bytesOf 1 o.result.code, itemBytes 6 (o.approval.map fun c => bytesOf 6 c.toNat),
        itemBytes 1 (o.decline.map fun d => [d]) ] := by
  rw [outcomeBytes, optional_eq_itemBytes, optional_eq_itemBytes]
  rfl

theorem followUpBytes_eq (f : FollowUp) :
    followUpBytes f = List.flatten
      [ bytesOf 1 f.kind.code, bytesOf 4 f.amount, itemBytes 2 (f.counter.map fun c => bytesOf 2 c),
        bytesOf 1 f.status.code, itemBytes 2 (f.payload.map fun x => bytesOf 2 x.length) ] := by
  rw [followUpBytes, optional_eq_itemBytes, optional_eq_itemBytes]
  rfl

theorem entryStatusBytes_eq (e : KeyEntry) :
    entryStatusBytes e = List.flatten
      [ bytesOf 1 e.state.code, itemBytes 2 (e.material.map fun m => bytesOf 2 m.generation),
        itemBytes 3 (e.material.map fun m => bytesOf 3 m.checkValue.toNat), bytesOf 2 e.bindings ] := by
  rw [entryStatusBytes, optional_eq_itemBytes, optional_eq_itemBytes]
  rfl

end Sys2Proof.Machine

/-! ## The obligations -/

namespace Sys2Proof.Proofs

open Sys2Proof.Machine

/-- Settles O31: the answers, the refusals, the layouts and the codes of the reading requests. -/
theorem readingRequestsAnswer : Obligations.ReadingRequestsAnswer := by
  unfold Obligations.ReadingRequestsAnswer
  refine ⟨fun s tag hs => ?answers, fun s tag hs => ?refusals, ?layouts⟩
  case answers =>
    refine ⟨fun h r hr => ?record, fun lane payment till l slot rest hl hp hfound => ?lane,
      fun lane payment till slot rest hfound => ?till, fun lane start l hl hstart => ?list, ?table,
      exec_of_handler_answers rfl rfl hs rfl, fun lane => exec_of_handler_answers rfl rfl hs rfl,
      fun lane l hl => ⟨?keys, ?status⟩⟩
    case record =>
      exact exec_of_handler_answers rfl rfl hs (by rw [readRecord, withRecord_of_current hr])
    case lane =>
      exact exec_of_handler_answers rfl rfl hs (by rw [find_lane hl hp, hfound, found_cons])
    case till =>
      exact exec_of_handler_answers rfl rfl hs (by rw [find_till, hfound, found_cons])
    case list =>
      refine ⟨((s.book l).list.drop start.toNat).take 64, by rw [List.length_take, List.length_drop],
        List.take_prefix .., exec_of_handler_answers rfl rfl hs ?_⟩
      simp only [laneList, hl, if_neg (Nat.not_lt.mpr hstart)]
      rfl
    case table =>
      have hengaged : (perLane fun l => Machine.optional 2 (fun h => u16 (BitVec.toNat h))
          (s.book l).engaged) =
          (List.finRange 16).flatMap fun l => match (s.book l).engaged with
            | some h => 1 :: bytesOf 2 h.toNat
            | none => [0, 0, 0] := by
        refine congrArg (List.flatMap · _) (funext fun l => ?_)
        cases (s.book l).engaged <;> rfl
      refine exec_of_handler_answers rfl rfl hs ?_
      rw [tableStatus_eq, hengaged]
      rfl
    case keys =>
      refine exec_of_handler_answers rfl rfl hs ?_
      have hone : yesNoOf 1 = some true := rfl
      simp only [keyStatus, hone, hl]
    case status =>
      refine exec_of_handler_answers rfl rfl hs ?_
      simp only [laneStatus, hl]
  case refusals =>
    refine ⟨fun h hr => ?stale, fun form lane payment till hbad => ?form,
      fun lane payment till l hl hp hnone => ?noLane, fun lane payment till hnone => ?noTill,
      fun lane start hbad => ?noList, fun present lane hbad => ?noKeys, fun lane hbad => ?noStatus⟩
    case stale =>
      exact exec_of_handler_answers rfl rfl hs (by rw [readRecord, withRecord_of_stale hr]; rfl)
    case form =>
      exact exec_of_handler_answers rfl rfl hs (find_refused hbad)
    case noLane =>
      have hempty := filter_slots_eq_nil (p := fun r => r.payment = payment.toNat) hnone
      exact exec_of_handler_answers rfl rfl hs (by rw [find_lane hl hp, hempty]; rfl)
    case noTill =>
      have hempty := filter_slots_eq_nil (slots := List.finRange 2048) (p := fun r => r.till = till) fun x _ => hnone x
      exact exec_of_handler_answers rfl rfl hs (by rw [find_till, hempty]; rfl)
    case noList =>
      exact exec_of_handler_answers rfl rfl hs (laneList_refused hbad)
    case noKeys =>
      exact exec_of_handler_answers rfl rfl hs (keyStatus_refused hbad)
    case noStatus =>
      refine exec_of_handler_answers rfl rfl hs ?_
      simp only [laneStatus, laneOf_of_above hbad, refuse]
  case layouts =>
    intro flag item seconds
    have hitem : item = itemBytes := by
      funext size o; cases o <;> rfl
    have hseconds : seconds = secondsBytes := by
      funext o; rcases o with _ | _ | n <;> rfl
    rw [hitem, hseconds]
    refine ⟨fun h r => ?recordBytes, fun s lane => ?keysBytes, fun s l => ?statusBytes, rfl, rfl, rfl, rfl, rfl, rfl, rfl,
      rfl, rfl, rfl, rfl, rfl, rfl, rfl, rfl, fun a b rest => ?pair, fun a => ?last, rfl⟩
    case recordBytes =>
      simp only [recordBytes, optional_eq_itemBytes, timerBytes_eq_secondsBytes, funext outcomeBytes_eq,
        funext followUpBytes_eq]
      rfl
    case keysBytes =>
      rw [keyStatusBytes, optional_eq_itemBytes, funext entryStatusBytes_eq]
      rfl
    case statusBytes =>
      simp only [laneStatusBytes, optional_eq_itemBytes]
      rfl
    case pair =>
      have hpair : ∀ a b : Nibble, (a ++ b : Byte) = BitVec.ofNat 8 (16 * a.toNat + b.toNat) := by decide
      exact congrArg (· :: packPlaces rest) (hpair a b)
    case last =>
      revert a
      decide

end Sys2Proof.Proofs
end


section
/-! PROOFS. The layout of the payloads (R116 to R120, R187): bytes and blocks, padding, chaining and the
check. -/

namespace Sys2Proof.Machine

/-! ## Bytes and numbers in both directions -/

theorem numberOf_cons (b : Byte) (rest : List Byte) :
    numberOf (b :: rest) = b.toNat * 256 ^ rest.length + numberOf rest := by
  have hacc : ∀ (l : List Byte) (acc : Nat),
      l.foldl (fun acc b => acc * 256 + b.toNat) acc = acc * 256 ^ l.length + numberOf l := by
    intro l
    induction l with
    | nil => intro acc; simp [numberOf]
    | cons c l ih =>
      intro acc
      have hc : numberOf (c :: l) = (0 * 256 + c.toNat) * 256 ^ l.length + numberOf l :=
        ih (0 * 256 + c.toNat)
      rw [List.foldl_cons, ih, hc, List.length_cons, pow_succ]
      ring
  rw [numberOf, List.foldl_cons, hacc]
  ring

theorem numberOf_lt (bytes : List Byte) : numberOf bytes < 256 ^ bytes.length := by
  induction bytes with
  | nil => simp [numberOf]
  | cons b rest ih =>
    have hb : b.toNat + 1 ≤ 256 := b.isLt
    calc numberOf (b :: rest) = b.toNat * 256 ^ rest.length + numberOf rest := numberOf_cons b rest
      _ < (b.toNat + 1) * 256 ^ rest.length := by rw [Nat.add_mul]; omega
      _ ≤ 256 * 256 ^ rest.length := Nat.mul_le_mul_right _ hb
      _ = 256 ^ (b :: rest).length := by rw [List.length_cons, pow_succ, Nat.mul_comm]

/-- The last bytes of a number do not see what stands above them. -/
theorem bytesOf_mul_add (n a x : Nat) : bytesOf n (a * 256 ^ n + x) = bytesOf n x := by
  induction n generalizing a with
  | zero => rfl
  | succ n ih =>
    have hdiv : (a * 256 ^ (n + 1) + x) / 256 ^ n = a * 256 + x / 256 ^ n := by
      rw [pow_succ, Nat.mul_comm (256 ^ n), ← Nat.mul_assoc, Nat.add_comm,
        Nat.add_mul_div_right _ _ (Nat.pow_pos (by decide)), Nat.add_comm]
    have hrest : bytesOf n (a * 256 ^ (n + 1) + x) = bytesOf n x := by
      rw [pow_succ, Nat.mul_comm (256 ^ n), ← Nat.mul_assoc, ih]
    rw [bytesOf, bytesOf, hdiv, hrest]
    congr 1
    apply BitVec.eq_of_toNat_eq
    simp [BitVec.toNat_ofNat]

theorem bytesOf_numberOf (bytes : List Byte) : bytesOf bytes.length (numberOf bytes) = bytes := by
  induction bytes with
  | nil => rfl
  | cons b rest ih =>
    have hdiv : (b.toNat * 256 ^ rest.length + numberOf rest) / 256 ^ rest.length = b.toNat := by
      rw [Nat.add_comm, Nat.add_mul_div_right _ _ (Nat.pow_pos (by decide)),
        Nat.div_eq_of_lt (numberOf_lt rest), Nat.zero_add]
    rw [List.length_cons, bytesOf, numberOf_cons, hdiv, bytesOf_mul_add, ih]
    simp

/-- The first bytes of a number are those of its upper part. -/
theorem take_bytesOf_add (n m x : Nat) : (bytesOf (n + m) x).take n = bytesOf n (x / 256 ^ m) := by
  induction n with
  | zero => simp [bytesOf]
  | succ n ih =>
    rw [Nat.succ_add, bytesOf, List.take_succ_cons, ih, bytesOf, Nat.div_div_eq_div_mul, ← pow_add,
      Nat.add_comm m n]

@[simp] theorem length_blockBytes (b : Block) : (blockBytes b).length = 16 := length_bytesOf ..

@[simp] theorem blockOf_blockBytes (b : Block) : blockOf (blockBytes b) = b :=
  ofNat_numberOf (by norm_num) b

theorem blockBytes_blockOf {bytes : List Byte} (h : bytes.length = 16) :
    blockBytes (blockOf bytes) = bytes := by
  have hlt : numberOf bytes < 2 ^ 128 := by
    have := numberOf_lt bytes
    rw [h] at this
    exact this
  rw [blockBytes, blockOf, BitVec.toNat_ofNat, Nat.mod_eq_of_lt hlt, ← h, bytesOf_numberOf]

/-! ## Digit places (R117, R137) -/

theorem packPlaces_eq (n : Nat) (places : List Nibble) (h : places.length = 2 * n) :
    packPlaces places =
      (List.range n).map fun i => (places.getD (2 * i) 15 ++ places.getD (2 * i + 1) 15 : Byte) := by
  induction n generalizing places with
  | zero => rw [List.eq_nil_of_length_eq_zero h]; rfl
  | succ n ih =>
    match places, h with
    | a :: b :: rest, h =>
      have hrest : rest.length = 2 * n := by simp only [List.length_cons] at h; omega
      rw [packPlaces, ih rest hrest, List.range_succ_eq_map, List.map_cons, List.map_map]
      rfl

theorem cardNumberBytes_eq {digits : List Nibble} (h : digits.length ≤ 20) :
    cardNumberBytes digits =
      (List.range 10).map fun i => (digits.getD (2 * i) 15 ++ digits.getD (2 * i + 1) 15 : Byte) := by
  have hfilled : ∀ i, (digits ++ List.replicate (20 - digits.length) 15).getD i 15 = digits.getD i 15 := by
    intro i
    simp only [List.getD_eq_getElem?_getD, List.getElem?_append]
    split
    · rfl
    · next hi =>
      rw [List.getElem?_eq_none (Nat.not_lt.mp hi), List.getElem?_replicate]
      split <;> rfl
  rw [cardNumberBytes, packPlaces_eq 10 _ (by simp; omega)]
  simp only [hfilled]

theorem length_cardNumberBytes {digits : List Nibble} (h : digits.length ≤ 20) :
    (cardNumberBytes digits).length = 10 := by
  rw [cardNumberBytes_eq h]; simp

/-! ## Padding and chaining (R117, R118) -/

theorem padded_eq (bytes : List Byte) :
    padded bytes =
      bytes ++ 0x80 :: List.replicate ((16 - (bytes.length + 1) % 16) % 16) 0 := by
  rw [padded, List.append_assoc]; rfl

theorem length_padded (bytes : List Byte) :
    (padded bytes).length = bytes.length + 1 + (16 - (bytes.length + 1) % 16) % 16 := by
  rw [padded_eq, List.length_append, List.length_cons, List.length_replicate]; omega

theorem length_padded_mod (bytes : List Byte) : (padded bytes).length % 16 = 0 := by
  rw [length_padded]; omega

/-- A list of whole blocks is its blocks in order (R118). -/
theorem pieces_of_whole (n : Nat) (bytes : List Byte) (hn : bytes.length ≤ n)
    (h : bytes.length % 16 = 0) :
    pieces n bytes = (List.range (bytes.length / 16)).map fun i => (bytes.drop (16 * i)).take 16 := by
  induction n generalizing bytes with
  | zero => rw [List.eq_nil_of_length_eq_zero (Nat.le_zero.mp hn)]; rfl
  | succ n ih =>
    rw [pieces]
    by_cases hempty : bytes = []
    · rw [hempty]; rfl
    · have hpos : bytes.length ≠ 0 := fun hzero => hempty (List.eq_nil_of_length_eq_zero hzero)
      have hlen : (bytes.drop 16).length = bytes.length - 16 := List.length_drop
      have hcount : bytes.length / 16 = (bytes.drop 16).length / 16 + 1 := by omega
      rw [if_neg (by simpa using hempty), ih (bytes.drop 16) (by omega) (by omega), hcount,
        List.range_succ_eq_map, List.map_cons, List.map_map]
      simp [Function.comp_def, Nat.mul_add, Nat.add_comm]

@[simp] theorem length_chain (key prev : Block) (blocks : List Block) :
    (chain key prev blocks).length = blocks.length := by
  induction blocks generalizing prev with
  | nil => rfl
  | cons b rest ih => rw [chain, List.length_cons, ih, List.length_cons]

/-- Each block is combined with the enciphered block before it, the first with the starting block (R118). -/
theorem getElem_chain (key prev : Block) (blocks : List Block) (n : Nat) (h : n < blocks.length) :
    (chain key prev blocks)[n]'(by rw [length_chain]; exact h) =
      Aes.encipher key
        (blocks[n] ^^^ if n = 0 then prev else (chain key prev blocks).getD (n - 1) 0) := by
  induction blocks generalizing prev n with
  | nil => exact absurd h (Nat.not_lt_zero n)
  | cons b rest ih =>
    cases n with
    | zero => rfl
    | succ n =>
      have hn : n < rest.length := by simpa using h
      simp only [chain, List.getElem_cons_succ]
      rw [ih _ n hn]
      cases n with
      | zero => rfl
      | succ n => simp

theorem length_blocksOf {bytes : List Byte} (h : bytes.length % 16 = 0) :
    (blocksOf bytes).length = bytes.length / 16 := by
  rw [blocksOf, pieces_of_whole _ _ le_rfl h]; simp

theorem length_ciphertext (key : Block) {clear : List Byte} (h : clear.length % 16 = 0) :
    (ciphertext key clear).length = clear.length := by
  have hsum : (ciphertext key clear).length = 16 * (clear.length / 16) := by
    simp [ciphertext, List.length_flatMap, List.map_const', length_blocksOf h, Nat.mul_comm]
  omega

/-- A block of the ciphertext (R118). -/
theorem block_of_ciphertext (key : Block) (clear : List Byte) (n : Nat)
    (h : n < (chain key 0 (blocksOf clear)).length) :
    ((ciphertext key clear).drop (16 * n)).take 16 = blockBytes (chain key 0 (blocksOf clear))[n] := by
  rw [ciphertext, drop_flatMap length_blockBytes _ n h, List.take_append_of_le_length (by simp),
    List.take_of_length_le (by simp)]

/-! ## The check (R119) -/

/-- The last, short block of a check's input, filled (R119, step 2). -/
theorem take_filled {last : List Byte} (h : last.length < 16) :
    (last ++ [0x80] ++ List.replicate 16 0).take 16 =
      last ++ 0x80 :: List.replicate (15 - last.length) 0 := by
  have hone : 16 - last.length = (15 - last.length) + 1 := by omega
  rw [List.append_assoc, List.take_append, List.take_of_length_le (by omega), hone, List.singleton_append,
    List.take_succ_cons, List.take_replicate]
  congr 3
  omega

theorem check64_bytes (key : Block) (bytes : List Byte) :
    bytesOf 8 (check64 key bytes).toNat = (blockBytes (fullCode key bytes)).take 8 := by
  have hupper : (check64 key bytes).toNat = (fullCode key bytes).toNat / 256 ^ 8 := by
    have hlt := (fullCode key bytes).isLt
    simp only [check64, BitVec.extractLsb'_toNat, Nat.shiftRight_eq_div_pow]
    omega
  rw [blockBytes, take_bytesOf_add 8 8, hupper]

theorem fullCode_eq (key : Block) {bytes : List Byte} (h : bytes.length % 16 ≠ 0) :
    fullCode key bytes =
      Aes.encipher key
        (blockOf (bytes.drop (16 * (bytes.length / 16)) ++
            0x80 :: List.replicate (15 - (bytes.drop (16 * (bytes.length / 16))).length) 0) ^^^
          secondSubkey key ^^^
          (List.range (bytes.length / 16)).foldl
            (fun before i => Aes.encipher key (blockOf ((bytes.drop (16 * i)).take 16) ^^^ before)) 0) := by
  have hshort : (bytes.drop (16 * (bytes.length / 16))).length < 16 := by
    rw [List.length_drop]; omega
  rw [fullCode, pieces_of_short_end _ _ le_rfl h, checkBlocks_append, chain_getLast?, Option.getD_some,
    take_filled hshort, List.map_map, List.foldl_map]
  rfl

/-! ## The payload (R119, R187) -/

theorem header_eq (job : Job) (w : WrapInputs) (n : Nat) :
    header job w n =
      [BitVec.ofNat 8 job.payloadKind, 1] ++ bytesOf 4 w.chain.toNat ++ bytesOf 4 w.store.toNat ++
        bytesOf 2 w.currency ++ bytesOf 1 job.lane ++ bytesOf 2 job.generation ++
        bytesOf 2 job.counter ++ bytesOf 2 w.captureCounter ++ bytesOf 2 w.payment ++
        bytesOf 1 job.part ++ bytesOf 1 w.card.entry.code ++ bytesOf 1 n := by
  have hfirst : u8 job.payloadKind ++ u8 1 = [BitVec.ofNat 8 job.payloadKind, 1] := by
    simp [u8, bytesOf]
  rw [header, hfirst]
  rfl

theorem length_header (job : Job) (w : WrapInputs) (n : Nat) : (header job w n).length = 24 := by
  simp [header, u8, u16]

theorem length_content {job : Job} {w : WrapInputs} (h : w.card.digits.length ≤ 20) :
    22 + w.card.chip.length ≤ (content job w).length ∧
      (content job w).length ≤ 24 + w.card.chip.length := by
  cases job <;> simp [content, u8, u16, u32, length_cardNumberBytes h] <;> omega

theorem payloadKind_cases {job : Job} (h : job.payloadKind ≠ 0) :
    job.payloadKind = 1 ∨ job.payloadKind = 2 ∨ job.payloadKind = 3 := by
  cases job with
  | capture => exact .inl rfl
  | followUp kind =>
    cases kind with
    | adjust => exact .inr (.inl rfl)
    | reversal => exact .inr (.inr rfl)
  | unwrap => exact absurd rfl h

/-- The derivation block (R116). -/
def derivationBlock (job : Job) (w : WrapInputs) (last : Nat) : List Byte :=
  bytesOf 4 w.chain.toNat ++ bytesOf 4 w.store.toNat ++ bytesOf 2 job.generation ++
    bytesOf 1 job.lane ++ bytesOf 2 job.counter ++ [0, 0, BitVec.ofNat 8 last]

theorem derivationHead_append (job : Job) (w : WrapInputs) (last : Nat) :
    derivationHead job w ++ [BitVec.ofNat 8 last] = derivationBlock job w last := by
  simp [derivationHead, derivationBlock, u8, u16]

theorem length_derivationBlock (job : Job) (w : WrapInputs) (last : Nat) :
    (derivationBlock job w last).length = 16 := by
  simp [derivationBlock]

theorem cipherKey_eq (job : Job) (w : WrapInputs) :
    cipherKey job w = Aes.encipher w.key (blockOf (derivationBlock job w job.payloadKind)) := by
  rw [cipherKey, ← derivationHead_append]
  simp [u8, bytesOf]

theorem checkKey_eq {job : Job} (h : job.payloadKind ≠ 0) (w : WrapInputs) :
    checkKey job w = Aes.encipher w.key (blockOf (derivationBlock job w (255 - job.payloadKind))) := by
  have hcomplement : ~~~(BitVec.ofNat 8 job.payloadKind) = BitVec.ofNat 8 (255 - job.payloadKind) := by
    rcases payloadKind_cases h with hk | hk | hk <;> rw [hk] <;> decide
  rw [checkKey, ← derivationHead_append, hcomplement]

end Sys2Proof.Machine

/-! ## The obligations -/

namespace Sys2Proof.Proofs

open Sys2Proof.Machine

/-- Settles O40: the payload's parts and length, the one-time keys, the content, the padding, the chaining
and the check. -/
theorem payloadsHaveTheirLayout : Obligations.PayloadsHaveTheirLayout := by
  unfold Obligations.PayloadsHaveTheirLayout
  refine ⟨fun job w hkind hdigits hchip => ?payload, fun h l g c => ⟨rfl, rfl⟩,
    fun kind share h i l g c => ⟨rfl, ?kinds⟩, fun job w hkind => ?keys, fun job w hkind hdigits => ?content,
    fun bytes => ?padding, fun b => ?subkeys, fun key bytes hbytes => ?check, fun key clear hclear => ?chaining⟩
  case payload =>
    obtain ⟨hlow, hhigh⟩ := length_content (job := job) hdigits
    let clear := padded (content job w)
    let cipher := ciphertext (cipherKey job w) clear
    let head := header job w cipher.length
    have hcipher : cipher.length = clear.length := length_ciphertext _ (length_padded_mod _)
    have hclear : clear.length = _ := length_padded (content job w)
    have hwhole : clear.length % 16 = 0 := length_padded_mod _
    have hhead : head.length = 24 := length_header ..
    have hpayload : payloadOf job w =
        head ++ (cipher ++ bytesOf 8 (check64 (checkKey job w) (head ++ cipher)).toNat) := by
      rw [← List.append_assoc]; rfl
    have hlength : (payloadOf job w).length = 32 + clear.length := by
      rw [hpayload, List.length_append, List.length_append, length_bytesOf, hhead, hcipher]; omega
    intro payload text
    have hlength : payload.length = 32 + clear.length := hlength
    have htext : text = cipher.length := by simp only [text]; omega
    have hbody : payload.take (24 + text) = head ++ cipher := by
      simp only [payload]
      rw [hpayload, ← List.append_assoc]
      exact List.take_left' (by rw [List.length_append, hhead, htext])
    refine ⟨by omega, by omega, by omega, ?_, ?_, ?_⟩
    · simp only [payload]
      rw [hpayload, List.take_left' hhead, htext]
      exact header_eq job w cipher.length
    · simp only [payload]
      rw [hpayload, List.drop_left' hhead, List.take_left' htext.symm]
    · rw [hbody]
      simp only [payload]
      rw [hpayload, ← List.append_assoc]
      exact List.drop_left' (by rw [List.length_append, hhead, htext])
  case kinds => cases kind <;> rfl
  case keys =>
    exact ⟨cipherKey_eq job w, checkKey_eq hkind w, fun last =>
      ⟨length_derivationBlock job w last, blockBytes_blockOf (length_derivationBlock job w last)⟩⟩
  case content =>
    intro place entry verify
    have hentry : bytesOf 1 w.card.entry.code = [entry] := by
      simp only [entry]; cases w.card.entry <;> rfl
    have hverify : bytesOf 1 w.card.verify.code = [verify] := by
      simp only [verify]; cases w.card.verify <;> rfl
    cases job with
    | capture =>
      simp [content, hentry, hverify, cardNumberBytes_eq hdigits, u8, u16, u32, Job.payloadKind, place]
    | followUp kind =>
      cases kind <;>
        simp [content, hentry, hverify, cardNumberBytes_eq hdigits, u8, u16, u32, Job.payloadKind, place]
    | unwrap => exact absurd rfl hkind
  case padding =>
    exact ⟨(16 - (bytes.length + 1) % 16) % 16, Nat.mod_lt _ (by decide), padded_eq bytes,
      length_padded_mod bytes⟩
  case subkeys => rfl
  case check =>
    intro whole block chained last filled code
    rw [check64_bytes, fullCode_eq key hbytes]
    rfl
  case chaining =>
    intro text
    refine ⟨length_ciphertext key hclear, fun n hn => ?_⟩
    intro before
    have hcount := length_blocksOf hclear
    have hblocks : n < (blocksOf clear).length := by omega
    have hchain : n < (chain key 0 (blocksOf clear)).length := by rw [length_chain]; exact hblocks
    have hblock : (blocksOf clear)[n] = blockOf ((clear.drop (16 * n)).take 16) := by
      simp [blocksOf, pieces_of_whole _ _ le_rfl hclear]
    have hbefore : (if n = 0 then 0 else (chain key 0 (blocksOf clear)).getD (n - 1) 0) = before := by
      simp only [before]
      split
      · rfl
      · have hprev : n - 1 < (chain key 0 (blocksOf clear)).length := by omega
        rw [block_of_ciphertext key clear (n - 1) hprev, blockOf_blockBytes,
          List.getD_eq_getElem _ _ hprev]
    simp only [text]
    rw [block_of_ciphertext key clear n hchain, getElem_chain key 0 _ n hblocks, hblock, hbefore]

end Sys2Proof.Proofs
end


section
/-! PROOFS. The reader dialogue (Chapter 8): how frames are read, what a HELLO does, and the frames refused
before they act. -/

namespace Sys2Proof.Machine

/-! ## How frames are read (R137, R185) -/

theorem read_of_kind_hello {f : LaneFrame} (h : f.kind = 1) :
    f.read =
      if f.body.length = 10 then
        .hello (BitVec.ofNat 64 (numberOf (f.body.take 8))) (byteAt f.body 8) (byteAt f.body 9)
      else .badlyFormed :=
  if_pos h

theorem read_of_kind_card {f : LaneFrame} (h : f.kind = 2) : f.read = readCard f.body := by
  have hno : ¬ f.kind = helloKind := by rw [h]; decide
  rw [LaneFrame.read, if_neg hno]
  exact if_pos h

theorem read_of_kind_cancel {f : LaneFrame} (h : f.kind = 3) :
    f.read =
      if f.body.length = 2 ∧ paymentOf f.body ≠ 0 then .cancel (paymentOf f.body) else .badlyFormed := by
  have hhello : ¬ f.kind = helloKind := by rw [h]; decide
  have hcard : ¬ f.kind = cardKind := by rw [h]; decide
  rw [LaneFrame.read, if_neg hhello, if_neg hcard]
  exact if_pos h

theorem read_of_kind_ack {f : LaneFrame} (h : f.kind = 4) :
    f.read = if f.body.length = 1 then .ack (byteAt f.body 0) else .badlyFormed := by
  have hhello : ¬ f.kind = helloKind := by rw [h]; decide
  have hcard : ¬ f.kind = cardKind := by rw [h]; decide
  have hcancel : ¬ f.kind = cancelKind := by rw [h]; decide
  rw [LaneFrame.read, if_neg hhello, if_neg hcard, if_neg hcancel]
  exact if_pos h

theorem read_of_other_kind {f : LaneFrame} (h₁ : f.kind ≠ 1) (h₂ : f.kind ≠ 2) (h₃ : f.kind ≠ 3)
    (h₄ : f.kind ≠ 4) : f.read = .badlyFormed := by
  rw [LaneFrame.read]
  exact (if_neg h₁).trans ((if_neg h₂).trans ((if_neg h₃).trans (if_neg h₄)))

theorem readCard_cases (body : List Byte) :
    readCard body = .badlyFormed ∨ ∃ payment fields, readCard body = .card payment fields := by
  unfold readCard
  split
  · exact .inl rfl
  · split
    · split
      · exact .inl rfl
      · exact .inr ⟨_, _, rfl⟩
    · exact .inl rfl

/-- A frame is read by its kind: what it is read as tells its kind. -/
theorem kind_of_read (f : LaneFrame) :
    match f.read with
    | .hello .. => f.kind = 1
    | .card .. => f.kind = 2
    | .cancel _ => f.kind = 3
    | .ack _ => f.kind = 4
    | .badlyFormed => True := by
  by_cases h₁ : f.kind = 1
  · rw [read_of_kind_hello h₁]
    split_ifs
    · exact h₁
    · trivial
  · by_cases h₂ : f.kind = 2
    · rw [read_of_kind_card h₂]
      rcases readCard_cases f.body with hread | ⟨payment, fields, hread⟩
      · rw [hread]; trivial
      · rw [hread]; exact h₂
    · by_cases h₃ : f.kind = 3
      · rw [read_of_kind_cancel h₃]
        split_ifs
        · exact h₃
        · trivial
      · by_cases h₄ : f.kind = 4
        · rw [read_of_kind_ack h₄]
          split_ifs
          · exact h₄
          · trivial
        · rw [read_of_other_kind h₁ h₂ h₃ h₄]
          trivial

section
variable {f : LaneFrame}

theorem kind_of_hello {identity : BitVec 64} {firmware base : Byte}
    (h : f.read = .hello identity firmware base) : f.kind = 1 := by
  have hkind := kind_of_read f
  rw [h] at hkind
  exact hkind

theorem kind_of_card {payment : Nat} {fields : CardFields} (h : f.read = .card payment fields) :
    f.kind = 2 := by
  have hkind := kind_of_read f
  rw [h] at hkind
  exact hkind

theorem kind_of_cancel {payment : Nat} (h : f.read = .cancel payment) : f.kind = 3 := by
  have hkind := kind_of_read f
  rw [h] at hkind
  exact hkind

theorem kind_of_ack {sequence : Byte} (h : f.read = .ack sequence) : f.kind = 4 := by
  have hkind := kind_of_read f
  rw [h] at hkind
  exact hkind

end

/-- A byte behind a bit field is the last byte of the number (R183). -/
theorem toNat_append_byte {w : Nat} (x : BitVec w) (b : Byte) :
    (x ++ b).toNat = x.toNat * 256 + b.toNat := by
  rw [BitVec.toNat_append, ← Nat.shiftLeft_add_eq_or_of_lt b.isLt, Nat.shiftLeft_eq]

theorem eight_bytes (a b c d e g h i : Byte) :
    BitVec.ofNat 64 (numberOf [a, b, c, d, e, g, h, i]) = a ++ b ++ c ++ d ++ e ++ g ++ h ++ i := by
  apply BitVec.eq_of_toNat_eq
  have hlt : numberOf [a, b, c, d, e, g, h, i] < 2 ^ 64 :=
    calc numberOf [a, b, c, d, e, g, h, i]
      _ < 256 ^ [a, b, c, d, e, g, h, i].length := numberOf_lt _
      _ = 2 ^ 64 := by norm_num
  simp only [toNat_append_byte, BitVec.toNat_ofNat]
  rw [Nat.mod_eq_of_lt hlt]
  simp [numberOf]

theorem isHello_iff (g : ReaderFrame) :
    g.isHello = true ↔ ∃ identity firmware base, g = .hello identity firmware base := by
  cases g <;> simp [ReaderFrame.isHello]

theorem isCard_iff (g : ReaderFrame) : g.isCard = true ↔ ∃ payment fields, g = .card payment fields := by
  cases g <;> simp [ReaderFrame.isCard]

theorem isCancel_iff (g : ReaderFrame) : g.isCancel = true ↔ ∃ payment, g = .cancel payment := by
  cases g <;> simp [ReaderFrame.isCancel]

theorem isAck_iff (g : ReaderFrame) : g.isAck = true ↔ ∃ sequence, g = .ack sequence := by
  cases g <;> simp [ReaderFrame.isAck]

/-! ## A frame taken from its slot (R128, R140, R142) -/

@[simp] theorem modLane_twice (s : State) (l : LaneId) (f g : Lane → Lane) :
    (s.modLane l f).modLane l g = s.modLane l fun L => g (f L) := by
  simp [State.modLane, State.lane]

/-- The frame leaves the slot, and a STALLED assembler hunts again (R128). -/
def State.slotEmptied (s : State) (l : LaneId) : State := s.modLane l Lane.emptySlot

theorem lane_slotEmptied (s : State) (l : LaneId) : (s.slotEmptied l).lane l = (s.lane l).emptySlot :=
  State.lane_modLane_self ..

theorem mustWait_iff (s : State) (f : LaneFrame) :
    mustWait s f = true ↔ f.kind = 2 ∧ s.supply.state = .low := by
  rw [mustWait, Bool.and_eq_true, decide_eq_true_eq, decide_eq_true_eq, cardKind]

section
variable {s : State} {l : LaneId} {f : LaneFrame} {names : LaneFrame → Bool}
  (hslot : (s.lane l).slot = some f)
include hslot

theorem takeFrame_waits (h : f.kind = 2 ∧ s.supply.state = .low) : takeFrame l names s = s := by
  simp [takeFrame, hslot, (mustWait_iff s f).mpr h]

variable (hnames : names f = true) (hgoes : ¬ (f.kind = 2 ∧ s.supply.state = .low))
include hnames hgoes

theorem takeFrame_takes (hruns : (s.lane l).runs = true) :
    takeFrame l names s = dispatch l f (s.slotEmptied l) := by
  have hwait : mustWait s f = false := by
    rw [← Bool.not_eq_true, mustWait_iff]; exact hgoes
  simp [takeFrame, hslot, hruns, hnames, hwait, State.slotEmptied]

theorem takeFrame_down (hmode : (s.lane l).mode = .down) :
    takeFrame l names s = dispatchDown l f (s.slotEmptied l) := by
  have hnot : ¬ ((s.slotEmptied l).lane l).mode = .ready := by
    rw [lane_slotEmptied]; exact fun h => nomatch hmode.symm.trans h
  rw [takeFrame_takes hslot hnames hgoes ((Lane.runs_iff _).mpr (.inl hmode)), dispatch, if_neg hnot]

theorem takeFrame_ready (hmode : (s.lane l).mode = .ready) :
    takeFrame l names s = dispatchReady l f (s.slotEmptied l) := by
  have hready : ((s.slotEmptied l).lane l).mode = .ready := by
    rw [lane_slotEmptied]; exact hmode
  rw [takeFrame_takes hslot hnames hgoes ((Lane.runs_iff _).mpr (.inr hmode)), dispatch, if_pos hready]

end

theorem dispatchReady_out_of_sequence {s : State} {l : LaneId} {f : LaneFrame} (hkind : f.kind ≠ 1)
    (hseq : (s.lane l).reader.map (fun r => r.expected) ≠ some f.sequence) :
    dispatchReady l f (s.slotEmptied l) =
      refuseCounted l .outOfSequence f.sequence (s.slotEmptied l) := by
  have hlane : ((s.slotEmptied l).lane l).reader.map (fun r => r.expected) ≠ some f.sequence := by
    rw [lane_slotEmptied]; exact hseq
  rw [dispatchReady]
  exact (if_neg hkind).trans (if_neg hlane)

/-- A frame that has come in its turn is read further once its slot and its sequence are used (R145). -/
theorem takeFrame_inTurn {s : State} {l : LaneId} {f : LaneFrame} {names : LaneFrame → Bool}
    (h : s.inTurn l f) (hnames : names f = true) (hgoes : ¬ (f.kind = 2 ∧ s.supply.state = .low))
    (hkind : f.kind ≠ 1) : takeFrame l names s = dispatchInTurn l f (s.frameTaken l) := by
  obtain ⟨_, hmode, hslot, hseq⟩ := h
  have hlane : ((s.slotEmptied l).lane l).reader.map (fun r => r.expected) = some f.sequence := by
    rw [lane_slotEmptied]; exact hseq
  rw [takeFrame_ready hslot hnames hgoes hmode, dispatchReady]
  exact (if_neg hkind).trans (if_pos hlane)

/-! ## Greeting and restart (R143, R144) -/

/-- A lane under a new reader, its frame taken (R128, R143). -/
def Lane.welcomed (store : Word) (l : LaneId) (identity : BitVec 64) (firmware base : Byte) (L : Lane) :
    Lane :=
  { L with
    slot := none, assembler := if L.assembler = .stalled then .hunt else L.assembler
    mode := .ready, outbound := [.welcome store l], nextPart := 0
    reader := some { expected := base + 1, identity := identity, firmware := firmware } }

theorem leaveReady_modLane (s : State) (l x : LaneId) (f : Lane → Lane) (cause : LeaveCause) :
    (s.modLane x f).leaveReady l cause = (s.leaveReady l cause).modLane x f := by
  have hengaged : (s.modLane x f).engaged? l = s.engaged? l := rfl
  unfold State.leaveReady
  rw [hengaged]
  cases s.engaged? l with
  | none => rfl
  | some p =>
    dsimp only
    split_ifs <;> rfl

theorem greet_offer (store : Word) (l : LaneId) (identity : BitVec 64) (firmware base : Byte) (L : Lane) :
    ((L.emptySlot).greet (greetedSession identity firmware base)).offer (.welcome store l) =
      L.welcomed store l identity firmware base :=
  Lane.offer_of_ready rfl _

theorem restart_offer (store : Word) (l : LaneId) (identity : BitVec 64) (firmware base : Byte) (L : Lane) :
    ((L.emptySlot.clearOutbound).greet (greetedSession identity firmware base)).offer (.welcome store l) =
      { L.welcomed store l identity firmware base with txFifo := [] } :=
  Lane.offer_of_ready rfl _

theorem welcome_eq {s : State} {c : Commissioning} (hc : s.commission = some c) (l : LaneId) :
    welcome l s =
      (s.modLane l fun L => L.offer (.welcome c.store l)).modCauses l fun x => { x with up := true } := by
  simp only [welcome, hc, State.offer]

section
variable {s : State} {l : LaneId} {f : LaneFrame} {identity : BitVec 64} {firmware base : Byte}
  {c : Commissioning} (hc : s.commission = some c) (hread : f.read = .hello identity firmware base)
include hc hread

theorem dispatchDown_hello :
    dispatchDown l f (s.slotEmptied l) =
      (s.modLane l (Lane.welcomed c.store l identity firmware base)).modCauses l
        fun x => { x with up := true } := by
  have hwelcome := welcome_eq (s := (s.slotEmptied l).modLane l
    (Lane.greet (greetedSession identity firmware base))) (c := c) hc l
  simp only [dispatchDown, hread, greet, hwelcome]
  simp only [State.slotEmptied, modLane_twice, greet_offer]

theorem dispatchReady_hello :
    dispatchReady l f (s.slotEmptied l) =
      ((s.leaveReady l .lost).modLane l fun L =>
        { L.welcomed c.store l identity firmware base with txFifo := [] }).modCauses l
          fun x => { x with up := true } := by
  have hleft : ((s.slotEmptied l).leaveReady l .lost).commission = some c := by
    rw [leaveReady_frame]; exact hc
  have hwelcome := welcome_eq (s := ((s.slotEmptied l).leaveReady l .lost).modLane l fun L =>
    Lane.greet (greetedSession identity firmware base) L.clearOutbound) (c := c) hleft l
  have hkind : f.kind = helloKind := kind_of_hello hread
  simp only [dispatchReady, hkind, if_true, hread, restartDialogue, hwelcome]
  simp only [State.slotEmptied, leaveReady_modLane, modLane_twice, restart_offer]

end

/-! ## Frames refused (R139, R143, R145) -/

theorem dispatchDown_refuses {l : LaneId} {f : LaneFrame}
    (h : ∀ identity firmware base, f.read ≠ .hello identity firmware base) (s : State) :
    dispatchDown l f s = refuseFrame l (if f.kind = 1 then .badFrame else .notGreeted) f.sequence s := by
  cases hread : f.read with
  | hello identity firmware base => exact absurd hread (h _ _ _)
  | badlyFormed =>
    simp only [dispatchDown, hread]
    rfl
  | card payment fields =>
    have hkind : ¬ f.kind = 1 := by rw [kind_of_card hread]; decide
    simp only [dispatchDown, hread, if_neg hkind]
  | cancel payment =>
    have hkind : ¬ f.kind = 1 := by rw [kind_of_cancel hread]; decide
    simp only [dispatchDown, hread, if_neg hkind]
  | ack sequence =>
    have hkind : ¬ f.kind = 1 := by rw [kind_of_ack hread]; decide
    simp only [dispatchDown, hread, if_neg hkind]

theorem dispatchReady_bad_hello {l : LaneId} {f : LaneFrame} (hkind : f.kind = 1)
    (hread : f.read = .badlyFormed) (s : State) :
    dispatchReady l f s = refuseCounted l .badFrame f.sequence s := by
  have hhello : f.kind = helloKind := hkind
  simp only [dispatchReady, hhello, if_true, hread]

theorem not_hello_of_kind {f : LaneFrame} (h : f.kind ≠ 1) (identity : BitVec 64) (firmware base : Byte) :
    f.read ≠ .hello identity firmware base :=
  fun hread => h (kind_of_hello hread)

end Sys2Proof.Machine

/-! ## The obligations -/

namespace Sys2Proof.Proofs

open Sys2Proof.Machine

/-- Settles O50: a HELLO by the lane's state. -/
theorem helloGreetsAndRestarts : Obligations.HelloGreetsAndRestarts := by
  unfold Obligations.HelloGreetsAndRestarts
  intro s l f identity firmware base c hp hc hslot hread greeted
  have hnames : f.read.isHello = true := (isHello_iff _).mpr ⟨_, _, _, hread⟩
  have hgoes : ¬ (f.kind = 2 ∧ s.supply.state = .low) := by
    rw [kind_of_hello hread]; exact fun h => absurd h.1 (by decide)
  refine ⟨fun hmode => exec_of_running hp rfl ?_, fun hmode => exec_of_running hp rfl ?_⟩
  · rw [takeFrame_down hslot hnames hgoes hmode, dispatchDown_hello hc hread]
    rfl
  · rw [takeFrame_ready hslot hnames hgoes hmode, dispatchReady_hello hc hread]
    rfl

/-- Settles O51: frames by kind and body, and the refusals on DOWN and READY lanes. -/
theorem framesAreRefusedBeforeTheyAct : Obligations.FramesAreRefusedBeforeTheyAct := by
  unfold Obligations.FramesAreRefusedBeforeTheyAct
  refine ⟨fun f => ?reads, fun g => ⟨isHello_iff g, isCard_iff g, isCancel_iff g, isAck_iff g⟩,
    fun s l => modLane_twice .., fun s l f hp hslot => ?refuses⟩
  case reads =>
    intro byte payment
    have hpayment : f.body.length = 2 → paymentOf f.body = payment := fun hlen =>
      paymentOf_eq (by omega)
    refine ⟨fun a b c d e g h i firmware base hkind hbody => ?_, fun hkind hlen => ?_,
      fun hkind hlen hne => ?_, fun hkind hbad => ?_, fun hkind hlen => ?_, fun hkind hlen => ?_,
      read_of_other_kind⟩
    · rw [read_of_kind_hello hkind, hbody]
      exact congrArg (ReaderFrame.hello · firmware base) (eight_bytes a b c d e g h i)
    · rw [read_of_kind_hello hkind, if_neg hlen]
    · rw [read_of_kind_cancel hkind, hpayment hlen, if_pos ⟨hlen, hne⟩]
    · rw [read_of_kind_cancel hkind, if_neg]
      rintro ⟨hlen, hne⟩
      rw [hpayment hlen] at hne
      exact hbad.elim (fun hno => hno hlen) hne
    · rw [read_of_kind_ack hkind, if_pos hlen]
      rfl
    · rw [read_of_kind_ack hkind, if_neg hlen]
  case refuses =>
    intro emptied refused waits takes
    have htakes : ∀ i, takes i → ∃ names : LaneFrame → Bool, names f = true ∧
        (∀ identity firmware base, f.read ≠ .hello identity firmware base) ∧
          exec i s = .next (takeFrame l names s) := by
      rintro i (⟨rfl, hread⟩ | ⟨rfl, hread⟩ | ⟨rfl, hkind⟩ | ⟨rfl, hread⟩ | ⟨rfl, hread⟩)
      · exact ⟨_, decide_eq_true hread, by simp [hread], exec_of_running hp rfl rfl⟩
      · obtain ⟨_, _, hcard⟩ := (isCard_iff _).mp hread
        exact ⟨_, hread, by simp [hcard], exec_of_running hp rfl rfl⟩
      · exact ⟨_, decide_eq_true hkind, not_hello_of_kind (by rw [hkind]; decide),
          exec_of_running hp rfl rfl⟩
      · obtain ⟨_, hcancel⟩ := (isCancel_iff _).mp hread
        exact ⟨_, hread, by simp [hcancel], exec_of_running hp rfl rfl⟩
      · obtain ⟨_, hack⟩ := (isAck_iff _).mp hread
        exact ⟨_, hread, by simp [hack], exec_of_running hp rfl rfl⟩
    have hrefused : ∀ t reason, refused t reason = refuseFrame l reason f.sequence t := fun _ _ => rfl
    refine ⟨fun i hi hwait => ?_, fun i hi hgoes hmode => ?_, fun i hi hgoes hmode hkind hseq => ?_,
      fun hmode hkind hread => ?_, fun hgoes hturn hkind hread => ?_⟩
    · obtain ⟨names, hnames, _, hexec⟩ := htakes i hi
      rw [hexec, takeFrame_waits hslot hwait]
    · obtain ⟨names, hnames, hno, hexec⟩ := htakes i hi
      rw [hexec, takeFrame_down hslot hnames hgoes hmode, dispatchDown_refuses hno]
      rfl
    · obtain ⟨names, hnames, _, hexec⟩ := htakes i hi
      rw [hexec, takeFrame_ready hslot hnames hgoes hmode, dispatchReady_out_of_sequence hkind hseq]
      rfl
    · have hgoes : ¬ (f.kind = 2 ∧ s.supply.state = .low) := by
        rw [hkind]; exact fun h => absurd h.1 (by decide)
      refine exec_of_running hp rfl ?_
      rw [takeFrame_ready hslot (decide_eq_true hread) hgoes hmode, dispatchReady_bad_hello hkind hread]
      rfl
    · refine exec_of_running hp rfl ?_
      rw [takeFrame_inTurn hturn (decide_eq_true hread) hgoes hkind]
      simp only [dispatchInTurn, hread]
      rfl

end Sys2Proof.Proofs
end


section
/-! PROOFS. Cards, cancels and acknowledgements (Chapters 2 and 8): how a CARD is read, and what a frame in
its turn does to the engaged record. -/

namespace Sys2Proof.Machine

/-! ## How a CARD is read (R137, R185) -/

theorem entryOf_eq (b : Byte) :
    Machine.entryOf b =
      if 1 ≤ b.toNat ∧ b.toNat ≤ 4 then
        [EntryMethod.tap, .dip, .swipe, .keyed][b.toNat - 1]?
      else none := by
  revert b; decide

theorem verifyOf_eq (b : Byte) :
    verifyOf b = [VerifyMethod.none, .signature, .chipPin, .device][b.toNat]? := by
  revert b; decide

/-- A digit place of bytes, two to a byte and the first in the upper half (R137). -/
def placeOf (bytes : List Byte) (i : Nat) : Nibble :=
  BitVec.ofNat 4
    (if i % 2 = 0 then (bytes.getD (i / 2) 0).toNat / 16 else (bytes.getD (i / 2) 0).toNat % 16)

theorem unpackPlaces_eq (bytes : List Byte) :
    unpackPlaces bytes = (List.range (2 * bytes.length)).map (placeOf bytes) := by
  induction bytes with
  | nil => rfl
  | cons b rest ih =>
    have htail : ∀ i, placeOf (b :: rest) (i + 1 + 1) = placeOf rest i := by
      intro i
      have hdiv : (i + 1 + 1) / 2 = i / 2 + 1 := by omega
      have hmod : (i + 1 + 1) % 2 = i % 2 := by omega
      simp only [placeOf, hdiv, hmod, List.getD_cons_succ]
    have hhead : [b.extractLsb' 4 4, b.extractLsb' 0 4] =
        [placeOf (b :: rest) 0, placeOf (b :: rest) 1] := places_of_byte b
    have hlen : 2 * (b :: rest).length = 2 * rest.length + 1 + 1 := by rw [List.length_cons]; ring
    rw [hlen, List.range_succ_eq_map, List.range_succ_eq_map]
    simp only [List.map_cons, List.map_map, Function.comp_def, Nat.succ_eq_add_one, htail]
    rw [← ih, unpackPlaces, List.flatMap_cons, hhead]
    rfl

theorem digitsOf_eq {body : List Byte} (h : 14 ≤ body.length) :
    digitsOf body =
      (List.range (min (byteAt body 3).toNat 20)).map fun i => placeOf (body.drop 4) i := by
  have hten : ((body.drop 4).take 10).length = 10 := by
    rw [List.length_take, List.length_drop]; omega
  rw [digitsOf, unpackPlaces_eq, hten, ← List.map_take, List.take_range]
  refine List.map_congr_left fun i hi => ?_
  have hi20 : i / 2 < 10 := by
    have := List.mem_range.mp hi; omega
  have hget : ((body.drop 4).take 10).getD (i / 2) 0 = (body.drop 4).getD (i / 2) 0 := by
    simp only [List.getD_eq_getElem?_getD, List.getElem?_take, if_pos hi20]
  simp only [placeOf, hget]

/-- What makes a body of kind CARD well formed (R137). -/
def cardWellFormed (body : List Byte) : Prop :=
  body.length = 18 + (byteAt body 17).toNat ∧ paymentOf body ≠ 0 ∧ 1 ≤ (byteAt body 2).toNat ∧
    (byteAt body 2).toNat ≤ 4 ∧ (byteAt body 16).toNat ≤ 3 ∧ (byteAt body 14).toNat ≤ 99 ∧
    ∀ d ∈ digitsOf body, d.toNat ≤ 9

theorem readCard_of_wellFormed {body : List Byte} (h : cardWellFormed body) :
    ∃ entry verify,
      [EntryMethod.tap, .dip, .swipe, .keyed][(byteAt body 2).toNat - 1]? = some entry ∧
      [VerifyMethod.none, .signature, .chipPin, .device][(byteAt body 16).toNat]? = some verify ∧
      readCard body =
        .card (paymentOf body)
          { entry := entry, numberLength := (byteAt body 3).toNat, digits := digitsOf body
            year := byteAt body 14, month := byteAt body 15, verify := verify
            chip := body.drop 18 } := by
  obtain ⟨hlen, hpayment, hlow, hhigh, hverify, hyear, hdigits⟩ := h
  have hentrySome : ∃ entry,
      [EntryMethod.tap, .dip, .swipe, .keyed][(byteAt body 2).toNat - 1]? = some entry :=
    ⟨_, List.getElem?_eq_getElem (by simp only [List.length_cons, List.length_nil]; omega)⟩
  have hverifySome : ∃ verify,
      [VerifyMethod.none, .signature, .chipPin, .device][(byteAt body 16).toNat]? = some verify :=
    ⟨_, List.getElem?_eq_getElem (by simp only [List.length_cons, List.length_nil]; omega)⟩
  obtain ⟨entry, hentry⟩ := hentrySome
  obtain ⟨verify, hverify⟩ := hverifySome
  have hparsedEntry : Machine.entryOf (byteAt body 2) = some entry := by
    rw [entryOf_eq, if_pos ⟨hlow, hhigh⟩, hentry]
  have hparsedVerify : verifyOf (byteAt body 16) = some verify := by rw [verifyOf_eq, hverify]
  have hplaces : (digitsOf body).any (fun d => decide (9 < d.toNat)) = false := by
    rw [List.any_eq_false]
    intro d hd
    simpa using hdigits d hd
  have hgood : ¬ (paymentOf body = 0 ∨ 99 < (byteAt body 14).toNat ∨
      (digitsOf body).any (fun d => decide (9 < d.toNat)) = true) := by
    rw [hplaces]
    rintro (hzero | habove | hno)
    · exact hpayment hzero
    · omega
    · cases hno
  refine ⟨entry, verify, hentry, hverify, ?_⟩
  rw [readCard, if_neg (not_not.mpr hlen)]
  simp only [hparsedEntry, hparsedVerify]
  exact if_neg hgood

theorem readCard_of_not_wellFormed {body : List Byte} (h : ¬ cardWellFormed body) :
    readCard body = .badlyFormed := by
  rw [readCard]
  split
  · rfl
  · next hlen =>
    split
    · next entry verify hentry hverify =>
      refine if_pos ?_
      by_contra hgood
      rw [not_or, not_or, Bool.not_eq_true, List.any_eq_false] at hgood
      obtain ⟨hpayment, hyear, hplaces⟩ := hgood
      rw [entryOf_eq] at hentry
      rw [verifyOf_eq] at hverify
      have hrange : 1 ≤ (byteAt body 2).toNat ∧ (byteAt body 2).toNat ≤ 4 := by
        by_contra hno
        rw [if_neg hno] at hentry
        cases hentry
      have hthree : (byteAt body 16).toNat < 4 := (List.getElem?_eq_some_iff.mp hverify).1
      exact h ⟨not_not.mp hlen, hpayment, hrange.1, hrange.2, by omega, by omega,
        fun d hd => by simpa using hplaces d hd⟩
    · rfl

theorem valid_iff (c : CardFields) :
    c.valid = true ↔
      12 ≤ c.numberLength ∧ c.numberLength ≤ 19 ∧ 1 ≤ c.month.toNat ∧ c.month.toNat ≤ 12 ∧
        c.chip.length ≤ 96 := by
  simp [CardFields.valid, inRange, and_assoc]

/-! ## A CARD in its turn (R31 to R33, R146 to R148) -/

theorem failCapture_eq {s : State} {slot : Slot} {r : Record} (hr : s.recordAt slot = some r)
    (reason : EndReason) :
    s.failCapture slot reason =
      (s.withRecordAt slot
        { r with
          state := .failed, endReason := some reason, stateTimer := none
          ended := true }).queueClose slot .tryAgain := by
  rw [State.failCapture, modRecord_eq hr]

section
variable {s : State} {l : LaneId} {sequence : Byte} {payment : Nat} {c : CardFields} {h : Handle}
  {r : Record}

theorem takeCard_none (he : s.engaged? l = none) :
    takeCard l sequence payment c s = refuseCounted l .notArmed sequence s := by
  simp only [takeCard, he]

variable (he : s.engaged? l = some (slotOf h, r))
include he

theorem takeCard_not_armed (hst : r.state ≠ .armed) :
    takeCard l sequence payment c s = refuseCounted l .notArmed sequence s := by
  simp only [takeCard, he]
  exact if_pos hst

variable (hst : r.state = .armed)
include hst

theorem takeCard_wrong_payment (hp : r.payment ≠ payment) :
    takeCard l sequence payment c s = refuseCounted l .wrongPayment sequence s := by
  simp only [takeCard, he]
  exact (if_neg (not_not.mpr hst)).trans (if_pos hp)

variable (hp : r.payment = payment)
include hp

theorem takeCard_invalid (hv : ¬ c.valid = true) :
    takeCard l sequence payment c s =
      (refuseFrame l .badCard sequence s).failCapture (slotOf h) .badCard := by
  simp only [takeCard, he]
  exact (if_neg (not_not.mpr hst)).trans ((if_neg (not_not.mpr hp)).trans (if_neg hv))

theorem takeCard_valid (hv : c.valid = true) :
    takeCard l sequence payment c s = acceptCapture (slotOf h) r c.summary c.block s := by
  simp only [takeCard, he]
  exact (if_neg (not_not.mpr hst)).trans ((if_neg (not_not.mpr hp)).trans (if_pos hv))

end

section
variable {s : State} {slot : Slot} {r : Record} {summary : CardSummary} {card : CardBlock} {a : Fin 4}
  {m : KeyMaterial} (ha : s.entryIn .active = some a) (hm : (s.entry a).material = some m)
include ha hm

theorem acceptCapture_spent (htake : s.takeCounter m.generation r.lane s.captureLimit = none) :
    acceptCapture slot r summary card s = s.failCapture slot .keySpent := by
  simp only [acceptCapture, ha, hm, htake]

theorem acceptCapture_taken {k : Nat} {s' : State}
    (htake : s.takeCounter m.generation r.lane s.captureLimit = some (k, s')) :
    acceptCapture slot r summary card s =
      ((((s'.bindEntry a).modRecord slot
          (Record.capture { generation := m.generation, counter := k } summary card)).placeJob
        (.capture (s.handleOf slot) r.lane m.generation k)).offer r.lane (.taken r.payment)) := by
  simp only [acceptCapture, ha, hm, htake]

end

/-! ## CANCEL and ACK in their turn (R40, R46, R149, R150) -/

section
variable {s : State} {l : LaneId} {sequence : Byte} {payment : Nat}

theorem takeCancel_none (he : s.engaged? l = none) : takeCancel l sequence payment s = s := by
  simp only [takeCancel, he]

variable {slot : Slot} {r : Record} (he : s.engaged? l = some (slot, r))
include he

theorem takeCancel_other_payment (hp : r.payment ≠ payment) : takeCancel l sequence payment s = s := by
  simp only [takeCancel, he]
  exact if_neg hp

variable (hp : r.payment = payment)
include hp

theorem takeCancel_cancels {t : State} (hc : cancellation .reader slot r s = some t) :
    takeCancel l sequence payment s = t := by
  simp only [takeCancel, he, hc, hp, if_true]

theorem takeCancel_too_late (hc : cancellation .reader slot r s = none) :
    takeCancel l sequence payment s = refuseFrame l .tooLate sequence s := by
  simp only [takeCancel, he, hc, hp, if_true]

end

theorem takeAck_matched {s : State} {l : LaneId} {a : Byte} {slot : Slot} {r : Record}
    (he : s.engaged? l = some (slot, r)) (hv : r.delivery.value = .sent)
    (hq : r.delivery.sequence = some a) :
    takeAck l a s = (s.modRecord slot Record.acked).endEngagement l := by
  have hslot : ackedSlot l a s = some slot := by
    simp only [ackedSlot, he]
    exact if_pos ⟨hv, hq⟩
  simp only [takeAck, hslot]

theorem ackedSlot_eq_none {s : State} {l : LaneId} {a : Byte}
    (h : ∀ h r, (s.book l).engaged = some h → s.current? h = some r →
      ¬ (r.delivery.value = .sent ∧ r.delivery.sequence = some a)) : ackedSlot l a s = none := by
  cases he : (s.book l).engaged with
  | none => simp only [ackedSlot, engaged_of_none he]
  | some x =>
    cases hr : s.current? x with
    | none => simp [ackedSlot, State.engaged?, he, hr]
    | some r =>
      simp only [ackedSlot, engaged_of_current he hr]
      exact if_neg (h x r he hr)

theorem takeAck_expired {s : State} {l : LaneId} {a : Byte} (h : ackedSlot l a s = none)
    (he : (s.book l).expired = some a) :
    takeAck l a s = s.modBook l fun b => { b with expired := none } := by
  simp only [takeAck, h, he, if_true]

theorem takeAck_unexpected {s : State} {l : LaneId} {a : Byte} (h : ackedSlot l a s = none)
    (he : (s.book l).expired ≠ some a) : takeAck l a s = s.reportError l .order := by
  simp only [takeAck, h, if_neg he]

end Sys2Proof.Machine

/-! ## The obligations -/

namespace Sys2Proof.Proofs

open Sys2Proof.Machine

/-- Settles O52: how a CARD is read, and a CARD in its turn by the engaged record and the counter. -/
theorem cardIsCaptured : Obligations.CardIsCaptured := by
  unfold Obligations.CardIsCaptured
  refine ⟨fun f hkind => ?reads, fun s l f payment c i hturn hread hn hi => ?takes⟩
  case reads =>
    intro byte payment place examined wellFormed
    have hiff : cardWellFormed f.body ↔ wellFormed := by
      refine and_congr_right fun hlen => ?_
      have hlong : 18 ≤ f.body.length := by omega
      have hpayment : paymentOf f.body = payment := paymentOf_eq (by omega)
      have hdigits : (∀ d ∈ digitsOf f.body, d.toNat ≤ 9) ↔ ∀ i, i < examined → (place i).toNat ≤ 9 := by
        have hplace : ∀ i, placeOf (f.body.drop 4) i = place i := by
          intro i
          simp [placeOf, place, byte, List.getD_eq_getElem?_getD, List.getElem?_drop]
        rw [digitsOf_eq (by omega)]
        simp only [List.forall_mem_map, List.mem_range, hplace]
        rfl
      rw [hpayment, hdigits]
      rfl
    rw [read_of_kind_card hkind]
    refine ⟨fun hbad => readCard_of_not_wellFormed (mt hiff.mp hbad), fun hgood => ?_⟩
    have hlong : 18 ≤ f.body.length := by
      have := hgood.1; omega
    obtain ⟨entry, verify, hentry, hverify, hcard⟩ := readCard_of_wellFormed (hiff.mpr hgood)
    refine ⟨entry, verify, hentry, hverify, hcard.trans ?_⟩
    have hplace : ∀ i, placeOf (f.body.drop 4) i = place i := by
      intro i
      simp [placeOf, place, byte, List.getD_eq_getElem?_getD, List.getElem?_drop]
    rw [digitsOf_eq (by omega), paymentOf_eq (by omega)]
    simp only [hplace]
    rfl
  case takes =>
    intro s1 refused valid
    obtain ⟨hp, hmode, hslot, hseq⟩ := id hturn
    have hkind : f.kind = 2 := kind_of_card hread
    have hnot : f.kind ≠ 1 := by rw [hkind]; decide
    have hgoes : ¬ (f.kind = 2 ∧ s.supply.state = .low) := by
      rw [hn]; exact fun h => nomatch h.2
    have hexec : exec i s = .next (takeCard l f.sequence payment c s1) := by
      have hturned : ∀ names : LaneFrame → Bool, names f = true →
          takeFrame l names s = takeCard l f.sequence payment c s1 := fun names hnames => by
        rw [takeFrame_inTurn hturn hnames hgoes hnot]
        simp only [dispatchInTurn, hread]
        rfl
      rcases hi with rfl | rfl
      · exact exec_of_running hp rfl (hturned _ ((isCard_iff _).mpr ⟨_, _, hread⟩))
      · exact exec_of_running hp rfl (hturned _ (decide_eq_true hkind))
    refine ⟨fun he => ?none, fun h r he hr => ?engaged⟩
    case none =>
      rw [hexec, takeCard_none (engaged_of_none (s := s1) he)]
      rfl
    case engaged =>
      intro slot failed
      have hengaged : s1.engaged? l = some (slotOf h, r) := engaged_of_current (s := s1) he hr
      have hat : s1.recordAt slot = some r := State.recordAt_of_current (s := s1) hr
      refine ⟨fun hst => ?notArmed, fun hst hpay => ?wrongPayment, fun hst hpay hv => ?invalid,
        fun a m hst hpay hv ha hm => ?valid⟩
      case notArmed => rw [hexec, takeCard_not_armed hengaged hst]; rfl
      case wrongPayment => rw [hexec, takeCard_wrong_payment hengaged hst hpay]; rfl
      case invalid =>
        rw [hexec, takeCard_invalid hengaged hst hpay (mt (valid_iff c).mp hv)]
        exact congrArg _ (failCapture_eq (s := refuseFrame l .badCard f.sequence s1) hat .badCard)
      case valid =>
        intro limit
        have haccept := takeCard_valid (sequence := f.sequence) hengaged hst hpay ((valid_iff c).mpr hv)
        refine ⟨fun htake => ?_, fun k s' htake => ?_⟩
        · rw [hexec, haccept, acceptCapture_spent (s := s1) ha hm htake]
          exact congrArg _ (failCapture_eq hat .keySpent)
        · intro bound captured
          have hat' : bound.recordAt slot = some r := (takeCounter_recordAt htake slot).trans hat
          have hhandle : s1.handleOf slot = h := handleOf_of_current (s := s1) hr
          rw [hexec, haccept, acceptCapture_taken (s := s1) ha hm htake]
          change Host.Outcome.next (((bound.modRecord slot _).placeJob
            (.capture (s1.handleOf slot) r.lane m.generation k)).offer r.lane (.taken r.payment)) = _
          rw [modRecord_eq hat', hhandle]
          rfl

/-- Settles O53: a CANCEL by the engaged record's state, an ACK by what it names. -/
theorem cancelAndAckActOnTheEngagedRecord : Obligations.CancelAndAckActOnTheEngagedRecord := by
  unfold Obligations.CancelAndAckActOnTheEngagedRecord
  refine ⟨fun s l f payment hturn hread => ?cancels, fun s l f a hturn hread => ?acks⟩
  case cancels =>
    intro s1
    have hkind : f.kind = 3 := kind_of_cancel hread
    have hgoes : ¬ (f.kind = 2 ∧ s.supply.state = .low) := by
      rw [hkind]; exact fun h => absurd h.1 (by decide)
    have hexec : exec (.readerCancel l) s = .next (takeCancel l f.sequence payment s1) := by
      refine exec_of_running hturn.1 rfl ?_
      rw [takeFrame_inTurn hturn ((isCancel_iff _).mpr ⟨_, hread⟩) hgoes (by rw [hkind]; decide)]
      simp only [dispatchInTurn, hread]
      rfl
    refine ⟨fun he => by rw [hexec, takeCancel_none (engaged_of_none (s := s1) he)],
      fun h r he hr => ?_⟩
    intro slot cancelled queued
    have hengaged : s1.engaged? l = some (slot, r) := engaged_of_current (s := s1) he hr
    have hat : s1.recordAt slot = some r := State.recordAt_of_current (s := s1) hr
    have hhandle : s1.handleOf slot = h := handleOf_of_current (s := s1) hr
    have hcancel : r.cancel .reader = cancelled := by
      simp only [Record.cancel, CancelReason.endReason, decide_true, Bool.or_true, cancelled]
    refine ⟨fun hp => by rw [hexec, takeCancel_other_payment hengaged hp], fun hp hst => ?standing,
      fun hp hst hn hq => ?queued, fun hp hst hn hq => ?served, fun hp hst hn => ?pending,
      fun hp hst => ?tooLate⟩
    case standing =>
      rw [hexec, takeCancel_cancels hengaged hp (cancellation_standing hst .reader slot s1),
        cancelNow_eq hat, hcancel]
      rfl
    case queued =>
      have hqueue : s1.engine.queue.any (Job.isCaptureOf (s1.handleOf slot)) = true := by
        rw [hhandle]; exact hq
      have hat' : (s1.withdrawCapture h).recordAt slot = some r := hat
      rw [hexec, takeCancel_cancels hengaged hp (cancellation_capturing hst hn .reader slot s1),
        cancelCapturing_queued _ hqueue, hhandle, cancelNow_eq hat', hcancel]
      rfl
    case served =>
      have hqueue : s1.engine.queue.any (Job.isCaptureOf (s1.handleOf slot)) = false := by
        rw [hhandle]; exact hq
      rw [hexec, takeCancel_cancels hengaged hp (cancellation_capturing hst hn .reader slot s1),
        cancelCapturing_served _ hqueue, modRecord_eq hat]
    case pending =>
      obtain ⟨why, hwhy⟩ := Option.ne_none_iff_exists'.mp hn
      rw [hexec, takeCancel_cancels hengaged hp (cancellation_pending hst hwhy .reader slot s1)]
    case tooLate =>
      have hno : ∀ st : PaymentState, st = .released ∨ st.isEngaging = false →
          st ≠ .armed ∧ st ≠ .capturing ∧ st ≠ .wrapped := by
        intro st; cases st <;> decide
      obtain ⟨ha, hc, hw⟩ := hno r.state hst
      rw [hexec, takeCancel_too_late hengaged hp (cancellation_too_late ha hc hw .reader slot s1)]
      rfl
  case acks =>
    intro s1 matched
    have hkind : f.kind = 4 := kind_of_ack hread
    have hgoes : ¬ (f.kind = 2 ∧ s.supply.state = .low) := by
      rw [hkind]; exact fun h => absurd h.1 (by decide)
    have hexec : exec (.readerAck l) s = .next (takeAck l a s1) := by
      refine exec_of_running hturn.1 rfl ?_
      rw [takeFrame_inTurn hturn ((isAck_iff _).mpr ⟨_, hread⟩) hgoes (by rw [hkind]; decide)]
      simp only [dispatchInTurn, hread]
      rfl
    refine ⟨fun h r he hr hmatched => ?_, fun hno => ?_⟩
    · have hengaged : s1.engaged? l = some (slotOf h, r) := engaged_of_current (s := s1) he hr
      have hat : s1.recordAt (slotOf h) = some r := State.recordAt_of_current (s := s1) hr
      rw [hexec, takeAck_matched hengaged hmatched.1 hmatched.2, modRecord_eq hat]
      rfl
    · have hnone : ackedSlot l a s1 = none := ackedSlot_eq_none (s := s1) hno
      exact ⟨fun he => by rw [hexec, takeAck_expired hnone he],
        fun he => by rw [hexec, takeAck_unexpected hnone he]⟩

end Sys2Proof.Proofs
end


section
/-! PROOFS. Erasure (R105, R115, R165 to R167): what it leaves of the engine, the keys, the records, the
books, the lanes and the port. -/

namespace Sys2Proof.Machine

/-! ## An end frame queued, record by record (R44) -/

/-- A record once its end frame is queued on a lane in a given state (R44). -/
def Record.framed (mode : LaneMode) (kind : EndFrameKind) (r : Record) : Record :=
  if r.delivery.value = .none then
    { r with delivery :=
      { value := if mode = .ready then .queued else .unconfirmed, kind := some kind, sequence := none } }
  else r

theorem framed_of_ready {r : Record} (h : r.delivery.value = .none) (kind : EndFrameKind) :
    r.framed .ready kind =
      { r with delivery := { value := .queued, kind := some kind, sequence := none } } := by
  rw [Record.framed, if_pos h]; rfl

theorem framed_of_not_ready {r : Record} {mode : LaneMode} (h : r.delivery.value = .none)
    (hm : mode ≠ .ready) (kind : EndFrameKind) :
    r.framed mode kind =
      { r with delivery := { value := .unconfirmed, kind := some kind, sequence := none } } := by
  rw [Record.framed, if_pos h, if_neg hm]

theorem framed_again {r : Record} (h : r.delivery.value ≠ .none) (mode : LaneMode) (kind : EndFrameKind) :
    r.framed mode kind = r := if_neg h

theorem framed_twice (r : Record) (mode mode' : LaneMode) (kind kind' : EndFrameKind) :
    (r.framed mode kind).framed mode' kind' = r.framed mode kind := by
  by_cases h : r.delivery.value = .none
  · refine framed_again ?_ ..
    rw [Record.framed, if_pos h]
    dsimp only
    split <;> decide
  · rw [framed_again h, framed_again h]

/-- A framed record differs in its delivery alone. -/
theorem framed_eq (r : Record) (mode : LaneMode) (kind : EndFrameKind) :
    r.framed mode kind = { r with delivery := (r.framed mode kind).delivery } := by
  rw [Record.framed]
  split <;> rfl

@[simp] theorem lane_framed (r : Record) (mode : LaneMode) (kind : EndFrameKind) :
    (r.framed mode kind).lane = r.lane := by rw [framed_eq]

section
variable (s : State) (slot : Slot) (kind : EndFrameKind) (frame : Record → PartFrame)

theorem queueEndFrame_free {s : State} {slot : Slot} (h : s.recordAt slot = none) :
    s.queueEndFrame slot kind frame = s := by
  simp only [State.queueEndFrame, h]

theorem recordAt_queueEndFrame (x : Slot) :
    (s.queueEndFrame slot kind frame).recordAt x =
      if x = slot then (s.recordAt slot).map fun r => r.framed (s.lane r.lane).mode kind
      else s.recordAt x := by
  cases hr : s.recordAt slot with
  | none =>
    rw [queueEndFrame_free kind frame hr]
    split
    · next hx => rw [hx, hr]; rfl
    · rfl
  | some r =>
    rw [Option.map_some]
    by_cases hd : r.delivery.value = .none
    · by_cases hm : (s.lane r.lane).mode = .ready
      · rw [queueEndFrame_ready hr hd hm, recordAt_withRecordAt, hm, framed_of_ready hd]
        rfl
      · rw [queueEndFrame_not_ready hr hd hm, recordAt_withRecordAt, framed_of_not_ready hd hm]
        rfl
    · rw [queueEndFrame_again hr hd, framed_again hd]
      split
      · next hx => rw [hx, hr]
      · rfl

@[simp] theorem tag_queueEndFrame (x : Slot) :
    ((s.queueEndFrame slot kind frame).cell x).tag = (s.cell x).tag := by
  unfold State.queueEndFrame
  split
  · rfl
  · split
    · rfl
    · split
      · exact State.tag_modRecord ..
      · exact State.tag_modRecord ..

/-- The lane an end frame goes to: its record's, when it has queued none before and the lane is READY. -/
def State.framesOn (s : State) (slot : Slot) (l : LaneId) : Prop :=
  ∃ r, s.recordAt slot = some r ∧ r.delivery.value = .none ∧ r.lane = l

theorem book_queueEndFrame_kept (l : LaneId)
    (h : ¬ (s.framesOn slot l ∧ (s.lane l).mode ≠ .ready)) :
    (s.queueEndFrame slot kind frame).book l = s.book l := by
  cases hr : s.recordAt slot with
  | none => rw [queueEndFrame_free kind frame hr]
  | some r =>
    by_cases hd : r.delivery.value = .none
    · by_cases hm : (s.lane r.lane).mode = .ready
      · rw [queueEndFrame_ready hr hd hm]; rfl
      · have hne : l ≠ r.lane := by
          rintro rfl
          exact h ⟨⟨r, hr, hd, rfl⟩, hm⟩
        rw [queueEndFrame_not_ready hr hd hm, book_withRecordAt, State.book_endEngagement, if_neg hne]
    · rw [queueEndFrame_again hr hd]

theorem book_queueEndFrame_ended (l : LaneId) (h : s.framesOn slot l) (hm : (s.lane l).mode ≠ .ready) :
    (s.queueEndFrame slot kind frame).book l = { s.book l with engaged := none } := by
  obtain ⟨r, hr, hd, rfl⟩ := h
  rw [queueEndFrame_not_ready hr hd hm, book_withRecordAt, State.book_endEngagement, if_pos rfl]

theorem book_queueEndFrame (l : LaneId) :
    (s.queueEndFrame slot kind frame).book l =
      { s.book l with engaged := ((s.queueEndFrame slot kind frame).book l).engaged } := by
  by_cases h : s.framesOn slot l ∧ (s.lane l).mode ≠ .ready
  · rw [book_queueEndFrame_ended _ _ _ _ _ h.1 h.2]
  · rw [book_queueEndFrame_kept _ _ _ _ _ h]

theorem lane_queueEndFrame_kept (l : LaneId)
    (h : ¬ (s.framesOn slot l ∧ (s.lane l).mode = .ready)) :
    (s.queueEndFrame slot kind frame).lane l = s.lane l := by
  cases hr : s.recordAt slot with
  | none => rw [queueEndFrame_free kind frame hr]
  | some r =>
    by_cases hd : r.delivery.value = .none
    · by_cases hm : (s.lane r.lane).mode = .ready
      · have hne : l ≠ r.lane := by
          rintro rfl
          exact h ⟨⟨r, hr, hd, rfl⟩, hm⟩
        rw [queueEndFrame_ready hr hd hm, lane_withRecordAt, State.lane_offer, if_neg hne]
      · rw [queueEndFrame_not_ready hr hd hm]; rfl
    · rw [queueEndFrame_again hr hd]

theorem lane_queueEndFrame_offered {r : Record} (hr : s.recordAt slot = some r)
    (hd : r.delivery.value = .none) (hm : (s.lane r.lane).mode = .ready) :
    (s.queueEndFrame slot kind frame).lane r.lane = (s.lane r.lane).offer (frame r) := by
  rw [queueEndFrame_ready hr hd hm, lane_withRecordAt, State.lane_offer, if_pos rfl]

@[simp] theorem mode_offer (L : Lane) (f : PartFrame) : (L.offer f).mode = L.mode := by
  rw [Lane.offer]; split <;> rfl

@[simp] theorem mode_queueEndFrame (l : LaneId) :
    ((s.queueEndFrame slot kind frame).lane l).mode = (s.lane l).mode := by
  by_cases h : s.framesOn slot l ∧ (s.lane l).mode = .ready
  · obtain ⟨⟨r, hr, hd, rfl⟩, hm⟩ := h
    rw [lane_queueEndFrame_offered _ _ _ _ hr hd hm, mode_offer]
  · rw [lane_queueEndFrame_kept _ _ _ _ _ h]

theorem table_queueEndFrame :
    (s.queueEndFrame slot kind frame).table =
      { s.table with
        slots := (s.queueEndFrame slot kind frame).table.slots
        books := (s.queueEndFrame slot kind frame).table.books } := by
  unfold State.queueEndFrame
  split
  · rfl
  · split
    · rfl
    · split <;> rfl

end

/-! ## The CLOSE frames of an erasure (R166) -/

/-- A CLOSE TRY_AGAIN queued for the record of each slot of a list (R166). -/
def State.closeAll (s : State) (slots : List Slot) : State :=
  slots.foldl (fun t slot => t.queueClose slot .tryAgain) s

theorem closeAll_cons (s : State) (slot : Slot) (rest : List Slot) :
    s.closeAll (slot :: rest) = (s.queueClose slot .tryAgain).closeAll rest := rfl

@[simp] theorem tag_closeAll (slots : List Slot) (s : State) (x : Slot) :
    ((s.closeAll slots).cell x).tag = (s.cell x).tag := by
  induction slots generalizing s with
  | nil => rfl
  | cons slot rest ih => rw [closeAll_cons, ih]; exact tag_queueEndFrame ..

@[simp] theorem mode_closeAll (slots : List Slot) (s : State) (l : LaneId) :
    ((s.closeAll slots).lane l).mode = (s.lane l).mode := by
  induction slots generalizing s with
  | nil => rfl
  | cons slot rest ih => rw [closeAll_cons, ih]; exact mode_queueEndFrame ..

theorem recordAt_closeAll (slots : List Slot) (s : State) (x : Slot) :
    (s.closeAll slots).recordAt x =
      if x ∈ slots then (s.recordAt x).map fun r => r.framed (s.lane r.lane).mode .close
      else s.recordAt x := by
  induction slots generalizing s with
  | nil => rfl
  | cons slot rest ih =>
    rw [closeAll_cons, ih]
    simp only [State.queueClose, mode_queueEndFrame, recordAt_queueEndFrame, List.mem_cons]
    by_cases hx : x = slot
    · subst hx
      simp only [if_true, true_or, Option.map_map]
      split
      · refine congrArg (Option.map · _) (funext fun r => ?_)
        exact framed_twice ..
      · rfl
    · simp only [if_false, hx, false_or]

theorem closeAll_frame (slots : List Slot) (s : State) :
    s.closeAll slots =
      { s with
        table :=
          { s.table with
            slots := (s.closeAll slots).table.slots, books := (s.closeAll slots).table.books }
        lanes := (s.closeAll slots).lanes } := by
  induction slots generalizing s with
  | nil => rfl
  | cons slot rest ih =>
    rw [closeAll_cons, ih, State.queueClose, queueEndFrame_frame, table_queueEndFrame]

theorem book_closeAll (slots : List Slot) (s : State) (l : LaneId) :
    (s.closeAll slots).book l = { s.book l with engaged := ((s.closeAll slots).book l).engaged } := by
  induction slots generalizing s with
  | nil => rfl
  | cons slot rest ih =>
    rw [closeAll_cons, ih, State.queueClose, book_queueEndFrame]

/-- An engagement once ended stays so. -/
theorem engaged_closeAll_none {l : LaneId} (slots : List Slot) (s : State)
    (h : (s.book l).engaged = none) : ((s.closeAll slots).book l).engaged = none := by
  induction slots generalizing s with
  | nil => exact h
  | cons slot rest ih =>
    rw [closeAll_cons]
    refine ih _ ?_
    by_cases hf : s.framesOn slot l ∧ (s.lane l).mode ≠ .ready
    · rw [State.queueClose, book_queueEndFrame_ended _ _ _ _ _ hf.1 hf.2]
    · rw [State.queueClose, book_queueEndFrame_kept _ _ _ _ _ hf, h]

/-- The record of one slot is framed only by that slot. -/
theorem framesOn_queueEndFrame {s : State} {slot x : Slot} {l : LaneId} {kind : EndFrameKind}
    {frame : Record → PartFrame} (h : (s.queueEndFrame slot kind frame).framesOn x l) : s.framesOn x l := by
  obtain ⟨q, hq, hd, hl⟩ := h
  rw [recordAt_queueEndFrame] at hq
  split at hq
  · next hx =>
    subst hx
    cases hr : s.recordAt x with
    | none => rw [hr] at hq; cases hq
    | some r =>
      rw [hr] at hq
      cases hq
      refine ⟨r, hr, ?_, by rw [← hl, lane_framed]⟩
      by_contra hne
      change (r.framed _ kind).delivery.value = .none at hd
      rw [framed_again hne] at hd
      exact hne hd
  · exact ⟨q, hq, hd, hl⟩

theorem not_framesOn_self {s : State} {slot : Slot} {l : LaneId} {kind : EndFrameKind}
    {frame : Record → PartFrame} : ¬ (s.queueEndFrame slot kind frame).framesOn slot l := by
  rintro ⟨q, hq, hd, _⟩
  rw [recordAt_queueEndFrame, if_pos rfl] at hq
  cases hr : s.recordAt slot with
  | none => rw [hr] at hq; cases hq
  | some r =>
    rw [hr] at hq
    cases hq
    change (r.framed _ kind).delivery.value = .none at hd
    rw [Record.framed] at hd
    split at hd
    · dsimp only at hd
      split at hd <;> cases hd
    · next hno => exact hno hd

theorem engaged_closeAll_ended {l : LaneId} (slots : List Slot) (s : State) {slot : Slot}
    (hmem : slot ∈ slots) (hf : s.framesOn slot l) (hm : (s.lane l).mode ≠ .ready) :
    ((s.closeAll slots).book l).engaged = none := by
  induction slots generalizing s with
  | nil => cases hmem
  | cons x rest ih =>
    rw [closeAll_cons]
    by_cases hx : s.framesOn x l
    · refine engaged_closeAll_none rest _ ?_
      rw [State.queueClose, book_queueEndFrame_ended _ _ _ _ _ hx hm]
    · have hne : slot ≠ x := by rintro rfl; exact hx hf
      obtain ⟨r, hr, hd, hl⟩ := hf
      refine ih _ ((List.mem_cons.mp hmem).resolve_left hne) ⟨r, ?_, hd, hl⟩ ?_
      · rw [State.queueClose, recordAt_queueEndFrame, if_neg hne, hr]
      · rw [State.queueClose, mode_queueEndFrame]; exact hm

theorem engaged_closeAll_kept {l : LaneId} (slots : List Slot) (s : State)
    (h : ∀ slot ∈ slots, ¬ (s.framesOn slot l ∧ (s.lane l).mode ≠ .ready)) :
    ((s.closeAll slots).book l).engaged = (s.book l).engaged := by
  induction slots generalizing s with
  | nil => rfl
  | cons x rest ih =>
    have hkept := book_queueEndFrame_kept s x .close (fun r => .close r.payment .tryAgain) l
      (h x (List.mem_cons_self ..))
    rw [closeAll_cons, ih, State.queueClose, hkept]
    intro slot hslot ⟨hf, hm⟩
    rw [State.queueClose, mode_queueEndFrame] at hm
    exact h slot (List.mem_cons_of_mem _ hslot) ⟨framesOn_queueEndFrame hf, hm⟩

theorem lane_closeAll_kept {l : LaneId} (slots : List Slot) (s : State)
    (h : ∀ slot ∈ slots, ¬ (s.framesOn slot l ∧ (s.lane l).mode = .ready)) :
    (s.closeAll slots).lane l = s.lane l := by
  induction slots generalizing s with
  | nil => rfl
  | cons x rest ih =>
    rw [closeAll_cons, ih, State.queueClose, lane_queueEndFrame_kept _ _ _ _ _ (h x (List.mem_cons_self ..))]
    intro slot hslot ⟨hf, hm⟩
    rw [State.queueClose, mode_queueEndFrame] at hm
    exact h slot (List.mem_cons_of_mem _ hslot) ⟨framesOn_queueEndFrame hf, hm⟩

/-- A lane with one record to close is offered one CLOSE. -/
theorem lane_closeAll_offered {slots : List Slot} {s : State} {slot : Slot} {r : Record}
    (hmem : slot ∈ slots) (hr : s.recordAt slot = some r) (hd : r.delivery.value = .none)
    (hm : (s.lane r.lane).mode = .ready) (hone : ∀ x ∈ slots, s.framesOn x r.lane → x = slot) :
    (s.closeAll slots).lane r.lane = (s.lane r.lane).offer (.close r.payment .tryAgain) := by
  induction slots generalizing s with
  | nil => cases hmem
  | cons x rest ih =>
    rw [closeAll_cons]
    by_cases hx : x = slot
    · subst hx
      rw [lane_closeAll_kept]
      · exact lane_queueEndFrame_offered _ _ _ _ hr hd hm
      · rintro y hy ⟨hf, _⟩
        have hyx := hone y (List.mem_cons_of_mem _ hy) (framesOn_queueEndFrame hf)
        subst hyx
        exact not_framesOn_self hf
    · have hkept : (s.queueClose x .tryAgain).lane r.lane = s.lane r.lane :=
        lane_queueEndFrame_kept _ _ _ _ _ fun hf => hx (hone x (List.mem_cons_self ..) hf.1)
      have hat : (s.queueClose x .tryAgain).recordAt slot = some r := by
        rw [State.queueClose, recordAt_queueEndFrame, if_neg (Ne.symm hx), hr]
      rw [ih ((List.mem_cons.mp hmem).resolve_left (Ne.symm hx)) hat (by rw [hkept]; exact hm)
        fun y hy hf => hone y (List.mem_cons_of_mem _ hy) (framesOn_queueEndFrame hf), hkept]

/-! ## Erasure, stage by stage -/

/-- A state at erasure before the end frames: the engine, the key entries, the records and the WAITING set
(R105, R115, R166, R167). -/
def State.erasedBase (s : State) : State :=
  (({ s.eraseEngine with keys := { s.keys with entries := Vector.replicate 4 KeyEntry.vacant } } : State).mapRecords
    Record.erase).setWaiting []

/-- The slots whose records are ended by an erasure (R166). -/
def State.erasureEnds (s : State) : List Slot := (List.finRange 16).filterMap s.erasedSlot

/-- The state of an erasure before it answers a KEY LOAD in service. -/
def State.erasedClosed (s : State) : State :=
  { s.erasedBase.closeAll s.erasureEnds with
    lanes := mapAll Lane.erase (s.erasedBase.closeAll s.erasureEnds).lanes
    caseMon := { s.caseMon with erased := true } }

theorem caseMon_closeAll (slots : List Slot) (s : State) : (s.closeAll slots).caseMon = s.caseMon := by
  rw [closeAll_frame]

theorem erasure_eq (s : State) : erasure s = s.erasedClosed.respondHeld .keysLost [] := by
  have h := caseMon_closeAll s.erasureEnds s.erasedBase
  have hmon : s.erasedBase.caseMon = s.caseMon := rfl
  unfold State.erasedClosed
  rw [← hmon, ← h]
  rfl

theorem recordAt_erasedBase (s : State) (x : Slot) :
    s.erasedBase.recordAt x = (s.recordAt x).map Record.erase := by
  exact State.recordAt_mapRecords ..

theorem mem_erasureEnds {s : State} {x : Slot} :
    x ∈ s.erasureEnds ↔
      ∃ l r, s.engaged? l = some (x, r) ∧ (r.state = .armed ∨ r.state = .capturing) := by
  simp only [State.erasureEnds, List.mem_filterMap, List.mem_finRange, true_and, State.erasedSlot]
  refine exists_congr fun l => ?_
  cases he : s.engaged? l with
  | none => simp
  | some p =>
    obtain ⟨slot, r⟩ := p
    by_cases hs : r.state = .armed ∨ r.state = .capturing
    · simp only [if_pos hs, Option.some.injEq, Prod.mk.injEq]
      exact ⟨fun h => ⟨r, ⟨h, rfl⟩, hs⟩, fun ⟨_, h, _⟩ => h.1⟩
    · simp only [if_neg hs, Option.some.injEq, Prod.mk.injEq]
      refine ⟨fun h => (by cases h), fun ⟨q, ⟨_, hq⟩, h⟩ => absurd (hq ▸ h) hs⟩

/-! ### A record at erasure (R105, R166, R167) -/

/-- What every record loses at an erasure: its binding, its card block, its pending follow-ups. -/
def Record.stripped (r : Record) : Record :=
  { r with
    bound := false, card := none, followUps := r.followUps.map FollowUp.erase, late := r.late || r.busy }

theorem erase_armed {r : Record} (h : r.state = .armed) :
    r.erase =
      { r.stripped with
        state := .cancelled, endReason := some .keysLost, stateTimer := none, ended := true } := by
  simp only [Record.erase, h]; rfl

theorem erase_capturing {r : Record} (h : r.state = .capturing) :
    r.erase =
      { r.stripped with
        state := .failed, endReason := some .keysLost, cancelPending := none, ended := true } := by
  simp only [Record.erase, h]; rfl

theorem erase_other {r : Record} (ha : r.state ≠ .armed) (hc : r.state ≠ .capturing) :
    r.erase = r.stripped := by
  unfold Record.erase
  split
  · next h => exact absurd h ha
  · next h => exact absurd h hc
  all_goals rfl

/-- An erasure leaves a record's lane, payment number and delivery. -/
theorem delivery_erase (r : Record) :
    r.erase.delivery = r.delivery ∧ r.erase.lane = r.lane ∧ r.erase.payment = r.payment := by
  by_cases ha : r.state = .armed
  · rw [erase_armed ha]; exact ⟨rfl, rfl, rfl⟩
  · by_cases hc : r.state = .capturing
    · rw [erase_capturing hc]; exact ⟨rfl, rfl, rfl⟩
    · rw [erase_other ha hc]; exact ⟨rfl, rfl, rfl⟩

/-- A lane at erasure: emptied of a CARD (R167). -/
theorem lane_erase_card {L : Lane} {f : LaneFrame} (h : L.slot = some f) (hk : f.kind = 2) :
    L.erase = L.emptySlot := by
  simp only [Lane.erase, h, cardKind, hk, if_true]

theorem lane_erase_kept {L : Lane} (h : ∀ f, L.slot = some f → f.kind ≠ 2) : L.erase = L := by
  unfold Lane.erase
  split
  · next f hf => exact if_neg (h f hf)
  · rfl

theorem slot_erase (L : Lane) : L.erase.slot = L.slot.filter fun f => f.kind ≠ 2 := by
  cases hs : L.slot with
  | none => rw [lane_erase_kept (by simp [hs]), hs]; rfl
  | some f =>
    by_cases hk : f.kind = 2
    · rw [lane_erase_card hs hk]
      simp [Lane.emptySlot, Option.filter, hk]
    · have hkept : L.erase = L := by
        refine lane_erase_kept fun g hg => ?_
        cases hs.symm.trans hg
        exact hk
      rw [hkept, hs, Option.filter_some, if_pos (decide_eq_true hk)]

theorem lane_erase_eq (L : Lane) :
    L.erase = if ∃ f, L.slot = some f ∧ f.kind = 2 then L.emptySlot else L := by
  split
  · next h =>
    obtain ⟨f, hf, hk⟩ := h
    exact lane_erase_card hf hk
  · next h => exact lane_erase_kept fun f hf hk => h ⟨f, hf, hk⟩

/-! ### The state after an erasure -/

section
variable (s : State)

theorem recordAt_erasedClosed (x : Slot) :
    s.erasedClosed.recordAt x =
      (s.recordAt x).map fun r =>
        if x ∈ s.erasureEnds then r.erase.framed (s.lane r.lane).mode .close else r.erase := by
  have hlane : ∀ l, s.erasedBase.lane l = s.lane l := fun _ => rfl
  have h := recordAt_closeAll s.erasureEnds s.erasedBase x
  rw [recordAt_erasedBase] at h
  refine h.trans ?_
  cases s.recordAt x with
  | none => exact ite_self _
  | some r =>
    simp only [Option.map_some, hlane, (delivery_erase r).2.1]
    split <;> rfl

theorem lane_erasedClosed (l : LaneId) :
    s.erasedClosed.lane l = ((s.erasedBase.closeAll s.erasureEnds).lane l).erase :=
  look_mapAll ..

theorem slot_offer (L : Lane) (f : PartFrame) : (L.offer f).slot = L.slot := by
  rw [Lane.offer]; split <;> rfl

theorem slot_closeAll (slots : List Slot) (l : LaneId) :
    ((s.closeAll slots).lane l).slot = (s.lane l).slot := by
  induction slots generalizing s with
  | nil => rfl
  | cons x rest ih =>
    rw [closeAll_cons, ih, State.queueClose]
    by_cases hf : s.framesOn x l ∧ (s.lane l).mode = .ready
    · obtain ⟨⟨r, hr, hd, rfl⟩, hm⟩ := hf
      rw [lane_queueEndFrame_offered _ _ _ _ hr hd hm, slot_offer]
    · rw [lane_queueEndFrame_kept _ _ _ _ _ hf]

theorem erasure_frame :
    erasure s = { s.erasedClosed with port := (erasure s).port } := by
  rw [erasure_eq, respondHeld_frame]

theorem recordAt_erasure (x : Slot) : (erasure s).recordAt x = s.erasedClosed.recordAt x := by
  rw [erasure_frame]; rfl

theorem table_erasedClosed :
    s.erasedClosed.table =
      { s.table with
        slots := s.erasedClosed.table.slots, books := s.erasedClosed.table.books, waiting := [] } := by
  have h := congrArg State.table (closeAll_frame s.erasureEnds s.erasedBase)
  exact h

end

/-- An engaged record ended by an erasure is among the slots closed. -/
theorem mem_erasureEnds_of_engaged {s : State} {l : LaneId} {h : Handle} {r : Record}
    (he : (s.book l).engaged = some h) (hr : s.current? h = some r)
    (hs : r.state = .armed ∨ r.state = .capturing) : slotOf h ∈ s.erasureEnds :=
  mem_erasureEnds.mpr ⟨l, r, engaged_of_current he hr, hs⟩

theorem recordAt_of_engaged {s : State} {l : LaneId} {x : Slot} {r : Record}
    (he : s.engaged? l = some (x, r)) :
    ∃ h, (s.book l).engaged = some h ∧ s.current? h = some r ∧ slotOf h = x ∧ s.recordAt x = some r := by
  unfold State.engaged? at he
  split at he
  · cases he
  · next h hb =>
    cases hc : s.current? h with
    | none => rw [hc] at he; cases he
    | some q =>
      rw [hc] at he
      cases he
      exact ⟨h, hb, hc, rfl, State.recordAt_of_current hc⟩

/-- A closed slot holds an ARMED or CAPTURING record (R166). -/
theorem state_of_mem_erasureEnds {s : State} {x : Slot} {r : Record} (hx : x ∈ s.erasureEnds)
    (hr : s.recordAt x = some r) : r.state = .armed ∨ r.state = .capturing := by
  obtain ⟨l, q, he, hs⟩ := mem_erasureEnds.mp hx
  obtain ⟨_, _, _, _, hq⟩ := recordAt_of_engaged he
  cases hr.symm.trans hq
  exact hs

/-- Where the engagements hold, a slot closed on a lane holds that lane's engaged record. -/
theorem engaged_of_framesOn {s : State} (hg : s.engagementsHold) {x : Slot} {l : LaneId}
    (hx : x ∈ s.erasureEnds) (hf : s.erasedBase.framesOn x l) :
    ∃ r, s.engaged? l = some (x, r) ∧ (r.state = .armed ∨ r.state = .capturing) := by
  obtain ⟨l', r, he, hs⟩ := mem_erasureEnds.mp hx
  obtain ⟨h, hb, hc, _, hr⟩ := recordAt_of_engaged he
  obtain ⟨q, hq, _, hl⟩ := hf
  rw [recordAt_erasedBase, hr] at hq
  cases hq
  obtain ⟨r', hc', hl', _⟩ := hg.1 l' h hb
  cases hc.symm.trans hc'
  rw [(delivery_erase r).2.1, hl'] at hl
  subst hl
  exact ⟨r, he, hs⟩

section
variable {s : State} (hg : s.engagementsHold) (hw : s.recordsWellFormed) {l : LaneId}
include hg

theorem lane_erasure_offered (hw : s.recordsWellFormed) {h : Handle} {r : Record}
    (he : (s.book l).engaged = some h) (hr : s.current? h = some r)
    (hs : r.state = .armed ∨ r.state = .capturing) (hm : (s.lane l).mode = .ready) :
    (erasure s).lane l = ((s.lane l).offer (.close r.payment .tryAgain)).erase := by
  have hat := State.recordAt_of_current hr
  have hbase : s.erasedBase.recordAt (slotOf h) = some r.erase := by rw [recordAt_erasedBase, hat]; rfl
  obtain ⟨r', hr', hl, _⟩ := hg.1 l h he
  cases hr.symm.trans hr'
  obtain ⟨hdel, hlane, hpay⟩ := delivery_erase r
  have hd : r.erase.delivery.value = .none := by
    rw [hdel]
    exact (hw _ _ hat).engaging (by rcases hs with hs | hs <;> rw [hs] <;> rfl)
  have hl' : r.erase.lane = l := hlane.trans hl
  rw [erasure_frame]
  refine (lane_erasedClosed s l).trans ?_
  have hoff := lane_closeAll_offered (mem_erasureEnds_of_engaged he hr hs) hbase hd
    (by rw [hl']; exact hm) fun x hx hf => by
      rw [hl'] at hf
      obtain ⟨q, hq, _⟩ := engaged_of_framesOn hg hx hf
      cases (engaged_of_current he hr).symm.trans hq
      rfl
  rw [hl', hpay] at hoff
  rw [hoff]
  rfl

theorem lane_erasure_kept
    (hno : ∀ h r, (s.book l).engaged = some h → s.current? h = some r →
      r.state = .armed ∨ r.state = .capturing → (s.lane l).mode ≠ .ready) :
    (erasure s).lane l = (s.lane l).erase := by
  rw [erasure_frame]
  refine (lane_erasedClosed s l).trans ?_
  rw [lane_closeAll_kept]
  · rfl
  · rintro x hx ⟨hf, hm⟩
    obtain ⟨r, hr, hs⟩ := engaged_of_framesOn hg hx hf
    obtain ⟨h, hb, hc, _⟩ := recordAt_of_engaged hr
    exact hno h r hb hc hs hm

end

/-- The record of an erasure, with its delivery named. -/
def Record.erasedTo (r : Record) (d : Delivery) : Record :=
  { r with
    bound := false, card := none, delivery := d
    followUps := r.followUps.map fun f =>
      if f.status = .waiting ∨ f.status = .wrapping then { f with status := .failed } else f
    late := r.late || r.followUps.any fun f => decide (f.status = .waiting ∨ f.status = .wrapping) }

theorem stripped_eq (r : Record) : r.stripped = r.erasedTo r.delivery := by
  rw [Record.stripped, busy_eq]; rfl

/-- A record after an erasure is the erased one, framed where its slot is closed. -/
theorem recordAt_erasure_of {s : State} {x : Slot} {r : Record} (hr : s.recordAt x = some r) :
    (x ∈ s.erasureEnds → (erasure s).recordAt x = some (r.erase.framed (s.lane r.lane).mode .close)) ∧
      (x ∉ s.erasureEnds → (erasure s).recordAt x = some r.erase) := by
  rw [recordAt_erasure, recordAt_erasedClosed, hr, Option.map_some]
  exact ⟨fun h => by rw [if_pos h], fun h => by rw [if_neg h]⟩

/-- Where an erased record's delivery goes, the rest of the record stays. -/
theorem exists_recordAt_erasure {s : State} {x : Slot} {r : Record} (hr : s.recordAt x = some r) :
    ∃ d, (erasure s).recordAt x = some { r.erase with delivery := d } := by
  obtain ⟨hin, hout⟩ := recordAt_erasure_of hr
  by_cases hx : x ∈ s.erasureEnds
  · exact ⟨_, (hin hx).trans (congrArg some (framed_eq ..))⟩
  · exact ⟨_, hout hx⟩

/-- The delivery of a closed record (R44, R166). -/
theorem delivery_framed {r : Record} (hd : r.delivery.value = .none) (mode : LaneMode)
    (kind : EndFrameKind) :
    (r.framed mode kind).delivery.kind = some kind ∧
      (mode = .ready → (r.framed mode kind).delivery.value = .queued) ∧
      (mode ≠ .ready → (r.framed mode kind).delivery.value = .unconfirmed) := by
  refine ⟨by rw [Record.framed, if_pos hd], fun hm => ?_, fun hm => ?_⟩
  · rw [hm, framed_of_ready hd]
  · rw [framed_of_not_ready hd hm]

theorem engaged_erasure_ended {s : State} {x : Slot} {r : Record} (hx : x ∈ s.erasureEnds)
    (hr : s.recordAt x = some r) (hd : r.delivery.value = .none) (hm : (s.lane r.lane).mode ≠ .ready) :
    ((erasure s).book r.lane).engaged = none := by
  obtain ⟨hdel, hlane, _⟩ := delivery_erase r
  have hbase : s.erasedBase.recordAt x = some r.erase := by rw [recordAt_erasedBase, hr]; rfl
  rw [erasure_frame]
  exact engaged_closeAll_ended s.erasureEnds s.erasedBase hx ⟨r.erase, hbase, by rw [hdel]; exact hd, hlane⟩ hm

/-- An answer keeps the port but for the request in service. -/
theorem respondHeld_not_serving {s : State} (h : ∀ kind tag, s.port.state ≠ .serving kind tag)
    (status : Status) (body : List Byte) : s.respondHeld status body = s := by
  unfold State.respondHeld
  split
  · next hk => exact absurd hk (h _ _)
  all_goals rfl

theorem port_erasedClosed (s : State) : s.erasedClosed.port = s.port := by
  have h := congrArg State.port (closeAll_frame s.erasureEnds s.erasedBase)
  exact h

theorem attention_erasedClosed (s : State) : s.erasedClosed.attention = s.attention := by
  have h := congrArg State.attention (closeAll_frame s.erasureEnds s.erasedBase)
  exact h

theorem startUnread_erasedClosed (s : State) : s.erasedClosed.startUnread = s.startUnread := by
  have h := congrArg State.startUnread (closeAll_frame s.erasureEnds s.erasedBase)
  exact h

theorem port_erasure_serving {s : State} {tag : Byte} (h : s.port.state = .serving 19 tag) :
    (erasure s).port =
      { state := .answering
          { kind := 19, tag := tag, status := .keysLost
            flags :=
              { discarded := s.port.discarded, attention := (erasure s).attentionOut
                startUnread := s.startUnread }
            body := [] }
        discarded := false
        sdo := s.port.sdo } := by
  have hport := port_erasedClosed s
  rw [erasure_eq, respondHeld_serving (hport ▸ h), State.port_respond, hport, startUnread_erasedClosed]
  rfl

theorem keys_erasedClosed (s : State) :
    s.erasedClosed.keys = { s.keys with entries := Vector.replicate 4 KeyEntry.vacant } := by
  have h := congrArg State.keys (closeAll_frame s.erasureEnds s.erasedBase)
  exact h

theorem engine_erasedClosed (s : State) : s.erasedClosed.engine = s.eraseEngine.engine := by
  have h := congrArg State.engine (closeAll_frame s.erasureEnds s.erasedBase)
  exact h

theorem book_erasure (s : State) (l : LaneId) :
    (erasure s).book l = { s.book l with engaged := ((erasure s).book l).engaged } := by
  rw [erasure_frame]
  exact book_closeAll s.erasureEnds s.erasedBase l

theorem tag_erasure (s : State) (x : Slot) : ((erasure s).cell x).tag = (s.cell x).tag := by
  rw [erasure_frame]
  exact (tag_closeAll s.erasureEnds s.erasedBase x).trans (State.tag_mapRecords ..)

theorem slot_erasure (s : State) (l : LaneId) :
    ((erasure s).lane l).slot = (s.lane l).slot.filter fun f => f.kind ≠ 2 := by
  rw [erasure_frame]
  refine (congrArg Lane.slot (lane_erasedClosed s l)).trans ?_
  rw [slot_erase, slot_closeAll]
  rfl

/-- An erasure changes the engine, the keys, the case monitor, the table, the lanes and the port. -/
theorem erasure_outside (s : State) :
    erasure s =
      { s with
        engine := (erasure s).engine, keys := (erasure s).keys, caseMon := (erasure s).caseMon
        table := (erasure s).table, lanes := (erasure s).lanes, port := (erasure s).port } := by
  rw [erasure_frame]
  unfold State.erasedClosed
  rw [closeAll_frame]
  rfl

end Sys2Proof.Machine

/-! ## The obligations -/

namespace Sys2Proof.Proofs
open Sys2Proof.Machine

/-- Settles O56: an erasure is the base state, in which the engine, the keys and the records are erased, then
one CLOSE queued per engaged record that it ends, then the lane slots and the answer; which slots are closed
says whose delivery and whose lane change. -/
theorem erasureDestroysKeysAndCards : Obligations.ErasureDestroysKeysAndCards := by
  unfold Obligations.ErasureDestroysKeysAndCards
  refine ⟨fun s => ⟨erasure s, rfl, ?_, fun i => ?_, ?_, ?_, ?_, ?_, ?_, ?_, ?_, erasure_outside s,
    book_erasure s, slot_erasure s, fun tag h => port_erasure_serving h, fun h => ?_, tag_erasure s,
    fun slot hr => ?_, fun slot r hr => ?_⟩, ?_⟩
  · rw [erasure_frame]; exact engine_erasedClosed s
  · rw [erasure_frame]
    exact (congrArg (fun k : KeyManager => look k.entries i) (keys_erasedClosed s)).trans (look_replicate ..)
  · rw [erasure_frame]; have h := congrArg KeyManager.highest (keys_erasedClosed s); exact h
  · rw [erasure_frame]; rfl
  · rw [erasure_frame]; have h := congrArg RecordTable.waiting (table_erasedClosed s); exact h
  · rw [erasure_frame]; have h := congrArg RecordTable.free (table_erasedClosed s); exact h
  · rw [erasure_frame]; have h := congrArg RecordTable.storeTotal (table_erasedClosed s); exact h
  · rw [erasure_frame]; have h := congrArg RecordTable.lowMarkArmed (table_erasedClosed s); exact h
  · rw [erasure_frame]; exact attention_erasedClosed s
  · rw [erasure_eq, respondHeld_not_serving (by rw [port_erasedClosed]; exact h), port_erasedClosed]
  · rw [recordAt_erasure, recordAt_erasedClosed, hr]; rfl
  · obtain ⟨hin, hout⟩ := recordAt_erasure_of hr
    obtain ⟨d, hd⟩ := exists_recordAt_erasure hr
    refine ⟨_, hd, fun ha hc => ?_, fun ha => ?_, fun hc => ?_, fun h hs he hcur hslot hnone => ?_⟩
    · have hx : slot ∉ s.erasureEnds := fun hx => (state_of_mem_erasureEnds hx hr).elim ha hc
      have hq := Option.some.inj (hd.symm.trans (hout hx))
      rw [hq, erase_other ha hc, stripped_eq]
      exact ⟨rfl, rfl⟩
    · rw [erase_armed ha, stripped_eq]; rfl
    · rw [erase_capturing hc, stripped_eq]; rfl
    · subst hslot
      have hx := mem_erasureEnds_of_engaged he hcur hs
      have hq := Option.some.inj (hd.symm.trans (hin hx))
      rw [hq]
      obtain ⟨hkind, hready, hother⟩ :=
        delivery_framed ((congrArg Delivery.value (delivery_erase r).1).trans hnone) (s.lane r.lane).mode .close
      exact ⟨hkind, hready, fun hm => ⟨hother hm, engaged_erasure_ended hx hr hnone hm⟩⟩
  · intro s hg hw l
    refine ⟨fun r ⟨⟨h, he, hr⟩, hs, hm⟩ => ?_, fun hno => ?_⟩
    · rw [lane_erasure_offered hg hw he hr hs hm, Lane.offer, if_pos ((Lane.runs_iff _).mpr (.inr hm)), lane_erase_eq]; rfl
    · rw [lane_erasure_kept hg fun h r he hr hs hm => hno r ⟨⟨h, he, hr⟩, hs, hm⟩, lane_erase_eq]; rfl

end Sys2Proof.Proofs
end


section
/-! PROOFS. The attention unit (Chapter 11): which causes are pending, their order, and what the report of a
cause clears. COMMISSION (R178, R179). -/

namespace Sys2Proof.Machine

/-! ## The pending causes (R173) -/

/-- A record of a lane's list passes a test. -/
def State.listed (s : State) (l : LaneId) (slot : Slot) (test : Record → Prop) : Prop :=
  slot ∈ (s.book l).list ∧ ∃ r, s.recordAt slot = some r ∧ test r

/-- When a cause is pending: while it is latched or its condition holds (R173). -/
def State.pends (s : State) : Cause → Prop
  | .caseEvent level => s.caseMon.latch = some level
  | .supply c => s.attention.supply = some c
  | .drained g => g ∈ s.attention.drained
  | .warning l g => (l, g) ∈ s.attention.warnings
  | .laneUp l => (look s.attention.lanes l).up = true
  | .laneDown l => (look s.attention.lanes l).down = true
  | .laneFaulted l kind => (look s.attention.lanes l).faulted = some kind
  | .laneThreshold l .line => (look s.attention.lanes l).thresholdLine = true
  | .laneThreshold l .check => (look s.attention.lanes l).thresholdCheck = true
  | .laneThreshold l .order => (look s.attention.lanes l).thresholdOrder = true
  | .late l slot => s.listed l slot fun r => r.late = true
  | .ready l slot =>
    s.listed l slot fun r => r.state = .wrapped ∨ ∃ f ∈ r.followUps, f.status = .ready
  | .ended l slot => s.listed l slot fun r => r.ended = true
  | .table => s.attention.table = true

theorem readyCondition_iff (r : Record) :
    r.readyCondition = true ↔ r.state = .wrapped ∨ ∃ f ∈ r.followUps, f.status = .ready := by
  simp [Record.readyCondition]

theorem mem_recordsWhere (s : State) (test : Record → Bool) (l : LaneId) (slot : Slot) :
    (l, slot) ∈ s.recordsWhere test ↔ s.listed l slot fun r => test r = true := by
  simp only [State.recordsWhere, State.listed, List.mem_flatMap, List.mem_finRange, true_and, List.mem_map,
    List.mem_filter, mem_sortBy, Prod.mk.injEq]
  constructor
  · rintro ⟨l, x, ⟨hx, ht⟩, rfl, rfl⟩
    cases hr : s.recordAt x with
    | none => rw [hr] at ht; cases ht
    | some r => rw [hr] at ht; exact ⟨hx, r, rfl, ht⟩
  · rintro ⟨hx, r, hr, ht⟩
    exact ⟨l, slot, ⟨hx, by rw [hr]; exact ht⟩, rfl, rfl⟩

theorem mem_pendingWhen (b : Bool) (c d : Cause) : c ∈ pendingWhen b d ↔ b = true ∧ c = d := by
  cases b <;> simp [pendingWhen]

theorem mem_laneCausesOf (l : LaneId) (k : LaneCauses) (c : Cause) :
    c ∈ laneCausesOf l k ↔
      k.up = true ∧ c = .laneUp l ∨ k.down = true ∧ c = .laneDown l ∨
        (∃ kind, k.faulted = some kind ∧ .laneFaulted l kind = c) ∨
        k.thresholdLine = true ∧ c = .laneThreshold l .line ∨
        k.thresholdCheck = true ∧ c = .laneThreshold l .check ∨
        k.thresholdOrder = true ∧ c = .laneThreshold l .order := by
  simp only [laneCausesOf, List.flatten_cons, List.flatten_nil, List.append_nil, List.mem_append, mem_pendingWhen,
    Option.mem_toList, Option.map_eq_some_iff]

/-- The causes of one lane are the LANE causes of it that are pending. -/
theorem mem_laneCausesOf_iff_pends (s : State) (l : LaneId) (c : Cause) :
    c ∈ laneCausesOf l (look s.attention.lanes l) ↔
      c.classNumber = 4 ∧ c.lane = some l ∧ s.pends c := by
  rw [mem_laneCausesOf]
  constructor
  · rintro (⟨h, rfl⟩ | ⟨h, rfl⟩ | ⟨k, h, rfl⟩ | ⟨h, rfl⟩ | ⟨h, rfl⟩ | ⟨h, rfl⟩) <;> exact ⟨rfl, rfl, h⟩
  · rintro ⟨hc, hl, hp⟩
    cases c with
    | laneUp x => cases hl; exact .inl ⟨hp, rfl⟩
    | laneDown x => cases hl; exact .inr (.inl ⟨hp, rfl⟩)
    | laneFaulted x kind => cases hl; exact .inr (.inr (.inl ⟨kind, hp, rfl⟩))
    | laneThreshold x kind =>
      cases hl
      cases kind with
      | line => exact .inr (.inr (.inr (.inl ⟨hp, rfl⟩)))
      | check => exact .inr (.inr (.inr (.inr (.inl ⟨hp, rfl⟩))))
      | order => exact .inr (.inr (.inr (.inr (.inr ⟨hp, rfl⟩))))
    | _ => cases hc

theorem mem_pendingCauses (s : State) (c : Cause) : c ∈ s.pendingCauses ↔ s.pends c := by
  simp only [State.pendingCauses, List.flatten_cons, List.flatten_nil, List.append_nil, List.mem_append,
    Option.mem_toList, Option.map_eq_some_iff, List.mem_map, List.mem_flatMap,
    List.mem_finRange, true_and, mem_laneCausesOf_iff_pends, mem_pendingWhen, Prod.exists, mem_recordsWhere,
    readyCondition_iff]
  cases c with
  | laneThreshold l kind => simp [Cause.classNumber, Cause.lane]
  | _ => simp [Cause.classNumber, Cause.lane, State.pends]

/-! ## The reporting order (R174) -/

/-- A list of causes in an order, all of a class or a later one. -/
def orderedFrom (R : Cause → Cause → Prop) (n : Nat) (causes : List Cause) : Prop :=
  causes.Pairwise R ∧ ∀ c ∈ causes, n ≤ c.classNumber

section
variable {R : Cause → Cause → Prop} (hR : ∀ a b : Cause, a.classNumber < b.classNumber → R a b)
include hR

theorem orderedFrom_append {n : Nat} {a rest : List Cause} (hclass : ∀ c ∈ a, c.classNumber = n)
    (hp : a.Pairwise R) (h : orderedFrom R (n + 1) rest) : orderedFrom R n (a ++ rest) := by
  obtain ⟨hrest, hfrom⟩ := h
  refine ⟨List.pairwise_append.mpr ⟨hp, hrest, fun x hx y hy => hR x y ?_⟩, fun c hc => ?_⟩
  · have := hclass x hx
    have := hfrom y hy
    omega
  · rcases List.mem_append.mp hc with hc | hc
    · exact (hclass c hc).ge
    · exact (Nat.le_succ n).trans (hfrom c hc)

/-- The classes stand in their order; what remains is the order inside each class (R174). -/
theorem pendingCauses_pairwise (s : State)
    (hkeys : (s.attention.drained.map Cause.drained ++
      s.attention.warnings.map fun w => Cause.warning w.1 w.2).Pairwise R)
    (hlanes : ((List.finRange 16).flatMap fun l => laneCausesOf l (look s.attention.lanes l)).Pairwise R)
    (hlate : ((s.recordsWhere fun r => r.late).map fun p => Cause.late p.1 p.2).Pairwise R)
    (hready : ((s.recordsWhere fun r => r.readyCondition).map fun p => Cause.ready p.1 p.2).Pairwise R)
    (hended : ((s.recordsWhere fun r => r.ended).map fun p => Cause.ended p.1 p.2).Pairwise R) :
    s.pendingCauses.Pairwise R := by
  have hopt : ∀ {α : Type} (o : Option α) (f : α → Cause), ((o.map f).toList).Pairwise R := fun o f => by
    cases o <;> simp
  have hwhen : ∀ b c, (pendingWhen b c).Pairwise R := fun b c => by cases b <;> simp [pendingWhen]
  have hall : orderedFrom R 1 s.pendingCauses := by
    simp only [State.pendingCauses, List.flatten_cons, List.flatten_nil, List.append_nil]
    refine orderedFrom_append hR ?case (hopt ..) (orderedFrom_append hR ?supply (hopt ..) ?_)
    case case => simp +contextual [eq_comm, Cause.classNumber]
    case supply => simp +contextual [eq_comm, Cause.classNumber]
    rw [← List.append_assoc]
    refine orderedFrom_append hR ?keys hkeys (orderedFrom_append hR ?lanes hlanes
      (orderedFrom_append hR ?late hlate (orderedFrom_append hR ?ready hready
        (orderedFrom_append hR ?ended hended ⟨hwhen .., ?table⟩))))
    case keys =>
      intro c hc
      rcases List.mem_append.mp hc with hc | hc
      · obtain ⟨_, _, rfl⟩ := List.mem_map.mp hc; rfl
      · obtain ⟨_, _, rfl⟩ := List.mem_map.mp hc; rfl
    case lanes =>
      intro c hc
      obtain ⟨l, _, hl⟩ := List.mem_flatMap.mp hc
      exact ((mem_laneCausesOf_iff_pends s l c).mp hl).1
    case late => intro c hc; obtain ⟨_, _, rfl⟩ := List.mem_map.mp hc; rfl
    case ready => intro c hc; obtain ⟨_, _, rfl⟩ := List.mem_map.mp hc; rfl
    case ended => intro c hc; obtain ⟨_, _, rfl⟩ := List.mem_map.mp hc; rfl
    case table =>
      intro c hc
      obtain ⟨_, rfl⟩ := (mem_pendingWhen ..).mp hc
      exact le_rfl
  exact hall.1

end

/-- The pending causes stand by class (R174). -/
theorem pendingCauses_classes (s : State) :
    s.pendingCauses.Pairwise fun a b => a.classNumber ≤ b.classNumber := by
  have hconst : ∀ {n : Nat} {l : List Cause}, (∀ c ∈ l, c.classNumber = n) →
      l.Pairwise fun a b => a.classNumber ≤ b.classNumber := fun h =>
    List.pairwise_iff_forall_sublist.mpr fun hab => by
      rw [h _ (hab.subset (by simp)), h _ (hab.subset (by simp))]
  refine pendingCauses_pairwise (fun a b h => h.le) s (hconst (n := 3) ?_) (hconst (n := 4) ?_)
    (hconst (n := 5) ?_) (hconst (n := 6) ?_) (hconst (n := 7) ?_)
  · intro c hc
    rcases List.mem_append.mp hc with hc | hc
    · obtain ⟨_, _, rfl⟩ := List.mem_map.mp hc; rfl
    · obtain ⟨_, _, rfl⟩ := List.mem_map.mp hc; rfl
  · intro c hc
    obtain ⟨l, _, hl⟩ := List.mem_flatMap.mp hc
    exact ((mem_laneCausesOf_iff_pends s l c).mp hl).1
  · intro c hc; obtain ⟨_, _, rfl⟩ := List.mem_map.mp hc; rfl
  · intro c hc; obtain ⟨_, _, rfl⟩ := List.mem_map.mp hc; rfl
  · intro c hc; obtain ⟨_, _, rfl⟩ := List.mem_map.mp hc; rfl

/-- The records of a test stand by lane, then by slot (R174). -/
theorem recordsWhere_pairwise (s : State) (test : Record → Bool) :
    (s.recordsWhere test).Pairwise fun p q => p.1 < q.1 ∨ p.1 = q.1 ∧ p.2 ≤ q.2 := by
  rw [State.recordsWhere, List.pairwise_flatMap]
  refine ⟨fun l _ => ?_, (List.pairwise_lt_finRange 16).imp fun hlt p hp q hq => ?_⟩
  · rw [List.pairwise_map]
    refine List.Pairwise.filter _ ?_
    have hsorted := sortBy_pairwise (before := fun a b : Slot => decide (a < b))
      (fun a b c hab hbc => decide_eq_true ((of_decide_eq_true hab).trans (of_decide_eq_true hbc)))
      (fun a b hne hab => decide_eq_true (lt_of_le_of_ne (not_lt.mp (of_decide_eq_false hab)) hne.symm))
      (s.book l).list
    exact hsorted.imp fun h => .inr ⟨rfl, (of_decide_eq_true h).le⟩
  · obtain ⟨_, _, rfl⟩ := List.mem_map.mp hp
    obtain ⟨_, _, rfl⟩ := List.mem_map.mp hq
    exact .inl hlt

theorem recordsWhere_notAfter (s : State) (test : Record → Bool) {f : LaneId → Slot → Cause} {n : Nat}
    (hf : ∀ l slot, (f l slot).rank = (n, l.val, slot.val)) :
    ((s.recordsWhere test).map fun p => f p.1 p.2).Pairwise Cause.notAfter := by
  rw [List.pairwise_map]
  refine (recordsWhere_pairwise s test).imp fun {p q} hpq => ?_
  rw [Cause.notAfter, hf, hf]
  refine .inr ⟨rfl, hpq.imp (fun hlt => hlt) fun ⟨heq, hle⟩ => ⟨congrArg Fin.val heq, hle⟩⟩

/-- The members of the KEYS class stand in their order (R174). -/
theorem keysCauses_notAfter {s : State} (h : s.keysCausesOrdered) :
    (s.attention.drained.map Cause.drained ++
      s.attention.warnings.map fun w => Cause.warning w.1 w.2).Pairwise Cause.notAfter := by
  obtain ⟨hd, hw⟩ := h
  rw [List.pairwise_append, List.pairwise_map, List.pairwise_map]
  refine ⟨hd.imp fun hab => .inr ⟨rfl, .inr ⟨rfl, le_of_lt hab⟩⟩, hw.imp fun {a b} hab => .inr ⟨rfl, ?keys⟩, ?cross⟩
  case keys =>
    exact hab.imp (fun hlt => Nat.succ_lt_succ hlt)
      fun ⟨heq, hlt⟩ => ⟨congrArg (fun l : LaneId => l.val + 1) heq, hlt.le⟩
  case cross =>
    intro x hx y hy
    obtain ⟨g, _, rfl⟩ := List.mem_map.mp hx
    obtain ⟨w, _, rfl⟩ := List.mem_map.mp hy
    exact .inr ⟨rfl, .inl (Nat.succ_pos _)⟩

theorem laneCausesOf_notAfter (l : LaneId) (k : LaneCauses) :
    (laneCausesOf l k).Pairwise Cause.notAfter := by
  have hfaulted : ∀ o : Option ErrorKind,
      ((o.map fun kind => Cause.laneFaulted l kind).toList).Pairwise Cause.notAfter := fun o => by
    cases o <;> simp
  have hwhen : ∀ b c, (pendingWhen b c).Pairwise Cause.notAfter := fun b c => by
    cases b <;> simp [pendingWhen]
  simp only [laneCausesOf, List.flatten_cons, List.flatten_nil, List.append_nil, List.pairwise_append, hwhen, hfaulted,
    List.mem_append, mem_pendingWhen, Option.mem_toList, Option.map_eq_some_iff, true_and]
  simp +contextual [Cause.notAfter, Cause.rank, ErrorKind.code, or_imp]

theorem lanesCauses_notAfter (s : State) :
    ((List.finRange 16).flatMap fun l => laneCausesOf l (look s.attention.lanes l)).Pairwise Cause.notAfter := by
  rw [List.pairwise_flatMap]
  refine ⟨fun l _ => laneCausesOf_notAfter .., (List.pairwise_lt_finRange 16).imp fun {l l'} hlt x hx y hy => ?_⟩
  have hrank : ∀ {l : LaneId} {c : Cause}, c.classNumber = 4 → c.lane = some l →
      c.rank.1 = 4 ∧ c.rank.2.1 = l.val := fun {l c} hc hl => by
    cases c with
    | laneUp | laneDown | laneFaulted | laneThreshold => cases hl; exact ⟨rfl, rfl⟩
    | _ => cases hc
  obtain ⟨hc, hl, _⟩ := (mem_laneCausesOf_iff_pends s l x).mp hx
  obtain ⟨hc', hl', _⟩ := (mem_laneCausesOf_iff_pends s l' y).mp hy
  obtain ⟨h1, h2⟩ := hrank hc hl
  obtain ⟨h1', h2'⟩ := hrank hc' hl'
  exact .inr ⟨h1.trans h1'.symm, .inl (by rw [h2, h2']; exact hlt)⟩

theorem pendingCauses_notAfter {s : State} (h : s.keysCausesOrdered) :
    s.pendingCauses.Pairwise Cause.notAfter := by
  have hclass : ∀ c : Cause, c.rank.1 = c.classNumber := fun c => by cases c <;> rfl
  refine pendingCauses_pairwise (fun a b hab => .inl ?_) s (keysCauses_notAfter h) (lanesCauses_notAfter s)
    (recordsWhere_notAfter s _ fun _ _ => rfl) (recordsWhere_notAfter s _ fun _ _ => rfl)
    (recordsWhere_notAfter s _ fun _ _ => rfl)
  rw [hclass, hclass]
  exact hab

/-! ## The report of a cause (R175) -/

/-- What clearing one cause does to the causes pending. -/
def clears (s t : State) (cause : Cause) : Prop := ∀ c, t.pends c ↔ s.pends c ∧ c ≠ cause

theorem clears_of {s t : State} {cause : Cause} (hkept : ∀ c, c ≠ cause → (t.pends c ↔ s.pends c))
    (hgone : ¬ t.pends cause) : clears s t cause := fun c => by
  by_cases hc : c = cause
  · subst hc
    exact ⟨fun h => absurd h hgone, fun h => absurd rfl h.2⟩
  · rw [hkept c hc]
    exact ⟨fun h => ⟨h, hc⟩, fun h => h.1⟩

theorem look_modCauses (s : State) (l x : LaneId) (f : LaneCauses → LaneCauses) :
    look (s.modCauses l f).attention.lanes x =
      if x = l then f (look s.attention.lanes l) else look s.attention.lanes x := by
  simp only [State.modCauses, look_put]

/-- A cause that is not one of a lane's own does not read the lane's causes. -/
theorem pends_modCauses_other (s : State) (l : LaneId) (f : LaneCauses → LaneCauses) {c : Cause}
    (h : c.classNumber ≠ 4) : (s.modCauses l f).pends c ↔ s.pends c := by
  cases c with
  | laneUp | laneDown | laneFaulted | laneThreshold => exact absurd rfl h
  | _ => exact Iff.rfl

theorem clears_modCauses (s : State) {l : LaneId} {f : LaneCauses → LaneCauses} {cause : Cause}
    (hclass : cause.classNumber = 4) (hlane : cause.lane = some l)
    (hkept : ∀ c, c ≠ cause →
      (c ∈ laneCausesOf l (f (look s.attention.lanes l)) ↔ c ∈ laneCausesOf l (look s.attention.lanes l)))
    (hgone : cause ∉ laneCausesOf l (f (look s.attention.lanes l))) :
    clears s (s.modCauses l f) cause := by
  have hmem := fun c x => mem_laneCausesOf_iff_pends (s.modCauses l f) x c
  refine clears_of (fun c hne => ?_) fun h => ?_
  · by_cases hc : c.classNumber = 4
    · obtain ⟨x, hx⟩ : ∃ x, c.lane = some x := by
        cases c with
        | laneUp x | laneDown x | laneFaulted x | laneThreshold x => exact ⟨x, rfl⟩
        | _ => cases hc
      have hold := mem_laneCausesOf_iff_pends s x c
      have hnew := hmem c x
      simp only [hc, hx, true_and] at hold hnew
      rw [← hold, ← hnew, look_modCauses]
      by_cases hxl : x = l
      · subst hxl
        rw [if_pos rfl, hkept c hne]
      · rw [if_neg hxl]
    · exact pends_modCauses_other s l f hc
  · have hnew := (hmem cause l).mpr ⟨hclass, hlane, h⟩
    rw [look_modCauses, if_pos rfl] at hnew
    exact hgone hnew

theorem clears_lane (s : State) {l : LaneId} {cause : Cause} (hclass : cause.classNumber = 4)
    (hlane : cause.lane = some l) (hp : s.pends cause) : clears s (clearCause s cause) cause := by
  cases cause with
  | laneUp x =>
    cases hlane
    exact clears_modCauses s rfl rfl (fun c hc => by simp only [mem_laneCausesOf, hc, and_false])
      (by simp [mem_laneCausesOf])
  | laneDown x =>
    cases hlane
    exact clears_modCauses s rfl rfl (fun c hc => by simp only [mem_laneCausesOf, hc, and_false])
      (by simp [mem_laneCausesOf])
  | laneFaulted x kind =>
    cases hlane
    have hfaulted : (look s.attention.lanes l).faulted = some kind := hp
    refine clears_modCauses s rfl rfl (fun c hc => ?_) (by simp [mem_laneCausesOf])
    simp only [mem_laneCausesOf, hfaulted, reduceCtorEq, false_and, exists_false, Option.some.injEq,
      exists_eq_left', Ne.symm hc]
  | laneThreshold x kind =>
    cases hlane
    cases kind <;>
      exact clears_modCauses s rfl rfl
        (fun c hc => by simp only [mem_laneCausesOf, LaneCauses.clearThreshold, hc, and_false])
        (by simp [mem_laneCausesOf, LaneCauses.clearThreshold])
  | _ => cases hclass

/-- A record's mark cleared: the records listed for another test, or of another slot, are the same. -/
theorem listed_modRecord (s : State) (slot x : Slot) (f : Record → Record) (l : LaneId)
    {test : Record → Prop} (h : x = slot → ∀ r, test (f r) ↔ test r) :
    (s.modRecord slot f).listed l x test ↔ s.listed l x test := by
  simp only [State.listed, State.recordAt_modRecord]
  refine and_congr Iff.rfl ?_
  split
  · next hx =>
    subst hx
    simp only [Option.map_eq_some_iff]
    constructor
    · rintro ⟨_, ⟨r, hr, rfl⟩, ht⟩
      exact ⟨r, hr, (h rfl r).mp ht⟩
    · rintro ⟨r, hr, ht⟩
      exact ⟨_, ⟨r, hr, rfl⟩, (h rfl r).mpr ht⟩
  · exact Iff.rfl

theorem not_listed_modRecord (s : State) (slot : Slot) (f : Record → Record) (l : LaneId)
    {test : Record → Prop} (h : ∀ r, ¬ test (f r)) : ¬ (s.modRecord slot f).listed l slot test := by
  rintro ⟨_, q, hq, ht⟩
  rw [State.recordAt_modRecord, if_pos rfl] at hq
  obtain ⟨r, _, rfl⟩ := Option.map_eq_some_iff.mp hq
  exact h r ht

/-- A slot stands on one lane's list (R6). -/
theorem lane_unique {s : State} (hs : s.slotsPartitioned) {l l' : LaneId} {slot : Slot}
    (h : slot ∈ (s.book l).list) (h' : slot ∈ (s.book l').list) : l = l' := by
  obtain ⟨_, _, _, hlist⟩ := hs
  obtain ⟨r, hr, rfl⟩ := (hlist l slot).mp h
  obtain ⟨q, hq, rfl⟩ := (hlist l' slot).mp h'
  cases hr.symm.trans hq
  rfl

theorem listed_modRecord_other {s : State} (hs : s.slotsPartitioned) {l l' : LaneId} {slot x : Slot}
    (f : Record → Record) {test : Record → Prop} (hl : slot ∈ (s.book l).list)
    (hne : ¬ (l' = l ∧ x = slot)) : (s.modRecord slot f).listed l' x test ↔ s.listed l' x test := by
  by_cases hx : x = slot
  · subst hx
    have hno : x ∉ (s.book l').list := fun h => hne ⟨lane_unique hs h hl, rfl⟩
    exact ⟨fun h => absurd h.1 hno, fun h => absurd h.1 hno⟩
  · exact listed_modRecord s slot x f l' fun h => absurd h hx

theorem clears_late {s : State} (hs : s.slotsPartitioned) {l : LaneId} {slot : Slot}
    (hp : s.pends (.late l slot)) : clears s (clearCause s (.late l slot)) (.late l slot) := by
  refine clears_of (fun c hc => ?_) (not_listed_modRecord s slot _ l fun _ h => by cases h)
  cases c with
  | late l' x => exact listed_modRecord_other hs _ hp.1 fun h => hc (by rw [h.1, h.2])
  | ready l' x => exact listed_modRecord s slot x _ l' fun _ _ => Iff.rfl
  | ended l' x => exact listed_modRecord s slot x _ l' fun _ _ => Iff.rfl
  | laneThreshold l' kind => cases kind <;> exact Iff.rfl
  | _ => exact Iff.rfl

theorem clears_ended {s : State} (hs : s.slotsPartitioned) {l : LaneId} {slot : Slot}
    (hp : s.pends (.ended l slot)) : clears s (clearCause s (.ended l slot)) (.ended l slot) := by
  refine clears_of (fun c hc => ?_) (not_listed_modRecord s slot _ l fun _ h => by cases h)
  cases c with
  | ended l' x => exact listed_modRecord_other hs _ hp.1 fun h => hc (by rw [h.1, h.2])
  | ready l' x => exact listed_modRecord s slot x _ l' fun _ _ => Iff.rfl
  | late l' x => exact listed_modRecord s slot x _ l' fun _ _ => Iff.rfl
  | laneThreshold l' kind => cases kind <;> exact Iff.rfl
  | _ => exact Iff.rfl

theorem clears_supply {s : State} {x : SupplyCause} (hp : s.pends (.supply x)) :
    clears s (clearCause s (.supply x)) (.supply x) := by
  refine clears_of (fun c hc => ?_) fun h => by cases h
  cases c with
  | supply y =>
    refine ⟨fun h => (by cases h), fun h => absurd ?_ hc⟩
    rw [Option.some.inj (h.symm.trans hp)]
  | laneThreshold l' kind => cases kind <;> exact Iff.rfl
  | _ => exact Iff.rfl

theorem clears_drained {s : State} (hk : s.keysCausesOrdered) (g : Nat) :
    clears s (clearCause s (.drained g)) (.drained g) := by
  have hmem : ∀ x, x ∈ s.attention.drained.erase g ↔ x ≠ g ∧ x ∈ s.attention.drained := fun x =>
    List.Nodup.mem_erase_iff (hk.1.imp fun h => ne_of_lt h)
  refine clears_of (fun c hc => ?_) fun h => ((hmem g).mp h).1 rfl
  cases c with
  | drained x =>
    exact (hmem x).trans ⟨fun h => h.2, fun h => ⟨fun hx => hc (by rw [hx]), h⟩⟩
  | laneThreshold l' kind => cases kind <;> exact Iff.rfl
  | _ => exact Iff.rfl

theorem nodup_warnings {s : State} (hk : s.keysCausesOrdered) : s.attention.warnings.Nodup := by
  refine hk.2.imp fun {a b} h => ?_
  rintro rfl
  rcases h with h | ⟨_, h⟩ <;> exact lt_irrefl _ h

theorem clears_warning {s : State} (hk : s.keysCausesOrdered) (l : LaneId) (g : Nat) :
    clears s (clearCause s (.warning l g)) (.warning l g) := by
  have hmem : ∀ x, x ∈ s.attention.warnings.erase (l, g) ↔ x ≠ (l, g) ∧ x ∈ s.attention.warnings := fun x =>
    List.Nodup.mem_erase_iff (nodup_warnings hk)
  refine clears_of (fun c hc => ?_) fun h => ((hmem (l, g)).mp h).1 rfl
  cases c with
  | warning l' g' =>
    refine (hmem (l', g')).trans ⟨fun h => h.2, fun h => ⟨fun hx => hc ?_, h⟩⟩
    cases hx
    rfl
  | laneThreshold l' kind => cases kind <;> exact Iff.rfl
  | _ => exact Iff.rfl

theorem clears_table (s : State) : clears s (clearCause s .table) .table := by
  refine clears_of (fun c hc => ?_) fun h => by cases h
  cases c with
  | table => exact absurd rfl hc
  | laneThreshold l' kind => cases kind <;> exact Iff.rfl
  | _ => exact Iff.rfl

/-- The report of a cause clears that cause and no other, apart from CASE and READY causes (R175). -/
theorem pends_clearCause {s : State} (hk : s.keysCausesOrdered) (hs : s.slotsPartitioned) {cause : Cause}
    (hp : s.pends cause) (c : Cause) :
    (clearCause s cause).pends c ↔
      s.pends c ∧ (c = cause → cause.classNumber = 1 ∨ cause.classNumber = 6) := by
  have hcleared : clears s (clearCause s cause) cause → ¬ (cause.classNumber = 1 ∨ cause.classNumber = 6) →
      ((clearCause s cause).pends c ↔
        s.pends c ∧ (c = cause → cause.classNumber = 1 ∨ cause.classNumber = 6)) := fun h hno => by
    rw [h c, imp_iff_not hno]
  cases cause with
  | caseEvent level => exact ⟨fun h => ⟨h, fun _ => .inl rfl⟩, fun h => h.1⟩
  | ready l slot => exact ⟨fun h => ⟨h, fun _ => .inr rfl⟩, fun h => h.1⟩
  | supply x => exact hcleared (clears_supply hp) (by simp [Cause.classNumber])
  | drained g => exact hcleared (clears_drained hk g) (by simp [Cause.classNumber])
  | warning l g => exact hcleared (clears_warning hk l g) (by simp [Cause.classNumber])
  | laneUp l | laneDown l | laneFaulted l | laneThreshold l =>
    exact hcleared (clears_lane s rfl rfl hp) (by simp [Cause.classNumber])
  | late l slot => exact hcleared (clears_late hs hp) (by simp [Cause.classNumber])
  | ended l slot => exact hcleared (clears_ended hs hp) (by simp [Cause.classNumber])
  | table => exact hcleared (clears_table s) (by simp [Cause.classNumber])

theorem nextAttention_empty {s : State} (h : s.eligibleCauses = []) :
    nextAttention s = .answer s .done [0, 0, 0] := by
  simp only [nextAttention, h]
  rfl

theorem nextAttention_reports {s : State} {c : Cause} {rest : List Cause} (h : s.eligibleCauses = c :: rest) :
    nextAttention s =
      .answer (clearCause s c) .done
        (bytesOf 1 c.classNumber ++ causeSubject s c ++ bytesOf 2 (clearCause s c).eligibleCauses.length) := by
  simp only [nextAttention, h, List.flatten_cons, List.flatten_nil, List.append_nil, List.append_assoc]
  rfl

theorem eligibleCauses_eq (s : State) :
    s.eligibleCauses = s.pendingCauses.filter fun c =>
      s.attention.classes.getLsbD (c.classNumber - 1) &&
        c.lane.all fun l => s.attention.laneMask.getLsbD l.val := by
  rw [State.eligibleCauses]
  refine congrArg (List.filter · _) (funext fun c => ?_)
  rw [State.isEligible]
  cases c.lane <;> rfl

theorem readySubject_eq (r : Record) :
    readySubject r =
      if r.state = .wrapped then [0, 0]
      else 1 :: bytesOf 1 (r.followUps.findIdx fun f => decide (f.status = .ready)) := by
  unfold readySubject
  split <;> rfl

/-! ## COMMISSION (R178, R179) -/

/-- The values a COMMISSION may carry (R178). -/
def commissionInRange (currency : Half) (exponent fitted erasure level : Byte) : Prop :=
  1 ≤ currency.toNat ∧ currency.toNat ≤ 999 ∧ exponent.toNat ≤ 3 ∧ 1 ≤ fitted.toNat ∧
    fitted.toNat ≤ 16 ∧ erasure.toNat ≤ 1 ∧ 1 ≤ level.toNat ∧ level.toNat ≤ 4

theorem levelOf_eq_none {b : Byte} (h : ¬ (1 ≤ b.toNat ∧ b.toNat ≤ 4)) : levelOf b = none := by
  revert b; decide

theorem levelOf_eq_some {b : Byte} (h : 1 ≤ b.toNat ∧ b.toNat ≤ 4) :
    ∃ v, levelOf b = some v ∧ v.code = b.toNat ∧ v.millivolts = 2800 + 100 * b.toNat := by
  revert b; decide

section
variable (chain store : Word) (currency : Half) (exponent : Byte) (key : Block) (fitted erasure level : Byte)

/-- The commissioning record a COMMISSION carries, its supply level given. -/
def commissioningWith (v : SupplyLevel) : Commissioning :=
  { chain := chain, store := store, currency := currency.toNat, exponent := exponent.toNat
    transportKey := key, fitted := fitted.toNat, eraseOnOpen := decide (erasure = 1), level := v }

theorem commissioningOf_eq_none (h : ¬ commissionInRange currency exponent fitted erasure level) :
    commissioningOf chain store currency exponent key fitted erasure level = none := by
  unfold commissioningOf
  split
  · next e v he hv =>
    have herasure : erasure.toNat ≤ 1 := by
      by_contra hno
      rw [yesNoOf_eq, if_neg fun hb => hno hb.2] at he
      cases he
    have hlevel : 1 ≤ level.toNat ∧ level.toNat ≤ 4 := by
      by_contra hno
      rw [levelOf_eq_none hno] at hv
      cases hv
    refine if_neg fun hall => h ?_
    simp only [inRange, Bool.and_eq_true, decide_eq_true_eq] at hall
    obtain ⟨⟨⟨h1, h2⟩, h3⟩, h4, h5⟩ := hall
    exact ⟨h1, h2, h3, h4, h5, herasure, hlevel⟩
  · rfl

theorem commissioningOf_eq_some (h : commissionInRange currency exponent fitted erasure level) :
    ∃ v, levelOf level = some v ∧ v.code = level.toNat ∧ v.millivolts = 2800 + 100 * level.toNat ∧
      commissioningOf chain store currency exponent key fitted erasure level =
        some (commissioningWith chain store currency exponent key fitted erasure v) := by
  obtain ⟨h1, h2, h3, h4, h5, he, hlevel⟩ := h
  obtain ⟨v, hv, hcode, hmv⟩ := levelOf_eq_some hlevel
  refine ⟨v, hv, hcode, hmv, ?_⟩
  have hall : (inRange 1 currency.toNat 999 && decide (exponent.toNat ≤ 3) && inRange 1 fitted.toNat 16) = true := by
    simp only [inRange, Bool.and_eq_true, decide_eq_true_eq]
    exact ⟨⟨⟨h1, h2⟩, h3⟩, h4, h5⟩
  simp only [commissioningOf, yesNoOf_eq, hv, if_pos (And.intro (Nat.zero_le _) he), if_pos hall]
  rfl

end

section
variable {s : State} {c : Commissioning}

/-- The lanes of an accepted COMMISSION (R121, R179). -/
theorem lane_startLanes (o : Option Commissioning) (lanes : Vector Lane 16) (l : LaneId) :
    look (startLanes o lanes) l = startLane (startMode o l) (look lanes l).holdIn := by
  simp [startLanes, look]

theorem startLane_eq (mode : LaneMode) (holdIn : Bool) (l : LaneId) :
    startLane mode holdIn = { State.reset.lane l with mode := mode, holdIn := holdIn } := by
  have hreset : State.reset.lane l = startLane .off false := look_replicate ..
  rw [hreset]
  rfl

/-- An accepted COMMISSION before the comparison of the supply. -/
def State.withCommission (s : State) (c : Commissioning) : State :=
  { s with commission := some c, lanes := startLanes (some c) s.lanes }

theorem commissioned_above (h : s.supply.state = .normal) (hv : c.level.millivolts ≤ s.supply.millivolts) :
    s.commissioned c = s.withCommission c :=
  (if_pos h).trans (compareSupply_above (s := s.withCommission c) h hv)

theorem commissioned_below (h : s.supply.state = .normal) (hv : s.supply.millivolts < c.level.millivolts) :
    s.commissioned c = (s.withCommission c).supplyFalls :=
  (if_pos h).trans (compareSupply_below (s := s.withCommission c) h hv)

/-- An accepted COMMISSION changes the record, the lanes, and the supply monitor with its cause (R179). -/
theorem commissioned_frame (h : s.supply.state = .normal) :
    s.commissioned c =
      { s.withCommission c with
        supply := (s.commissioned c).supply, attention := (s.commissioned c).attention } := by
  rcases Nat.lt_or_ge s.supply.millivolts c.level.millivolts with hv | hv
  · rw [commissioned_below h hv]; rfl
  · rw [commissioned_above h hv]

theorem lane_commissioned (h : s.supply.state = .normal) (l : LaneId) :
    (s.commissioned c).lane l =
      { State.reset.lane l with
        mode := if l.val < c.fitted then .down else .off, holdIn := (s.lane l).holdIn } := by
  rw [commissioned_frame h]
  exact (lane_startLanes ..).trans (startLane_eq ..)

end

/-! ### The answers of COMMISSION (R179) -/

section
variable {s : State} {chain store : Word} {currency : Half} {exponent : Byte} {key : Block}
  {fitted erasure level : Byte}

theorem commission_locked (h : s.commission ≠ none) :
    commission chain store currency exponent key fitted erasure level s = refuse s .locked :=
  if_pos (Option.isSome_iff_ne_none.mpr h)

theorem commission_range (h : s.commission = none)
    (hr : ¬ commissionInRange currency exponent fitted erasure level) :
    commission chain store currency exponent key fitted erasure level s = refuse s .range := by
  simp only [commission, h, Option.isSome_none, Bool.false_eq_true, if_false, commissioningOf_eq_none _ _ _ _ _ _ _ _ hr]

theorem commission_supplyLow (h : s.commission = none)
    (hr : commissionInRange currency exponent fitted erasure level) (hl : s.supply.state = .low) :
    commission chain store currency exponent key fitted erasure level s = refuse s .supplyLow := by
  obtain ⟨v, _, _, _, hc⟩ := commissioningOf_eq_some chain store currency exponent key fitted erasure level hr
  simp only [commission, h, Option.isSome_none, Bool.false_eq_true, if_false, hc, if_pos hl]

theorem commission_accepts (h : s.commission = none)
    (hr : commissionInRange currency exponent fitted erasure level) (hn : s.supply.state = .normal) :
    ∃ v : SupplyLevel, v.code = level.toNat ∧ v.millivolts = 2800 + 100 * level.toNat ∧
      commission chain store currency exponent key fitted erasure level s =
        .answer (s.commissioned (commissioningWith chain store currency exponent key fitted erasure v)) .done
          (bytesOf 4 chain.toNat ++ bytesOf 4 store.toNat ++ bytesOf 2 currency.toNat ++
            [exponent, fitted, erasure, level]) := by
  obtain ⟨v, _, hcode, hmv, hc⟩ := commissioningOf_eq_some chain store currency exponent key fitted erasure level hr
  have hlow : s.supply.state ≠ .low := by rw [hn]; decide
  refine ⟨v, hcode, hmv, ?_⟩
  simp only [commission, h, Option.isSome_none, Bool.false_eq_true, if_false, hc, if_neg hlow]
  refine congrArg (Reply.answer _ .done) ?_
  have herasure : flagByte (decide (erasure = 1)) = [erasure] := by
    obtain ⟨_, _, _, _, _, he, _⟩ := hr
    have hall : ∀ b : Byte, b.toNat ≤ 1 → flagByte (decide (b = 1)) = [b] := by decide
    exact hall erasure he
  have hbyte : ∀ b : Byte, u8 b.toNat = [b] := by decide
  simp only [commissioningBytes, commissioningWith, hcode, herasure, hbyte, List.flatten_cons, List.flatten_nil,
    List.append_nil, List.append_assoc, u16]
  rfl

end

/-- The written-once clause of COMMISSION for the request itself (R178, R179): what it answers and what it
changes. -/
theorem exec_commission_accepted {s : State} (tag : Byte) {chain store : Word} {currency : Half}
    {exponent : Byte} (key : Block) {fitted erasure level : Byte} (hs : s.accepts)
    (h : s.commission = none) (hr : commissionInRange currency exponent fitted erasure level)
    (hn : s.supply.state = .normal) :
    ∃ v : SupplyLevel, v.millivolts = 2800 + 100 * level.toNat ∧
      exec (.commission tag chain store currency exponent key fitted erasure level) s =
        .next ((s.commissioned (commissioningWith chain store currency exponent key fitted erasure v)).respond 32 tag
          .done (bytesOf 4 chain.toNat ++ bytesOf 4 store.toNat ++ bytesOf 2 currency.toNat ++
            [exponent, fitted, erasure, level])) := by
  obtain ⟨v, _, hmv, hans⟩ := commission_accepts (s := s) (key := key) (chain := chain) (store := store) h hr hn
  exact ⟨v, hmv, exec_of_handler_answers rfl rfl hs hans⟩

end Sys2Proof.Machine

namespace Sys2Proof.Proofs
open Sys2Proof.Machine

/-- The request clauses of O60; that the record stays at every step is given. -/
theorem commissionIsWrittenOnce_of_kept
    (hkept : ∀ (s t : State) c, s.commission = some c → step s = .next t → t.commission = some c) :
    Obligations.CommissionIsWrittenOnce := by
  unfold Obligations.CommissionIsWrittenOnce
  refine ⟨fun s tag chain store currency exponent key fitted erasure level hs => ⟨fun h => ?_, fun h hr => ?_,
    fun h hr hl => ?_, fun h hr hn => ?_⟩, hkept⟩
  · exact exec_of_handler_answers rfl rfl hs (commission_locked h)
  · exact exec_of_handler_answers rfl rfl hs (commission_range h hr)
  · exact exec_of_handler_answers rfl rfl hs (commission_supplyLow h hr hl)
  · obtain ⟨v, hmv, hexec⟩ := exec_commission_accepted tag (chain := chain) (store := store) key hs h hr hn
    refine ⟨commissioningWith chain store currency exponent key fitted erasure v, _, hexec, rfl, rfl, rfl, rfl, rfl, rfl, rfl,
      hmv, ?_, lane_commissioned hn, ?_, fun hv => ?_, fun hv => ?_⟩
    · rw [commissioned_frame hn]; rfl
    · rw [commissioned_frame hn]; rfl
    · rw [commissioned_above hn hv]; exact ⟨rfl, rfl⟩
    · rw [commissioned_below hn hv]; exact ⟨rfl, rfl⟩

/-- The clauses of O57 about one state; that the order of the KEYS causes stays at every step is given. -/
theorem nextAttentionReportsTheFirstCause_of_kept
    (hkept : ∀ s t : State, s.keysCausesOrdered → step s = .next t → t.keysCausesOrdered) :
    Obligations.NextAttentionReportsTheFirstCause := by
  unfold Obligations.NextAttentionReportsTheFirstCause
  refine ⟨fun cause => by cases cause <;> rfl, fun s tag hs he => ?empty, fun s tag cause rest hs he => ?report,
    fun s => ?classes, eligibleCauses_eq, fun s h => pendingCauses_notAfter h, hkept,
    fun s l slot => ?pending⟩
  case empty => exact exec_of_handler_answers rfl rfl hs (nextAttention_empty he)
  case classes =>
    rw [List.pairwise_map]
    exact (pendingCauses_classes s).filter _
  case pending =>
    simp only [mem_pendingCauses]
    exact ⟨Iff.rfl, Iff.rfl, Iff.rfl, fun _ => Iff.rfl, fun _ => Iff.rfl, fun _ => Iff.rfl, fun _ => Iff.rfl,
      Iff.rfl, Iff.rfl, fun _ => Iff.rfl, Iff.rfl, Iff.rfl, Iff.rfl, Iff.rfl⟩
  case report =>
    intro unit ofLane ofRecord t handle levelByte supplyByte kindByte subject
    have ht : t = clearCause s cause := by
      cases cause with
      | laneThreshold l kind => cases kind <;> rfl
      | _ => rfl
    have hsubject : subject = causeSubject s cause := by
      cases cause with
      | caseEvent level => cases level <;> cases s.caseMon.erased <;> rfl
      | supply c =>
        have hbyte : u8 c.state.code = [supplyByte c.state] := by cases c.state <;> rfl
        exact congrArg (· ++ u8 c.count) hbyte.symm
      | laneFaulted l kind | laneThreshold l kind => cases kind <;> rfl
      | ready l slot =>
        refine congrArg (handle slot ++ ·) ?_
        cases hr : s.recordAt slot with
        | none => rfl
        | some r => exact (readySubject_eq r).symm
      | _ => rfl
    rw [ht, hsubject]
    refine ⟨exec_of_handler_answers rfl rfl hs (nextAttention_reports he), fun hk hp c => ?_⟩
    rw [mem_pendingCauses, mem_pendingCauses]
    refine pends_clearCause hk hp ((mem_pendingCauses ..).mp ?_) c
    have hmem : cause ∈ s.eligibleCauses := by rw [he]; exact List.mem_cons_self ..
    exact List.mem_of_mem_filter hmem

end Sys2Proof.Proofs
end


section
/-! PROOFS. What every operation on a lane keeps: its settings within their ranges, its buffers within their
capacities, a lane that does not run empty (R121, R125, R129, R130, R134, R152). -/

namespace Sys2Proof.Machine

/-! ## What a lane keeps -/

/-- An operation keeps a lane's settings in range and, with them in range, keeps it bounded and quiet. -/
structure Lane.Keeps (L L' : Lane) : Prop where
  inRange : L.settings.inRange → L'.settings.inRange
  wellFormed : L.settings.inRange → L.bounded → L.quiet → L'.bounded ∧ L'.quiet

theorem Lane.Keeps.refl (L : Lane) : L.Keeps L := ⟨fun h => h, fun _ hb hq => ⟨hb, hq⟩⟩

theorem Lane.Keeps.trans {L M N : Lane} (h : L.Keeps M) (h' : M.Keeps N) : L.Keeps N :=
  ⟨fun hr => h'.inRange (h.inRange hr), fun hr hb hq =>
    have hM := h.wellFormed hr hb hq
    h'.wellFormed (h.inRange hr) hM.1 hM.2⟩

/-- An operation on a running lane that leaves its settings, its mode and its session present or absent. -/
theorem Lane.keeps_of_runs {L L' : Lane} (hruns : L.runs = true) (hmode : L'.mode = L.mode)
    (hset : L'.settings = L.settings) (hreader : L'.reader.isSome = L.reader.isSome)
    (hb : L.settings.inRange → L.bounded → L'.bounded) : L.Keeps L' := by
  have hruns' : L'.runs = true := by rw [Lane.runs, hmode]; exact hruns
  refine ⟨fun h => hset ▸ h, fun hr hbound hq => ⟨hb hr hbound, fun hno => ?_, ?_⟩⟩
  · rw [hruns'] at hno; cases hno
  · rw [hreader, hmode]; exact hq.2

/-- A lane with empty buffers in a mode whose session agrees with it. -/
theorem Lane.keeps_of_empty {L L' : Lane} (hset : L'.settings = L.settings) (herr : L'.errors = L.errors)
    (hrx : L'.rxFifo = []) (hframe : L'.frame = []) (hreplay : L'.replay = []) (hslot : L'.slot = none)
    (hout : L'.outbound = []) (htx : L'.txFifo = []) (hreader : L'.reader.isSome = true ↔ L'.mode = .ready) :
    L.Keeps L' := by
  refine ⟨fun h => hset ▸ h, fun hr hb _ => ⟨?_, fun _ => ⟨hrx, hframe, hreplay, hslot, hout, htx⟩, hreader⟩⟩
  obtain ⟨_, _, _, _, hline, hcheck, horder⟩ := hb
  obtain ⟨hhigh, _⟩ := hr
  have hfill : L'.fill = 0 := by rw [Lane.fill, hrx]; rfl
  rw [Lane.bounded, hfill, htx, hout, herr, hset]
  exact ⟨by decide, by decide, by decide, fun h => by omega, hline, hcheck, horder⟩

/-- An operation that changes no setting, mode, session, error counter or buffer, apart from what a lane that
does not run keeps empty, which it leaves as it is. -/
theorem Lane.keeps_of_same {L L' : Lane}
    (h : L' = { L with rxLine := L'.rxLine, txLine := L'.txLine, holdIn := L'.holdIn }) : L.Keeps L' := by
  rw [h]; exact ⟨fun h => h, fun _ hb hq => ⟨hb, hq⟩⟩

/-! ## The outbound side (R129 to R131) -/

theorem length_offerTo {l : List PartFrame} (h : l.length ≤ 4) (f : PartFrame) : (offerTo l f).length ≤ 4 := by
  unfold offerTo
  split
  · next hroom => rw [List.length_append]; exact hroom
  · split
    · exact h
    · dsimp only
      split
      · next hroom => rw [List.length_append]; exact hroom
      · exact h

theorem Lane.keeps_offer (L : Lane) (f : PartFrame) : L.Keeps (L.offer f) := by
  unfold Lane.offer
  split
  · next hruns =>
    refine Lane.keeps_of_runs hruns rfl rfl rfl fun _ ⟨hfill, htx, hout, hhold, herr⟩ => ?_
    exact ⟨hfill, htx, length_offerTo hout f, hhold, herr⟩
  · exact Lane.Keeps.refl L

/-- The head frame moves to the transmit FIFO with the room it needs (R130). -/
theorem Lane.keeps_moved {L : Lane} (hruns : L.runs = true) {f : PartFrame} {rest : List PartFrame}
    {bytes : List Byte} (hout : L.outbound = f :: rest) (hfits : L.txFifo.length + bytes.length ≤ 64)
    (next : Byte) :
    L.Keeps { L with outbound := rest, txFifo := L.txFifo ++ bytes, nextPart := next } := by
  refine Lane.keeps_of_runs hruns rfl rfl rfl fun _ ⟨hfill, _, hlen, hhold, herr⟩ => ?_
  rw [hout] at hlen
  exact ⟨hfill, by rw [List.length_append]; exact hfits, Nat.le_of_succ_le hlen, hhold, herr⟩

theorem Lane.keeps_transmit {L : Lane} (hruns : L.runs = true) {b : Byte} {rest : List Byte}
    (htx : L.txFifo = b :: rest) (line : Option Byte) :
    L.Keeps { L with txFifo := rest, txLine := line } := by
  refine Lane.keeps_of_runs hruns rfl rfl rfl fun _ ⟨hfill, hlen, hout, hhold, herr⟩ => ?_
  rw [htx] at hlen
  exact ⟨hfill, Nat.le_of_succ_le hlen, hout, hhold, herr⟩

/-! ## Modes and sessions (R121, R136, R143, R144) -/

theorem Lane.keeps_stopped (L : Lane) {mode : LaneMode} (h : mode ≠ .ready) : L.Keeps (L.stopped mode) :=
  Lane.keeps_of_empty rfl rfl rfl rfl rfl rfl rfl rfl ⟨fun h => (by cases h), fun hm => absurd hm h⟩

theorem Lane.keeps_broken (L : Lane) : L.Keeps L.broken :=
  Lane.keeps_of_empty rfl rfl rfl rfl rfl rfl rfl rfl ⟨fun h => (by cases h), fun h => (by cases h)⟩

/-- A greeted lane runs, with a session (R143). -/
theorem Lane.keeps_greet (L : Lane) (session : ReaderSession) : L.Keeps (L.greet session) := by
  refine ⟨fun h => h, fun _ hb _ => ⟨?_, fun hno => (by cases hno), ⟨fun _ => rfl, fun _ => rfl⟩⟩⟩
  obtain ⟨hfill, htx, _, hhold, herr⟩ := hb
  exact ⟨hfill, htx, Nat.zero_le _, hhold, herr⟩

theorem Lane.keeps_clearOutbound (L : Lane) : L.Keeps L.clearOutbound := by
  refine ⟨fun h => h, fun _ hb hq => ⟨?_, fun hno => ?_, hq.2⟩⟩
  · obtain ⟨hfill, _, _, hhold, herr⟩ := hb
    exact ⟨hfill, Nat.zero_le _, Nat.zero_le _, hhold, herr⟩
  · obtain ⟨hrx, hframe, hreplay, hslot, _, _⟩ := hq.1 hno
    exact ⟨hrx, hframe, hreplay, hslot, rfl, rfl⟩

theorem Lane.keeps_advanceExpected (L : Lane) : L.Keeps L.advanceExpected := by
  refine ⟨fun h => h, fun _ hb hq => ⟨hb, hq.1, ?_⟩⟩
  rw [← show L.reader.isSome = L.advanceExpected.reader.isSome by
    cases hr : L.reader <;> simp [Lane.advanceExpected, hr]]
  exact hq.2

/-- LANE OPEN: a HELD lane, with nothing in it, is DOWN (R133). -/
theorem Lane.keeps_open {L : Lane} (h : L.mode = .held) : L.Keeps { L with mode := .down } := by
  refine ⟨fun h => h, fun _ hb hq => ⟨hb, fun hno => (by cases hno), ⟨fun hr => ?_, fun hm => (by cases hm)⟩⟩⟩
  have := hq.2.mp hr
  rw [h] at this
  cases this

/-- LANE SETUP: a HELD lane, with nothing in it, takes settings in range (R134). -/
theorem Lane.keeps_setup {L : Lane} (h : L.mode = .held) {c : LaneSettings}
    (hc : L.settings.inRange → c.inRange) : L.Keeps { L with settings := c } := by
  refine ⟨hc, fun hs hb hq => ⟨?_, hq⟩⟩
  have hruns : L.runs = false := by rw [Lane.runs, h]; rfl
  obtain ⟨hrx, _⟩ := hq.1 hruns
  have hfill : L.fill = 0 := by rw [Lane.fill, hrx]; rfl
  obtain ⟨hle, htx, hout, _, herr⟩ := hb
  refine ⟨hle, htx, hout, fun hhigh => ?_, herr⟩
  obtain ⟨hlow, _⟩ := hc hs
  have : c.high ≤ L.fill := hhigh
  omega

/-! ## The receive side (R125 to R128) -/

/-- The receive FIFO of a lane that runs changes, with its fill hold. -/
theorem Lane.keeps_receive {L L' : Lane} (hruns : L.runs = true)
    (h : L' = { L with
      rxFifo := L'.rxFifo, fillHold := L'.fillHold, assembler := L'.assembler, frame := L'.frame
      replay := L'.replay, slot := L'.slot })
    (hb : L.settings.inRange → L.fill ≤ 128 → (L.settings.high ≤ L.fill → L.fillHold = true) →
      L'.fill ≤ 128 ∧ (L.settings.high ≤ L'.fill → L'.fillHold = true)) : L.Keeps L' := by
  refine Lane.keeps_of_runs hruns (by rw [h]) (by rw [h]) (by rw [h]) fun hr ⟨hfill, htx, hout, hhold, herr⟩ => ?_
  obtain ⟨hfill', hhold'⟩ := hb hr hfill hhold
  have htx' : L'.txFifo = L.txFifo := by rw [h]
  have hout' : L'.outbound = L.outbound := by rw [h]
  have hset' : L'.settings = L.settings := by rw [h]
  have herr' : L'.errors = L.errors := by rw [h]
  rw [Lane.bounded, htx', hout', hset', herr']
  exact ⟨hfill', htx, hout, hhold', herr⟩

/-- The assembler and the slot of a lane that runs change; its receive FIFO stays. -/
theorem Lane.keeps_assembler {L L' : Lane} (hruns : L.runs = true)
    (h : L' = { L with
      assembler := L'.assembler, frame := L'.frame, replay := L'.replay, slot := L'.slot }) : L.Keeps L' := by
  have hrx : L'.rxFifo = L.rxFifo := by rw [h]
  have hhold : L'.fillHold = L.fillHold := by rw [h]
  refine Lane.keeps_receive hruns (by rw [h]) fun _ hfill hh => ?_
  rw [hhold, show L'.fill = L.fill by rw [Lane.fill, hrx]; rfl]
  exact ⟨hfill, hh⟩

theorem fill_byte (L : Lane) (b : Byte) (rest : List RxItem) (h : L.rxFifo = .byte b :: rest) :
    L.fill = ({ L with rxFifo := rest } : Lane).fill + 1 := by
  simp [Lane.fill, h]

theorem fill_append (L : Lane) (b : Byte) : (L.append b).fill = L.fill + 1 := by
  simp [Lane.fill, Lane.append]

theorem Lane.keeps_append {L : Lane} (hruns : L.runs = true) (hroom : L.fill < 128) (b : Byte) :
    L.Keeps (L.append b) := by
  refine Lane.keeps_receive hruns rfl fun _ _ _ => ?_
  rw [fill_append]
  refine ⟨hroom, fun hhigh => ?_⟩
  simp only [Lane.append, decide_eq_true hhigh, Bool.or_true]

theorem Lane.keeps_gap {L : Lane} (hruns : L.runs = true) :
    L.Keeps { L with rxFifo := L.rxFifo ++ [.gap] } := by
  refine Lane.keeps_receive hruns rfl fun _ hfill hhold => ?_
  rw [fill_append_gap]
  exact ⟨hfill, hhold⟩

/-- A gap marker taken from the FIFO counts in no fill (R125). -/
theorem Lane.keeps_dropGap {L : Lane} (hruns : L.runs = true) {rest : List RxItem}
    (h : L.rxFifo = .gap :: rest) : L.Keeps { L with rxFifo := rest } := by
  have hfill : ({ L with rxFifo := rest } : Lane).fill = L.fill := by simp [Lane.fill, h]
  refine Lane.keeps_receive hruns rfl fun _ hle hhold => ?_
  rw [hfill]
  exact ⟨hle, hhold⟩

/-- A byte taken from the FIFO clears the fill hold only at the low mark or below (R125). -/
theorem Lane.keeps_dropHead {L : Lane} (hruns : L.runs = true) {b : Byte} {rest : List RxItem}
    (h : L.rxFifo = .byte b :: rest) : L.Keeps (L.dropHead rest) := by
  have hfill := fill_byte L b rest h
  have hsame : (L.dropHead rest).fill = ({ L with rxFifo := rest } : Lane).fill := rfl
  refine Lane.keeps_receive hruns rfl fun ⟨_, _, hlow, _⟩ hle hhold => ?_
  rw [hsame]
  refine ⟨by omega, fun hhigh => ?_⟩
  have hheld := hhold (by omega)
  have hstays : L.settings.low < ({ L with rxFifo := rest } : Lane).fill := by omega
  exact Bool.and_eq_true_iff.mpr ⟨hheld, decide_eq_true hstays⟩

theorem assemble_frame (L : Lane) (b : Byte) :
    (L.assemble b).1 =
      { L with
        assembler := (L.assemble b).1.assembler, frame := (L.assemble b).1.frame
        replay := (L.assemble b).1.replay, slot := (L.assemble b).1.slot } := by
  unfold Lane.assemble
  split
  · split <;> rfl
  · split <;> rfl
  · dsimp only
    split
    · rfl
    · split <;> rfl
  · rfl

theorem Lane.keeps_assemble {L : Lane} (hruns : L.runs = true) (b : Byte) : L.Keeps (L.assemble b).1 :=
  Lane.keeps_assembler hruns (assemble_frame L b)

theorem Lane.keeps_assembleGap {L : Lane} (hruns : L.runs = true) : L.Keeps L.assembleGap.1 := by
  refine Lane.keeps_assembler hruns ?_
  unfold Lane.assembleGap
  split <;> rfl

theorem Lane.keeps_takeNext {L : Lane} (hruns : L.runs = true) : L.Keeps L.takeNext.1 := by
  unfold Lane.takeNext
  split
  · next more _ =>
    exact (Lane.keeps_assembler (L' := { L with replay := more }) hruns rfl).trans
      (Lane.keeps_assemble (L := { L with replay := more }) hruns _)
  · split
    · exact Lane.Keeps.refl L
    · next rest h =>
      exact (Lane.keeps_dropGap hruns h).trans (Lane.keeps_assembleGap (L := { L with rxFifo := rest }) hruns)
    · next rest h =>
      exact (Lane.keeps_dropHead hruns h).trans (Lane.keeps_assemble (L := L.dropHead rest) hruns _)

theorem Lane.keeps_emptySlot (L : Lane) : L.Keeps L.emptySlot := by
  refine ⟨fun h => h, fun _ hb hq => ⟨hb, fun hno => ?_, hq.2⟩⟩
  obtain ⟨hrx, hframe, hreplay, _, hout, htx⟩ := hq.1 hno
  exact ⟨hrx, hframe, hreplay, rfl, hout, htx⟩

theorem Lane.keeps_erase (L : Lane) : L.Keeps L.erase := by
  rw [lane_erase_eq]
  split
  · exact L.keeps_emptySlot
  · exact Lane.Keeps.refl L

/-! ## Error counters (R152 to R154, R159) -/

theorem value_advanceCounter {c : ErrorCounter} (h : c.value ≤ 255) (choice : TerminalChoice) :
    (advanceCounter choice c).1.value ≤ 255 := by
  unfold advanceCounter
  split
  · next hlt => exact Nat.le_succ_of_le hlt
  · split
    · exact le_rfl
    · cases choice with
      | hold => exact h
      | wrap => exact Nat.zero_le _

theorem Lane.keeps_counted (L : Lane) (kind : ErrorKind) (choice : TerminalChoice) :
    L.Keeps { L with errors := L.errors.set kind (advanceCounter choice (L.errors.get kind)).1 } := by
  refine ⟨fun h => h, fun _ hb hq => ⟨?_, hq⟩⟩
  obtain ⟨hfill, htx, hout, hhold, hline, hcheck, horder⟩ := hb
  refine ⟨hfill, htx, hout, hhold, ?_⟩
  cases kind with
  | line => exact ⟨value_advanceCounter hline choice, hcheck, horder⟩
  | check => exact ⟨hline, value_advanceCounter hcheck choice, horder⟩
  | order => exact ⟨hline, hcheck, value_advanceCounter horder choice⟩

theorem Lane.keeps_cleared (L : Lane) : L.Keeps { L with errors := startErrors } := by
  refine ⟨fun h => h, fun _ hb hq => ⟨?_, hq⟩⟩
  obtain ⟨hfill, htx, hout, hhold, _⟩ := hb
  exact ⟨hfill, htx, hout, hhold, Nat.zero_le _, Nat.zero_le _, Nat.zero_le _⟩

/-! ## Starts (R180) -/

theorem Lane.keeps_start (L : Lane) {mode : LaneMode} (h : mode ≠ .ready) (holdIn : Bool) :
    L.Keeps (startLane mode holdIn) := by
  have hset : startSettings.inRange := by
    exact ⟨by decide, by decide, by decide, by decide, by decide⟩
  refine ⟨fun _ => hset, fun _ _ _ => ⟨?_, fun _ => ⟨rfl, rfl, rfl, rfl, rfl, rfl⟩, fun h => (by cases h),
    fun hm => absurd hm h⟩⟩
  have hhigh : ¬ (startLane mode holdIn).settings.high ≤ (startLane mode holdIn).fill := Nat.not_succ_le_zero _
  exact ⟨Nat.zero_le _, Nat.zero_le _, Nat.zero_le _, fun h => absurd h hhigh, Nat.zero_le _, Nat.zero_le _,
    Nat.zero_le _⟩

theorem startMode_ne_ready (o : Option Commissioning) (l : LaneId) : startMode o l ≠ .ready := by
  unfold startMode
  split
  · split <;> decide
  · decide

end Sys2Proof.Machine
end


section
/-! PROOFS. What every operation keeps outside the record table, the keys and the engine: the commands
waiting, the commissioning record, the order of the KEYS causes, the settings, the lanes. -/

namespace Sys2Proof.Machine

/-- The commands waiting stay; the commissioning record, once written, stays (R178); the KEYS causes keep
their order (R173); the settings keep to their ranges, and the lanes keep what a lane keeps. -/
structure Calm (s t : State) : Prop where
  pending : t.pending = s.pending
  commission : ∀ c, s.commission = some c → t.commission = some c
  causes : s.keysCausesOrdered → t.keysCausesOrdered
  limits : s.limits.inRange → t.limits.inRange
  timers : s.timers.inRange → t.timers.inRange
  lanes : ∀ l, (s.lane l).Keeps (t.lane l)

theorem Calm.refl (s : State) : Calm s s :=
  ⟨rfl, fun _ h => h, fun h => h, fun h => h, fun h => h, fun _ => Lane.Keeps.refl _⟩

theorem Calm.trans {s t u : State} (h : Calm s t) (h' : Calm t u) : Calm s u where
  pending := h'.pending.trans h.pending
  commission c hc := h'.commission c (h.commission c hc)
  causes hs := h'.causes (h.causes hs)
  limits hs := h'.limits (h.limits hs)
  timers hs := h'.timers (h.timers hs)
  lanes l := (h.lanes l).trans (h'.lanes l)

/-- Nothing that is to be kept changes. -/
theorem Calm.of_same {s t : State} (hp : t.pending = s.pending) (hc : t.commission = s.commission)
    (hd : t.attention.drained = s.attention.drained) (hw : t.attention.warnings = s.attention.warnings)
    (hl : t.limits = s.limits) (ht : t.timers = s.timers) (hlanes : t.lanes = s.lanes) : Calm s t where
  pending := hp
  commission c h := hc.trans h
  causes h := by rw [State.keysCausesOrdered, hd, hw]; exact h
  limits h := hl ▸ h
  timers h := ht ▸ h
  lanes l := by rw [State.lane, State.lane, hlanes]; exact Lane.Keeps.refl _

section
variable (s : State)

theorem calm_modLane {l : LaneId} {f : Lane → Lane} (h : (s.lane l).Keeps (f (s.lane l))) :
    Calm s (s.modLane l f) where
  pending := rfl
  commission _ hc := hc
  causes hs := hs
  limits hs := hs
  timers hs := hs
  lanes x := by
    rw [State.lane_modLane]
    split
    · next hx => rw [hx]; exact h
    · exact Lane.Keeps.refl _

theorem calm_offer (l : LaneId) (f : PartFrame) : Calm s (s.offer l f) :=
  calm_modLane s (Lane.keeps_offer ..)

theorem calm_modCauses (l : LaneId) (f : LaneCauses → LaneCauses) : Calm s (s.modCauses l f) :=
  Calm.of_same rfl rfl rfl rfl rfl rfl rfl

theorem calm_setCell (slot : Slot) (c : SlotCell) : Calm s (s.setCell slot c) :=
  Calm.of_same rfl rfl rfl rfl rfl rfl rfl

theorem calm_modRecord (slot : Slot) (f : Record → Record) : Calm s (s.modRecord slot f) :=
  Calm.of_same rfl rfl rfl rfl rfl rfl rfl

theorem calm_modBook (l : LaneId) (f : LaneBook → LaneBook) : Calm s (s.modBook l f) :=
  Calm.of_same rfl rfl rfl rfl rfl rfl rfl

theorem calm_setEntry (i : Fin 4) (e : KeyEntry) : Calm s (s.setEntry i e) :=
  Calm.of_same rfl rfl rfl rfl rfl rfl rfl

theorem calm_respond (kind tag : Byte) (status : Status) (body : List Byte) :
    Calm s (s.respond kind tag status body) := Calm.of_same rfl rfl rfl rfl rfl rfl rfl

theorem calm_respondHeld (status : Status) (body : List Byte) : Calm s (s.respondHeld status body) := by
  rw [respondHeld_frame]; exact Calm.of_same rfl rfl rfl rfl rfl rfl rfl

theorem warningBefore_iff (a b : LaneId × Nat) :
    State.warningBefore a b = true ↔ a.1 < b.1 ∨ a.1 = b.1 ∧ a.2 < b.2 := decide_eq_true_iff

theorem warningBefore_trans (a b c : LaneId × Nat) (hab : State.warningBefore a b = true)
    (hbc : State.warningBefore b c = true) : State.warningBefore a c = true := by
  simp only [warningBefore_iff, Fin.lt_def, Fin.ext_iff] at *
  omega

theorem warningBefore_total (a b : LaneId × Nat) (hne : a ≠ b) (hab : State.warningBefore a b = false) :
    State.warningBefore b a = true := by
  have hno : ¬ (a.1 < b.1 ∨ a.1 = b.1 ∧ a.2 < b.2) := fun h => by
    rw [(warningBefore_iff a b).mpr h] at hab
    cases hab
  have hsplit : a.1 = b.1 → a.2 ≠ b.2 := fun h1 h2 => hne (Prod.ext h1 h2)
  simp only [warningBefore_iff, Fin.lt_def, Fin.ext_iff] at *
  omega

theorem calm_latchDrained (g : Nat) : Calm s (s.latchDrained g) where
  pending := rfl
  commission _ hc := hc
  causes := fun ⟨hd, hw⟩ => ⟨insertBy_ascending hd g, hw⟩
  limits hs := hs
  timers hs := hs
  lanes _ := Lane.Keeps.refl _

theorem calm_latchWarning (l : LaneId) (g : Nat) : Calm s (s.latchWarning l g) where
  pending := rfl
  commission _ hc := hc
  causes := fun ⟨hd, hw⟩ => by
    refine ⟨hd, ?_⟩
    have hsorted := insertBy_pairwise warningBefore_trans warningBefore_total (l, g)
      (hw.imp fun h => (warningBefore_iff ..).mpr h)
    exact hsorted.imp fun h => (warningBefore_iff ..).mp h
  limits hs := hs
  timers hs := hs
  lanes _ := Lane.Keeps.refl _

/-- A cause reported leaves the others in their order (R175). -/
theorem calm_clearCause (c : Cause) : Calm s (clearCause s c) := by
  cases c with
  | drained g =>
    exact ⟨rfl, fun _ h => h, fun ⟨hd, hw⟩ => ⟨hd.sublist List.erase_sublist, hw⟩, fun h => h, fun h => h,
      fun _ => Lane.Keeps.refl _⟩
  | warning l g =>
    exact ⟨rfl, fun _ h => h, fun ⟨hd, hw⟩ => ⟨hd, hw.sublist List.erase_sublist⟩, fun h => h, fun h => h,
      fun _ => Lane.Keeps.refl _⟩
  | caseEvent | ready => exact Calm.refl s
  | _ => exact Calm.of_same rfl rfl rfl rfl rfl rfl rfl

theorem calm_takeCounter {s t : State} {g c : Nat} {l : LaneId} {limit : Nat}
    (h : s.takeCounter g l limit = some (c, t)) : Calm s t := by
  unfold State.takeCounter at h
  split at h
  · cases h
  · next i _ =>
    dsimp only at h
    split at h
    · split at h
      · cases h
        exact (calm_setEntry ..).trans (calm_latchWarning ..)
      · cases h
        exact calm_setEntry ..
    · cases h

theorem calm_unbindEntry (g : Nat) : Calm s (s.unbindEntry g) := by
  unfold State.unbindEntry
  split
  · exact Calm.refl s
  · dsimp only
    split
    · exact (calm_setEntry ..).trans (calm_latchDrained ..)
    · exact calm_setEntry ..

theorem calm_turnAway (i : Fin 4) : Calm s (s.turnAway i) := by
  unfold State.turnAway
  dsimp only
  split
  · exact calm_setEntry ..
  · split
    · exact (calm_setEntry ..).trans (calm_latchDrained ..)
    · exact calm_setEntry ..

theorem calm_queueEndFrame (slot : Slot) (kind : EndFrameKind) (frame : Record → PartFrame) :
    Calm s (s.queueEndFrame slot kind frame) := by
  unfold State.queueEndFrame
  split
  · exact Calm.refl s
  · split
    · exact Calm.refl s
    · split
      · exact (calm_offer ..).trans (calm_modRecord ..)
      · exact Calm.of_same rfl rfl rfl rfl rfl rfl rfl

end

end Sys2Proof.Machine
end


section
/-! PROOFS. Handles and slots (R3), and what the parts of the state together keep: the records, the keys, the
jobs and the WAITING set, each sound by itself and agreeing with the others. -/

namespace Sys2Proof.Machine

/-! ## Handles (R3) -/

theorem toNat_handleAt (tag : Tag) (slot : Slot) :
    (handleAt tag slot).toNat = tag.val * 2048 + slot.val := by
  have := tag.isLt
  have := slot.isLt
  rw [handleAt, BitVec.toNat_ofNat, Nat.mod_eq_of_lt]
  omega

@[simp] theorem slotOf_handleAt (tag : Tag) (slot : Slot) : slotOf (handleAt tag slot) = slot := by
  have := slot.isLt
  refine Fin.ext ?_
  change (handleAt tag slot).toNat % 2048 = slot.val
  rw [toNat_handleAt]
  omega

@[simp] theorem tagOf_handleAt (tag : Tag) (slot : Slot) : tagOf (handleAt tag slot) = tag.val := by
  have := slot.isLt
  rw [tagOf, toNat_handleAt]
  omega

@[simp] theorem slotOf_handleOf (s : State) (slot : Slot) : slotOf (s.handleOf slot) = slot := slotOf_handleAt ..

theorem current_eq_some_iff {s : State} {h : Handle} {r : Record} :
    s.current? h = some r ↔ s.recordAt (slotOf h) = some r ∧ (s.cell (slotOf h)).tag.val = tagOf h := by
  unfold State.current?
  split
  · next ht => exact ⟨fun hr => ⟨hr, ht⟩, fun hr => hr.1⟩
  · next ht => exact ⟨fun hr => (by cases hr), fun hr => absurd hr.2 ht⟩

@[simp] theorem current_handleOf (s : State) (slot : Slot) : s.current? (s.handleOf slot) = s.recordAt slot := by
  unfold State.current?
  rw [slotOf_handleOf]
  exact if_pos (tagOf_handleAt ..).symm

/-- A handle is current when it is the current handle of an occupied slot. -/
theorem current_iff_handleOf {s : State} {h : Handle} {r : Record} :
    s.current? h = some r ↔ ∃ x, s.handleOf x = h ∧ s.recordAt x = some r := by
  constructor
  · intro hr
    exact ⟨slotOf h, handleOf_of_current hr, State.recordAt_of_current hr⟩
  · rintro ⟨x, rfl, hr⟩
    rw [current_handleOf, hr]

/-! ## Counting over the slots -/

/-- A sum over the slots after a change in one slot. -/
theorem sum_update {n : Nat} {f g : Fin n → Nat} (x : Fin n) (h : ∀ y, y ≠ x → g y = f y) :
    (∑ y, g y) + f x = (∑ y, f y) + g x := by
  have hrest : (∑ y ∈ Finset.univ.erase x, g y) = ∑ y ∈ Finset.univ.erase x, f y :=
    Finset.sum_congr rfl fun y hy => h y (Finset.ne_of_mem_erase hy)
  have hg := Finset.add_sum_erase _ g (Finset.mem_univ x)
  have hf := Finset.add_sum_erase _ f (Finset.mem_univ x)
  omega

theorem length_filter_finRange {n : Nat} (p : Fin n → Bool) :
    ((List.finRange n).filter p).length = ∑ x, if p x then 1 else 0 := by
  rw [Fin.sum_univ_def, ← List.countP_eq_length_filter]
  induction List.finRange n with
  | nil => rfl
  | cons x rest ih =>
    rw [List.countP_cons, List.map_cons, List.sum_cons, ih, Nat.add_comm]

theorem boundCount_eq_sum (s : State) (g : Nat) :
    s.boundCount g = ∑ x, if (s.recordAt x).any (fun r => r.boundTo g) then 1 else 0 :=
  length_filter_finRange _

/-! ## What a record and a job are by themselves -/

/-- A record has a WAITING entry (R81). -/
def Record.waits (r : Record) : Prop := ∃ f ∈ r.followUps, f.status = .waiting

/-- A record that is well formed, whose WAITING entry is a REVERSAL without a counter beside its card block
(R81), and that has no binding while it is ARMED (R14). -/
structure Record.Sound (r : Record) : Prop where
  wellFormed : r.WellFormed
  waiting : ∀ f ∈ r.followUps, f.status = .waiting → f.kind = .reversal ∧ f.counter = none ∧ r.card.isSome = true
  armed : r.state = .armed → r.binding = none

/-- A job agrees with the record it works for (R107). -/
def Job.agrees (r : Record) : Job → Prop
  | .capture _ l g c => r.state = .capturing ∧ r.lane = l ∧ r.binding = some { generation := g, counter := c }
  | .followUp kind _ _ i l g c => ∃ b e, r.lane = l ∧ r.binding = some b ∧ b.generation = g ∧
      r.followUps[i]? = some e ∧ e.status = .wrapping ∧ e.kind = kind ∧ e.counter = some c
  | .unwrap .. => True

/-- The key entries await the key of a generation being unwrapped (R91). -/
def State.awaits (s : State) (g : Nat) : Prop :=
  s.keys.highest < g ∧ g ≤ 65535 ∧ (∀ i, (s.entry i).state ≠ .pending) ∧ ∃ i, (s.entry i).state = .empty

/-- A job agrees with the records and the key entries (R107); the port's part of a KEY LOAD stands apart. -/
structure State.backs (s : State) (job : Job) : Prop where
  record : ∀ h part, job.target = some (h, part) → ∃ r, s.current? h = some r ∧ job.agrees r
  keys : ∀ g block check, job = .unwrap g block check → s.awaits g

/-- A key-unwrap job stands only while a KEY LOAD is in service (R91). -/
def State.portHolds (s : State) : Prop :=
  (∃ g block check, Job.unwrap g block check ∈ s.jobs) → ∃ tag, s.port.state = .serving 19 tag

theorem jobHolds_iff (s : State) (job : Job) :
    s.jobHolds job ↔
      s.backs job ∧ ((∃ g block check, job = .unwrap g block check) → ∃ tag, s.port.state = .serving 19 tag) := by
  cases job with
  | capture h l g c =>
    constructor
    · rintro ⟨r, hr, hj⟩
      refine ⟨⟨fun h' part ht => ?_, fun g block check hj => (by cases hj)⟩, fun ⟨g, block, check, hj⟩ => (by cases hj)⟩
      cases ht
      exact ⟨r, hr, hj⟩
    · rintro ⟨hb, _⟩
      exact hb.record h 0 rfl
  | followUp kind share h i l g c =>
    constructor
    · rintro ⟨r, b, e, hr, hj⟩
      refine ⟨⟨fun h' part ht => ?_, fun g block check hj => (by cases hj)⟩, fun ⟨g, block, check, hj⟩ => (by cases hj)⟩
      cases ht
      exact ⟨r, hr, b, e, hj⟩
    · rintro ⟨hb, _⟩
      obtain ⟨r, hr, b, e, hj⟩ := hb.record h (i + 1) rfl
      exact ⟨r, b, e, hr, hj⟩
  | unwrap g block check =>
    constructor
    · rintro ⟨hp, hk⟩
      refine ⟨⟨fun h part ht => (by cases ht), fun g' block' check' hj => ?_⟩, fun _ => hp⟩
      cases hj
      exact hk
    · rintro ⟨hb, hp⟩
      exact ⟨hp ⟨g, block, check, rfl⟩, hb.keys g block check rfl⟩

/-! ## What the records, the keys and the jobs keep together -/

/-- The part of the state's consistency that the records, the key entries, the jobs and the WAITING set keep
among themselves. The port, the engagements and the shares stand apart: they hold between the acts of a
step where these hold within. -/
structure State.Core (s : State) : Prop where
  sound : ∀ x r, s.recordAt x = some r → r.Sound
  keys : s.keysWellFormed
  generations : s.generationsHold
  counted : ∀ i m, (s.entry i).material = some m → (s.entry i).bindings = s.boundCount m.generation
  bound : ∀ x r b, s.recordAt x = some r → r.bound = true → r.binding = some b →
    ∃ i, (s.entry i).carries b.generation = true ∧ ((s.entry i).state = .active ∨ (s.entry i).state = .draining)
  jobs : ∀ job ∈ s.jobs, s.backs job
  targets : (s.jobs.map Job.target).Nodup
  ascending : s.table.waiting.Pairwise fun a b => a < b
  waits : ∀ x, x ∈ s.table.waiting ↔ ∃ r, s.recordAt x = some r ∧ r.waits

/-- While a reversal waits the automatic share is full (R81). -/
def State.full (s : State) : Prop := s.table.waiting ≠ [] → 8 ≤ s.automaticCount

/-- No two entries carry one generation: the one that carries it is the one found (R89). -/
theorem entryOf_eq_some_of_carries {s : State} (h : s.generationsHold) {g : Nat} {i : Fin 4}
    (hc : (s.entry i).carries g = true) : s.entryOf g = some i := by
  rw [entryOf_eq_some_iff]
  rw [carries_iff] at hc
  refine ⟨hc, fun j hj hcj => ?_⟩
  obtain ⟨m, hm, hg⟩ := Option.map_eq_some_iff.mp hc
  obtain ⟨n, hn, hg'⟩ := Option.map_eq_some_iff.mp hcj
  have := h.2.1 i j m n hm hn (hg.trans hg'.symm)
  exact absurd this.symm (Fin.ne_of_lt hj)

theorem core_of_consistent {s : State} (h : s.Consistent) : s.Core where
  sound x r hr := by
    refine ⟨h.records x r hr, fun f hf hw => ?_, h.bindings.2.2 x r hr⟩
    exact h.waiting.2.2.1 x r f hr hf hw
  keys := h.keys
  generations := h.generations
  counted := h.bindings.1
  bound x r b hr hb hbind := by
    obtain ⟨i, hi, hst⟩ := h.bindings.2.1 x r b hr hb hbind
    exact ⟨i, State.carries_of_entryOf hi, hst⟩
  jobs job hj := ((jobHolds_iff s job).mp (h.jobs.1 job hj)).1
  targets := h.jobs.2
  ascending := h.waiting.1
  waits := h.waiting.2.1

theorem portHolds_of_consistent {s : State} (h : s.Consistent) : s.portHolds := by
  rintro ⟨g, block, check, hj⟩
  exact ((jobHolds_iff ..).mp (h.jobs.1 _ hj)).2 ⟨g, block, check, rfl⟩

theorem full_of_consistent {s : State} (h : s.Consistent) : s.full := h.waiting.2.2.2

theorem jobsHold_of_core {s : State} (h : s.Core) (hp : s.portHolds) : s.jobsHold := by
  refine ⟨fun job hj => (jobHolds_iff s job).mpr ⟨h.jobs job hj, ?_⟩, h.targets⟩
  rintro ⟨g, block, check, rfl⟩
  exact hp ⟨g, block, check, hj⟩

theorem waitingHolds_of_core {s : State} (h : s.Core) (hf : s.full) : s.waitingHolds :=
  ⟨h.ascending, h.waits, fun x r f hr hf hw => (h.sound x r hr).waiting f hf hw, hf⟩

theorem bindingsHold_of_core {s : State} (h : s.Core) : s.bindingsHold := by
  refine ⟨h.counted, fun x r b hr hb hbind => ?_, fun x r hr => (h.sound x r hr).armed⟩
  obtain ⟨i, hc, hst⟩ := h.bound x r b hr hb hbind
  exact ⟨i, entryOf_eq_some_of_carries h.generations hc, hst⟩

end Sys2Proof.Machine
end


section
/-! PROOFS. How the records, the keys, the jobs and the WAITING set stay in agreement when jobs leave or are
placed, when one record changes, and when the key entries change. -/

namespace Sys2Proof.Machine

section
variable {s t : State}

theorem recordAt_congr (hcell : ∀ x, t.cell x = s.cell x) (x : Slot) : t.recordAt x = s.recordAt x :=
  congrArg SlotCell.record (hcell x)

theorem current_congr (hcell : ∀ x, t.cell x = s.cell x) (h : Handle) : t.current? h = s.current? h := by
  unfold State.current?
  rw [hcell, recordAt_congr hcell]

theorem boundCount_congr (hcell : ∀ x, t.cell x = s.cell x) (g : Nat) : t.boundCount g = s.boundCount g := by
  simp only [State.boundCount, recordAt_congr hcell]

theorem awaits_congr (hk : t.keys = s.keys) (g : Nat) : t.awaits g ↔ s.awaits g := by
  simp only [State.awaits, State.entry, hk]

theorem State.backs.congr {job : Job} (hb : s.backs job) (hcell : ∀ x, t.cell x = s.cell x)
    (hk : t.keys = s.keys) : t.backs job where
  record h part ht := by
    obtain ⟨r, hr, ha⟩ := hb.record h part ht
    exact ⟨r, (current_congr hcell h).trans hr, ha⟩
  keys g block check hj := (awaits_congr hk g).mpr (hb.keys g block check hj)

/-! ## Jobs leave, and a job is placed -/

theorem entry_congr (hk : t.keys = s.keys) (i : Fin 4) : t.entry i = s.entry i := by
  rw [State.entry, State.entry, hk]

theorem keysWellFormed_congr (hk : t.keys = s.keys) (h : s.keysWellFormed) : t.keysWellFormed := by
  simpa only [State.keysWellFormed, entry_congr hk] using h

theorem generationsHold_congr (hk : t.keys = s.keys) (h : s.generationsHold) : t.generationsHold := by
  simpa only [State.generationsHold, entry_congr hk, hk] using h

/-- Some of the jobs leave. -/
theorem State.Core.jobs_leave (h : s.Core) (hcell : ∀ x, t.cell x = s.cell x)
    (hw : t.table.waiting = s.table.waiting) (hk : t.keys = s.keys) (hj : t.jobs.Sublist s.jobs) : t.Core where
  sound x r hr := h.sound x r ((recordAt_congr hcell x).symm.trans hr)
  keys := keysWellFormed_congr hk h.keys
  generations := generationsHold_congr hk h.generations
  counted i m hm := by
    rw [entry_congr hk] at hm ⊢
    rw [boundCount_congr hcell]
    exact h.counted i m hm
  bound x r b hr hb hbind := by
    simp only [entry_congr hk]
    exact h.bound x r b ((recordAt_congr hcell x).symm.trans hr) hb hbind
  jobs job hjob := (h.jobs job (hj.subset hjob)).congr hcell hk
  targets := h.targets.sublist (hj.map _)
  ascending := hw ▸ h.ascending
  waits x := by
    rw [hw, recordAt_congr hcell]
    exact h.waits x

/-- A job is placed that agrees with what it works for, and works for what no other job does. -/
theorem State.Core.job_placed (h : s.Core) (hcell : ∀ x, t.cell x = s.cell x)
    (hw : t.table.waiting = s.table.waiting) (hk : t.keys = s.keys) {job : Job} (hj : t.jobs = s.jobs ++ [job])
    (hb : s.backs job) (hfresh : job.target ∉ s.jobs.map Job.target) : t.Core where
  sound x r hr := h.sound x r ((recordAt_congr hcell x).symm.trans hr)
  keys := keysWellFormed_congr hk h.keys
  generations := generationsHold_congr hk h.generations
  counted i m hm := by
    rw [entry_congr hk] at hm ⊢
    rw [boundCount_congr hcell]
    exact h.counted i m hm
  bound x r b hr hb hbind := by
    simp only [entry_congr hk]
    exact h.bound x r b ((recordAt_congr hcell x).symm.trans hr) hb hbind
  jobs j hjob := by
    rw [hj, List.mem_append, List.mem_singleton] at hjob
    rcases hjob with hjob | rfl
    · exact (h.jobs j hjob).congr hcell hk
    · exact hb.congr hcell hk
  targets := by
    rw [hj, List.map_append, List.nodup_append]
    refine ⟨h.targets, List.nodup_singleton _, fun a ha b hb hab => ?_⟩
    rw [List.map_singleton, List.mem_singleton] at hb
    exact hfresh (hb ▸ hab ▸ ha)
  ascending := hw ▸ h.ascending
  waits x := by
    rw [hw, recordAt_congr hcell]
    exact h.waits x

end

/-! ## One record changes -/

/-- A record may stand for another one in its slot, among some jobs and by its handle: what the keys and the
jobs read of it stays. -/
structure Fits (jobs : List Job) (h : Handle) (r q : Record) : Prop where
  sound : r.Sound → q.Sound
  bound : q.bound = r.bound
  binding : q.binding = r.binding
  agrees : ∀ job ∈ jobs, ∀ part, job.target = some (h, part) → job.agrees r → job.agrees q

/-- A cell holds a record in the place of another. -/
def Replaces (s t : State) (x : Slot) (q : Record) : Prop :=
  ∀ y, t.cell y = if y = x then { tag := (s.cell x).tag, record := some q } else s.cell y

section
variable {s t : State} {x : Slot} {r q : Record}

theorem replaces_withRecordAt (s : State) (x : Slot) (q : Record) : Replaces s (s.withRecordAt x q) x q :=
  fun _ => State.cell_setCell ..

theorem Replaces.recordAt (h : Replaces s t x q) (y : Slot) :
    t.recordAt y = if y = x then some q else s.recordAt y := by
  rw [State.recordAt, h y]
  split <;> rfl

theorem Replaces.tag (h : Replaces s t x q) (y : Slot) : (t.cell y).tag = (s.cell y).tag := by
  rw [h y]
  split
  · next hy => rw [hy]
  · rfl

theorem Replaces.handleOf (h : Replaces s t x q) (y : Slot) : t.handleOf y = s.handleOf y := by
  rw [State.handleOf, h.tag]; rfl

theorem Replaces.current (h : Replaces s t x q) {hd : Handle} {p : Record} (hp : s.current? hd = some p) :
    t.current? hd = some (if hd = s.handleOf x then q else p) := by
  obtain ⟨y, rfl, hy⟩ := current_iff_handleOf.mp hp
  rw [← h.handleOf y, current_handleOf, h.recordAt, h.handleOf]
  by_cases hyx : y = x
  · subst hyx
    rw [if_pos rfl, if_pos rfl]
  · have hne : s.handleOf y ≠ s.handleOf x := fun heq => hyx (by
      rw [← slotOf_handleOf s y, heq, slotOf_handleOf])
    rw [if_neg hyx, if_neg hne, hy]

theorem backs_replaced {job : Job} (hb : s.backs job) (hcell : Replaces s t x q) (hr : s.recordAt x = some r)
    (hk : t.keys = s.keys) (ha : ∀ part, job.target = some (s.handleOf x, part) → job.agrees r → job.agrees q) :
    t.backs job where
  record h part ht := by
    obtain ⟨p, hp, hagrees⟩ := hb.record h part ht
    refine ⟨_, hcell.current hp, ?_⟩
    split
    · next heq =>
      subst heq
      rw [current_handleOf, hr] at hp
      cases hp
      exact ha part ht hagrees
    · exact hagrees
  keys g block check hj := (awaits_congr hk g).mpr (hb.keys g block check hj)

theorem boundCount_replaced (hcell : Replaces s t x q) (hr : s.recordAt x = some r) (hbound : q.bound = r.bound)
    (hbinding : q.binding = r.binding) (g : Nat) : t.boundCount g = s.boundCount g := by
  refine congrArg List.length (List.filter_congr fun y _ => ?_)
  rw [hcell.recordAt]
  split
  · next hy =>
    subst hy
    rw [hr, Option.any_some, Option.any_some, Record.boundTo, Record.boundTo, hbound, hbinding]
  · rfl

/-- One record changes, and with it the WAITING set. -/
theorem State.Core.record_moved (h : s.Core) (hr : s.recordAt x = some r) (hcell : Replaces s t x q)
    (hk : t.keys = s.keys) (hj : t.jobs.Sublist s.jobs) (hf : Fits t.jobs (s.handleOf x) r q)
    (hasc : t.table.waiting.Pairwise fun a b => a < b) (hx : x ∈ t.table.waiting ↔ q.waits)
    (hother : ∀ y, y ≠ x → (y ∈ t.table.waiting ↔ y ∈ s.table.waiting)) : t.Core where
  sound y p hp := by
    rw [hcell.recordAt] at hp
    split at hp
    · cases hp
      exact hf.sound (h.sound x r hr)
    · exact h.sound y p hp
  keys := keysWellFormed_congr hk h.keys
  generations := generationsHold_congr hk h.generations
  counted i m hm := by
    rw [entry_congr hk] at hm ⊢
    rw [boundCount_replaced hcell hr hf.bound hf.binding]
    exact h.counted i m hm
  bound y p b hp hb hbind := by
    simp only [entry_congr hk]
    rw [hcell.recordAt] at hp
    split at hp
    · cases hp
      exact h.bound x r b hr (hf.bound ▸ hb) (hf.binding ▸ hbind)
    · exact h.bound y p b hp hb hbind
  jobs job hjob :=
    backs_replaced (h.jobs job (hj.subset hjob)) hcell hr hk fun part => hf.agrees job hjob part
  targets := h.targets.sublist (hj.map _)
  ascending := hasc
  waits y := by
    rw [hcell.recordAt]
    split
    · next hy =>
      subst hy
      rw [hx]
      exact ⟨fun hq => ⟨q, rfl, hq⟩, fun ⟨p, hp, hpw⟩ => (by cases hp; exact hpw)⟩
    · next hy => rw [hother y hy, h.waits]

/-- One record changes, WAITING as before. -/
theorem State.Core.record_changed (h : s.Core) (hr : s.recordAt x = some r) (hcell : Replaces s t x q)
    (hw : t.table.waiting = s.table.waiting) (hk : t.keys = s.keys) (hj : t.jobs.Sublist s.jobs)
    (hf : Fits t.jobs (s.handleOf x) r q) (hwaits : q.waits ↔ r.waits) : t.Core := by
  refine h.record_moved hr hcell hk hj hf (hw ▸ h.ascending) ?_ fun y _ => by rw [hw]
  rw [hw, h.waits, hwaits, hr]
  exact ⟨fun ⟨p, hp, hpw⟩ => (by cases hp; exact hpw), fun hq => ⟨r, rfl, hq⟩⟩

end

/-! ## The key entries change -/

/-- The key entries change as nothing else does. -/
theorem State.Core.keys_changed {s t : State} (h : s.Core) (hcell : ∀ x, t.cell x = s.cell x)
    (hw : t.table.waiting = s.table.waiting) (hj : t.jobs.Sublist s.jobs) (hkeys : t.keysWellFormed)
    (hgen : t.generationsHold)
    (hcounted : ∀ i m, (t.entry i).material = some m → (t.entry i).bindings = s.boundCount m.generation)
    (hbound : ∀ i g, (s.entry i).carries g = true → s.boundCount g ≠ 0 →
      (s.entry i).state = .active ∨ (s.entry i).state = .draining →
      (t.entry i).carries g = true ∧ ((t.entry i).state = .active ∨ (t.entry i).state = .draining))
    (hawaits : ∀ g block check, Job.unwrap g block check ∈ t.jobs → s.awaits g → t.awaits g) : t.Core where
  sound x r hr := h.sound x r ((recordAt_congr hcell x).symm.trans hr)
  keys := hkeys
  generations := hgen
  counted i m hm := by
    rw [boundCount_congr hcell]
    exact hcounted i m hm
  bound x r b hr hb hbind := by
    rw [recordAt_congr hcell] at hr
    obtain ⟨i, hc, hst⟩ := h.bound x r b hr hb hbind
    refine ⟨i, hbound i _ hc (fun hzero => ?_) hst⟩
    rw [State.boundCount, List.length_eq_zero_iff, List.filter_eq_nil_iff] at hzero
    refine hzero x (List.mem_finRange x) ?_
    rw [hr, Option.any_some, Record.boundTo, hb, hbind]
    simp
  jobs job hjob := by
    have hb := h.jobs job (hj.subset hjob)
    refine ⟨fun hd part ht => ?_, fun g block check hjob' => ?_⟩
    · obtain ⟨r, hr, ha⟩ := hb.record hd part ht
      exact ⟨r, (current_congr hcell hd).trans hr, ha⟩
    · subst hjob'
      exact hawaits g block check hjob (hb.keys g block check rfl)
  targets := h.targets.sublist (hj.map _)
  ascending := hw ▸ h.ascending
  waits x := by
    rw [hw, recordAt_congr hcell]
    exact h.waits x

end Sys2Proof.Machine
end


section
/-! PROOFS. What the engine's own work changes (R81, R110): follow-up entries, counters and jobs, and of the
rest of the state nothing. -/

namespace Sys2Proof.Machine

/-! ## A record the engine has worked on -/

/-- A record whose follow-up entries have moved on, none added and none of another kind, its card block kept or
erased. -/
structure Reworked (r q : Record) : Prop where
  same : q = { r with followUps := q.followUps, late := q.late, card := q.card }
  kinds : q.followUps.map FollowUp.kind = r.followUps.map FollowUp.kind
  card : q.card = r.card ∨ q.card = none

theorem Reworked.refl (r : Record) : Reworked r r := ⟨rfl, rfl, .inl rfl⟩

theorem Reworked.trans {r q p : Record} (h : Reworked r q) (h' : Reworked q p) : Reworked r p where
  same := by rw [h'.same, h.same]
  kinds := h'.kinds.trans h.kinds
  card := by
    rcases h'.card with hp | hp
    · rw [hp]; exact h.card
    · exact .inr hp

theorem adjustCount_eq (r : Record) :
    r.adjustCount = ((r.followUps.map FollowUp.kind).filter fun k => k = .adjust).length := by
  rw [List.filter_map, List.length_map]; rfl

/-- What a record's form asks of its follow-ups is asked of their kinds (R18, R75). -/
theorem Reworked.wellFormed {r q : Record} (h : Reworked r q) (hr : r.WellFormed) : q.WellFormed := by
  have hlen : q.followUps ≠ [] → r.followUps ≠ [] := fun hq hnil => hq (by
    have := congrArg List.length h.kinds
    rw [hnil, List.length_map] at this
    exact List.eq_nil_of_length_eq_zero this)
  have hmem : (∃ f ∈ q.followUps, f.kind = .reversal) → ∃ f ∈ r.followUps, f.kind = .reversal := by
    rintro ⟨f, hf, hk⟩
    have hmem := List.mem_map_of_mem (f := FollowUp.kind) hf
    rw [h.kinds, hk] at hmem
    exact List.mem_map.mp hmem
  have hlast : ∀ f ∈ q.followUps.dropLast, f.kind = .adjust := fun f hf => by
    have hmem := List.mem_map_of_mem (f := FollowUp.kind) hf
    rw [List.map_dropLast, h.kinds, ← List.map_dropLast] at hmem
    obtain ⟨e, he, hk⟩ := List.mem_map.mp hmem
    exact hk ▸ hr.reversalLast e he
  have hcount : q.adjustCount = r.adjustCount := by rw [adjustCount_eq, adjustCount_eq, h.kinds]
  have hcard : q.card.isSome = true → r.card.isSome = true := by
    rcases h.card with hc | hc
    · rw [hc]; exact id
    · rw [hc]; intro hno; cases hno
  have hsame := h.same
  generalize q.followUps = fs at *
  generalize q.late = late at *
  generalize q.card = card at *
  subst hsame
  exact { hr with
    card := fun hc => hr.card (hcard hc)
    followUps := fun hf => hr.followUps (hlen hf)
    adjusts := hcount ▸ hr.adjusts
    reversal := fun hf => hr.reversal (hmem hf)
    reversalLast := hlast }

/-! ## Entries that have handed out counters -/

/-- A key entry whose counters have gone up, within what a counter may be (R88, R99). -/
structure Counted (e e' : KeyEntry) : Prop where
  same : e' = { e with counters := e'.counters }
  rises : ∀ l, look e.counters l ≤ look e'.counters l
  wellFormed : e.WellFormed → e'.WellFormed

theorem Counted.refl (e : KeyEntry) : Counted e e := ⟨rfl, fun _ => le_rfl, id⟩

theorem Counted.trans {e f g : KeyEntry} (h : Counted e f) (h' : Counted f g) : Counted e g where
  same := by rw [h'.same, h.same]
  rises l := (h.rises l).trans (h'.rises l)
  wellFormed hw := h'.wellFormed (h.wellFormed hw)

theorem Counted.state {e e' : KeyEntry} (h : Counted e e') : e'.state = e.state := by rw [h.same]
theorem Counted.material {e e' : KeyEntry} (h : Counted e e') : e'.material = e.material := by rw [h.same]
theorem Counted.bindings {e e' : KeyEntry} (h : Counted e e') : e'.bindings = e.bindings := by rw [h.same]
theorem Counted.carries {e e' : KeyEntry} (h : Counted e e') (g : Nat) : e'.carries g = e.carries g := by
  rw [KeyEntry.carries, KeyEntry.carries, h.material]

theorem counted_advance {e : KeyEntry} {g : Nat} {l : LaneId} (hc : e.carries g = true)
    (hlt : look e.counters l < 65536) :
    Counted e { e with counters := put e.counters l (look e.counters l + 1) } where
  same := rfl
  rises x := by
    rw [look_put]
    split
    · next hx => rw [hx]; exact Nat.le_succ _
    · exact le_rfl
  wellFormed hw := by
    obtain ⟨hempty, hheld, hle⟩ := hw
    refine ⟨fun hst => ?_, hheld, fun x => ?_⟩
    · rw [hempty hst] at hc
      cases hc
    · rw [look_put]
      split
      · exact hlt
      · exact hle x

/-! ## The engine's work -/

/-- What the engine's work leaves and what it changes: the books, the free list and the port stay, each record
is reworked, the entries hand out counters. -/
structure Works (s t : State) : Prop where
  calm : Calm s t
  free : t.table.free = s.table.free
  books : t.table.books = s.table.books
  storeTotal : t.table.storeTotal = s.table.storeTotal
  tags : ∀ x, (t.cell x).tag = (s.cell x).tag
  records : ∀ x, Option.Rel Reworked (s.recordAt x) (t.recordAt x)
  entries : ∀ i, Counted (s.entry i) (t.entry i)
  highest : t.keys.highest = s.keys.highest
  port : t.port = s.port

theorem optionRel_refl {α : Type} {R : α → α → Prop} (h : ∀ a, R a a) (o : Option α) : Option.Rel R o o := by
  cases o with
  | none => exact .none
  | some a => exact .some (h a)

theorem optionRel_trans {α : Type} {R : α → α → Prop} (h : ∀ a b c, R a b → R b c → R a c) {o p q : Option α}
    (hop : Option.Rel R o p) (hpq : Option.Rel R p q) : Option.Rel R o q := by
  cases hop with
  | none => exact hpq
  | some hab =>
    cases hpq with
    | some hbc => exact .some (h _ _ _ hab hbc)

theorem Works.refl (s : State) : Works s s :=
  ⟨Calm.refl s, rfl, rfl, rfl, fun _ => rfl, fun _ => optionRel_refl Reworked.refl _, fun _ => Counted.refl _, rfl,
    rfl⟩

theorem Works.trans {s t u : State} (h : Works s t) (h' : Works t u) : Works s u where
  calm := h.calm.trans h'.calm
  free := h'.free.trans h.free
  books := h'.books.trans h.books
  storeTotal := h'.storeTotal.trans h.storeTotal
  tags x := (h'.tags x).trans (h.tags x)
  records x := optionRel_trans (R := Reworked) (fun _ _ _ => Reworked.trans) (h.records x) (h'.records x)
  entries i := (h.entries i).trans (h'.entries i)
  highest := h'.highest.trans h.highest
  port := h'.port.trans h.port

/-- Only the engine and the WAITING set change. -/
theorem works_of_engine (s : State) (w : List Slot) (engine : Engine) :
    Works s { s with table := { s.table with waiting := w }, engine := engine } :=
  ⟨Calm.of_same rfl rfl rfl rfl rfl rfl rfl, rfl, rfl, rfl, fun _ => rfl,
    fun _ => optionRel_refl Reworked.refl _, fun _ => Counted.refl _, rfl, rfl⟩

theorem works_setQueue (s : State) (q : List Job) : Works s (s.setQueue q) := works_of_engine s _ _
theorem works_setService (s : State) (v : Service) : Works s (s.setService v) := works_of_engine s _ _
theorem works_setWaiting (s : State) (w : List Slot) : Works s (s.setWaiting w) := works_of_engine s _ _

theorem works_modRecord (s : State) (x : Slot) {f : Record → Record} (hf : ∀ r, Reworked r (f r)) :
    Works s (s.modRecord x f) := by
  refine ⟨calm_modRecord .., rfl, rfl, rfl, fun y => State.tag_modRecord .., fun y => ?_,
    fun _ => Counted.refl _, rfl, rfl⟩
  rw [State.recordAt_modRecord]
  split
  · next hy =>
    subst hy
    cases s.recordAt y with
    | none => exact .none
    | some r => exact .some (hf r)
  · exact optionRel_refl Reworked.refl _

/-- A counter is taken (R99). -/
theorem takeCounter_entries {s t : State} {g c : Nat} {l : LaneId} {limit : Nat} (hlimit : limit ≤ 65536)
    (h : s.takeCounter g l limit = some (c, t)) (i : Fin 4) : Counted (s.entry i) (t.entry i) := by
  unfold State.takeCounter at h
  split at h
  · cases h
  · next j hj =>
    dsimp only at h
    split at h
    · next hlt =>
      have hadvance : ∀ i, Counted (s.entry i) ((s.advanceEntry j l).entry i) := fun i => by
        rw [State.advanceEntry, State.entry_setEntry]
        split
        · next hi =>
          subst hi
          exact counted_advance (State.carries_of_entryOf hj) (hlt.trans_le hlimit)
        · exact Counted.refl _
      split at h <;> cases h <;> exact hadvance i
    · cases h

theorem highest_takeCounter {s t : State} {g c : Nat} {l : LaneId} {limit : Nat}
    (h : s.takeCounter g l limit = some (c, t)) : t.keys.highest = s.keys.highest := by
  unfold State.takeCounter at h
  split at h
  · cases h
  · dsimp only at h
    split at h
    · split at h <;> cases h <;> rfl
    · cases h

theorem works_takeCounter {s t : State} {g c : Nat} {l : LaneId} {limit : Nat} (hlimit : limit ≤ 65536)
    (h : s.takeCounter g l limit = some (c, t)) : Works s t := by
  have hframe := takeCounter_frame h
  have hcell : ∀ x, t.cell x = s.cell x := fun x => by rw [hframe]; rfl
  refine ⟨calm_takeCounter h, by rw [hframe], by rw [hframe], by rw [hframe], fun x => by rw [hcell],
    fun x => ?_, takeCounter_entries hlimit h, highest_takeCounter h, by rw [hframe]⟩
  rw [recordAt_congr hcell]
  exact optionRel_refl Reworked.refl _

theorem map_modify_of_eq {α β : Type} (f : α → β) {g : α → α} (hg : ∀ a, f (g a) = f a) (l : List α) (i : Nat) :
    (l.modify i g).map f = l.map f := by
  induction l generalizing i with
  | nil => cases i <;> rfl
  | cons a rest ih =>
    cases i with
    | zero => simp [hg]
    | succ i => simp [ih]

theorem kinds_modFollowUp (r : Record) (i : Nat) {f : FollowUp → FollowUp} (hf : ∀ e, (f e).kind = e.kind) :
    (r.modFollowUp i f).followUps.map FollowUp.kind = r.followUps.map FollowUp.kind :=
  map_modify_of_eq _ hf _ _

theorem reworked_modFollowUp (r : Record) (i : Nat) {f : FollowUp → FollowUp} (hf : ∀ e, (f e).kind = e.kind) :
    Reworked r (r.modFollowUp i f) :=
  ⟨rfl, kinds_modFollowUp r i hf, .inl rfl⟩

theorem reworked_failFollowUp (r : Record) (i : Nat) (kind : FollowUpKind) :
    Reworked r (r.failFollowUp i kind) := by
  refine ⟨rfl, kinds_modFollowUp r i (f := fun e => { e with status := .failed }) fun _ => rfl, ?_⟩
  rw [Record.failFollowUp]
  dsimp only
  split
  · exact .inr rfl
  · exact .inl rfl

theorem reworked_completeFollowUp (r : Record) (i : Nat) (kind : FollowUpKind) (payload : List Byte) :
    Reworked r (r.completeFollowUp i kind payload) := by
  refine ⟨rfl, kinds_modFollowUp r i (f := fun e => { e with status := .ready, payload := some payload })
    fun _ => rfl, ?_⟩
  rw [Record.completeFollowUp]
  dsimp only
  split
  · exact .inr rfl
  · exact .inl rfl

theorem works_admitOne (s : State) (x : Slot) (r : Record) (g c : Nat) : Works s (s.admitOne x r g c) := by
  refine (works_modRecord s x fun q => ?_).trans (works_setQueue ..)
  exact reworked_modFollowUp q _ (f := fun e => { e with status := .wrapping, counter := some c }) fun _ => rfl

theorem works_admitFrom (slots : List Slot) (s : State) : Works s (State.admitFrom slots s) := by
  induction slots generalizing s with
  | nil => exact works_setWaiting ..
  | cons slot rest ih =>
    unfold State.admitFrom
    split
    · exact ih s
    · next r _ =>
      split
      · exact ih s
      · split
        · next htake =>
          exact (works_takeCounter le_rfl htake).trans ((works_admitOne ..).trans (works_setWaiting ..))
        · exact (works_modRecord _ _ fun r => reworked_failFollowUp r _ _).trans (ih _)

theorem works_headLeaves (s : State) (job : Job) (rest : List Job) : Works s (s.headLeaves job rest) := by
  unfold State.headLeaves
  split
  · exact (works_setQueue ..).trans (works_admitFrom ..)
  · exact works_setQueue ..

theorem works_endAtOnce (s : State) (job : Job) : Works s (s.endAtOnce job) := by
  cases job with
  | followUp => exact works_modRecord _ _ fun r => reworked_failFollowUp r _ _
  | capture | unwrap => exact Works.refl s

/-- Serving from the head, job by job: each enters service with its copies or ends at once (R110, R111). -/
theorem serveNext_induction {motive : State → State → Prop}
    (nothing : ∀ s : State, s.engine.queue = [] → motive s (s.setService .idle))
    (gathers : ∀ (s : State) job rest inputs, s.engine.queue = job :: rest →
      (s.headLeaves job rest).gather job = some inputs →
      motive s ((s.headLeaves job rest).setService (.serving job inputs)))
    (ends : ∀ (s t : State) job rest, s.engine.queue = job :: rest → (s.headLeaves job rest).gather job = none →
      motive ((s.headLeaves job rest).endAtOnce job) t → motive s t)
    (s : State) : motive s s.serveNext := by
  induction hn : s.engine.queue.length + s.table.waiting.length using Nat.strong_induction_on generalizing s with
  | _ n ih =>
    cases hq : s.engine.queue with
    | nil =>
      rw [serveNext_nil hq]
      exact nothing s hq
    | cons job rest =>
      cases hg : (s.headLeaves job rest).gather job with
      | some inputs =>
        rw [serveNext_gathers hq hg]
        exact gathers s job rest inputs hq hg
      | none =>
        rw [serveNext_ends hq hg]
        refine ends s _ job rest hq hg (ih _ ?_ _ rfl)
        rw [endAtOnce_engine, endAtOnce_waiting, ← hn, hq, List.length_cons]
        have hleft := left_measure s job rest
        rw [← State.headLeaves] at hleft
        omega

theorem works_serveNext (s : State) : Works s s.serveNext :=
  serveNext_induction (motive := Works) (fun _ _ => works_setService ..)
    (fun _ _ _ _ _ _ => (works_headLeaves ..).trans (works_setService ..))
    (fun _ _ _ _ _ _ h => ((works_headLeaves ..).trans (works_endAtOnce ..)).trans h) s

theorem works_placeJob (s : State) (job : Job) : Works s (s.placeJob job) := by
  unfold State.placeJob
  dsimp only
  split
  · split
    · exact (works_setQueue ..).trans (works_setService ..)
    · exact (works_setQueue ..).trans (works_serveNext ..)
  · exact works_setQueue ..
  · exact works_setQueue ..

theorem works_afterJob (s : State) : Works s s.afterJob := by
  unfold State.afterJob
  split
  · exact works_setService ..
  · exact works_serveNext ..

theorem works_engineSupply (s : State) : Works s s.engineSupply := by
  unfold State.engineSupply
  split
  · exact Works.refl s
  · exact works_afterJob s
  · exact works_afterJob s

end Sys2Proof.Machine
end


section
/-! PROOFS. The engine's work keeps the records, the keys, the jobs and the WAITING set in agreement: the
admission of WAITING reversals (R81), serving from the head (R110, R111), a job that ends at once (R82). -/

namespace Sys2Proof.Machine

/-! ## The last entry of a record -/

/-- A record's WAITING entry is its last, a REVERSAL; every entry before it is an ADJUST (R75, R81). -/
theorem Record.Sound.followUps_of_waits {r : Record} (hs : r.Sound) (hw : r.waits) :
    ∃ init e, r.followUps = init ++ [e] ∧ (∀ f ∈ init, f.kind = .adjust ∧ f.status ≠ .waiting) ∧
      e.kind = .reversal ∧ e.status = .waiting ∧ r.waitingIndex = init.length := by
  obtain ⟨f, hf, hfw⟩ := hw
  have hne : r.followUps ≠ [] := List.ne_nil_of_mem hf
  have hsplit := (List.dropLast_append_getLast hne).symm
  have hinit : ∀ g ∈ r.followUps.dropLast, g.kind = .adjust ∧ g.status ≠ .waiting := fun g hg => by
    refine ⟨hs.wellFormed.reversalLast g hg, fun hgw => ?_⟩
    have hrev := (hs.waiting g (List.dropLast_subset _ hg) hgw).1
    rw [hs.wellFormed.reversalLast g hg] at hrev
    cases hrev
  have hlast : f = r.followUps.getLast hne := by
    rw [hsplit, List.mem_append, List.mem_singleton] at hf
    exact hf.resolve_left fun hmem => (hinit f hmem).2 hfw
  refine ⟨_, _, hsplit, hinit, ?_, hlast ▸ hfw, ?_⟩
  · rw [← hlast]; exact (hs.waiting f hf hfw).1
  · rw [Record.waitingIndex, hsplit, List.findIdx_append, List.findIdx_eq_length.mpr, if_neg (lt_irrefl _)]
    · rw [← hlast, List.findIdx_cons, hfw]
      simp
    · intro g hg
      exact decide_eq_false (hinit g hg).2

theorem modify_last {α : Type} (init : List α) (a : α) (f : α → α) :
    (init ++ [a]).modify init.length f = init ++ [f a] := by
  induction init with
  | nil => rfl
  | cons b rest ih => simpa using ih

theorem getElem?_modify_ne {α : Type} (l : List α) {i j : Nat} (h : j ≠ i) (f : α → α) :
    (l.modify i f)[j]? = l[j]? := by
  simp [Ne.symm h]

/-! ## Jobs and the record they work for -/

/-- A job agrees with a record whose state, lane and binding it finds again, and the entry it works for. -/
theorem Job.agrees.congr {r q : Record} {job : Job} {h : Handle} {part : Nat} (ha : job.agrees r)
    (ht : job.target = some (h, part)) (hstate : q.state = r.state) (hlane : q.lane = r.lane)
    (hbinding : q.binding = r.binding)
    (hentry : ∀ i e, part = i + 1 → r.followUps[i]? = some e → e.status = .wrapping →
      q.followUps[i]? = some e) : job.agrees q := by
  cases job with
  | capture h' l g c =>
    obtain ⟨h1, h2, h3⟩ := ha
    exact ⟨hstate.trans h1, hlane.trans h2, hbinding.trans h3⟩
  | followUp kind share h' i l g c =>
    obtain ⟨b, e, h1, h2, h3, h4, h5, h6⟩ := ha
    cases ht
    exact ⟨b, e, hlane.trans h1, hbinding.trans h2, h3, hentry i e rfl h4 h5, h5, h6⟩
  | unwrap => trivial

theorem Reworked.sound {r q : Record} (h : Reworked r q) (hs : r.Sound)
    (hw : ∀ f ∈ q.followUps, f.status = .waiting → f.kind = .reversal ∧ f.counter = none ∧ q.card.isSome = true) :
    q.Sound := by
  refine ⟨h.wellFormed hs.wellFormed, hw, fun ha => ?_⟩
  have hstate : q.state = r.state := by rw [h.same]
  have hbinding : q.binding = r.binding := by rw [h.same]
  rw [hbinding]
  exact hs.armed (hstate ▸ ha)

/-- A record reworked in one entry fits where no job works for that entry. -/
theorem Reworked.fits {r q : Record} (h : Reworked r q) (hs : r.Sound) {jobs : List Job} {hd : Handle} {i : Nat}
    (hw : ∀ f ∈ q.followUps, f.status = .waiting → f.kind = .reversal ∧ f.counter = none ∧ q.card.isSome = true)
    (hentry : ∀ j, j ≠ i → q.followUps[j]? = r.followUps[j]?)
    (hfree : ∀ job ∈ jobs, job.target = some (hd, i + 1) → ¬ job.agrees r) : Fits jobs hd r q where
  sound _ := h.sound hs hw
  bound := by rw [h.same]
  binding := by rw [h.same]
  agrees job hj part ht ha := by
    refine ha.congr ht (by rw [h.same]) (by rw [h.same]) (by rw [h.same]) fun j e hpart he _ => ?_
    by_cases hji : j = i
    · subst hji
      subst hpart
      exact absurd ha (hfree job hj ht)
    · rw [hentry j hji, he]

/-! ## Entries that have handed out counters -/

theorem keysWellFormed_of_counted {s t : State} (hent : ∀ i, Counted (s.entry i) (t.entry i))
    (h : s.keysWellFormed) : t.keysWellFormed := by
  refine ⟨fun i => (hent i).wellFormed (h.1 i), fun i j hi hj => ?_⟩
  rw [(hent _).state] at hi hj
  exact h.2 i j hi hj

theorem State.Core.counters_taken {s t : State} (h : s.Core) (hcell : ∀ x, t.cell x = s.cell x)
    (hw : t.table.waiting = s.table.waiting) (hj : t.jobs = s.jobs)
    (hent : ∀ i, Counted (s.entry i) (t.entry i)) (hh : t.keys.highest = s.keys.highest) : t.Core := by
  have hstate := fun i => (hent i).state
  have hmat := fun i => (hent i).material
  refine h.keys_changed hcell hw (by rw [hj]) (keysWellFormed_of_counted hent h.keys) ?_ (fun i m hm => ?_)
    (fun i g hc _ hst => ?_) fun g block check _ ha => ?_
  · simpa only [State.generationsHold, hstate, hmat, hh] using h.generations
  · rw [hmat] at hm
    rw [(hent i).bindings]
    exact h.counted i m hm
  · rw [(hent i).carries, hstate]
    exact ⟨hc, hst⟩
  · simpa only [State.awaits, hstate, hh] using ha

/-- A counter taken (R99), whatever is put in the place of the WAITING set. -/
theorem core_takeCounter {s t : State} {g c : Nat} {l : LaneId} {limit : Nat} (hlimit : limit ≤ 65536)
    (htake : s.takeCounter g l limit = some (c, t)) {w : List Slot} (h : (s.setWaiting w).Core) :
    (t.setWaiting w).Core := by
  have hframe := takeCounter_frame htake
  have hcell : ∀ x, (t.setWaiting w).cell x = (s.setWaiting w).cell x := fun x => by rw [hframe]; rfl
  have hj : (t.setWaiting w).jobs = (s.setWaiting w).jobs := by rw [hframe]; rfl
  have hent := takeCounter_entries hlimit htake
  have hh := highest_takeCounter htake
  exact h.counters_taken hcell rfl hj hent hh

/-- A job that joins the tail is the last of the jobs. -/
theorem jobs_append (s : State) (job : Job) :
    (s.setQueue (s.engine.queue ++ [job])).jobs = s.jobs ++ [job] := by
  cases hv : s.engine.service <;> simp [State.jobs, State.setQueue, hv]

/-! ## Admission (R81) -/

/-- A WAITING entry admitted: WRAPPING with its counter. -/
def Record.admitted (r : Record) (c : Nat) : Record :=
  r.modFollowUp r.waitingIndex fun e => { e with status := .wrapping, counter := some c }

/-- A WAITING entry whose counter is spent: FAILED. -/
def Record.unadmitted (r : Record) : Record := r.failFollowUp r.waitingIndex .reversal

section
variable {r : Record} (hs : r.Sound) (hw : r.waits)
include hs hw

/-- No job works for a WAITING entry. -/
theorem not_agrees_of_waits {job : Job} {h : Handle} (ht : job.target = some (h, r.waitingIndex + 1)) :
    ¬ job.agrees r := by
  obtain ⟨init, e, hfs, _, _, he, hindex⟩ := hs.followUps_of_waits hw
  cases job with
  | capture => cases ht
  | unwrap => cases ht
  | followUp kind share h' i l g c =>
    rintro ⟨b, e', _, _, _, hi, hst, _⟩
    have hii : i = r.waitingIndex := by cases ht; rfl
    rw [hii, hindex, hfs] at hi
    simp only [List.getElem?_append_right (le_refl _), Nat.sub_self, List.getElem?_cons_zero, Option.some.injEq] at hi
    rw [← hi, he] at hst
    cases hst

/-- With its one WAITING entry changed to another status a record waits no more. -/
theorem not_waits_modify {f : FollowUp → FollowUp} (hf : ∀ e, (f e).status ≠ .waiting) :
    ∀ e ∈ (r.modFollowUp r.waitingIndex f).followUps, e.status ≠ .waiting := by
  obtain ⟨init, e, hfs, hinit, _, _, hindex⟩ := hs.followUps_of_waits hw
  intro e' he'
  rw [Record.modFollowUp, hindex, hfs, modify_last, List.mem_append, List.mem_singleton] at he'
  rcases he' with he' | rfl
  · exact (hinit e' he').2
  · exact hf e

theorem admitted_not_waits (c : Nat) : ∀ e ∈ (r.admitted c).followUps, e.status ≠ .waiting :=
  not_waits_modify hs hw fun _ => by simp

theorem unadmitted_not_waits : ∀ e ∈ r.unadmitted.followUps, e.status ≠ .waiting :=
  not_waits_modify (f := fun e => { e with status := .failed }) hs hw fun _ => by simp

theorem fits_admitted (jobs : List Job) (h : Handle) (c : Nat) : Fits jobs h r (r.admitted c) := by
  have hre : Reworked r (r.admitted c) :=
    reworked_modFollowUp r _ (f := fun e => { e with status := .wrapping, counter := some c }) fun _ => rfl
  refine hre.fits hs (fun f hf hfw => absurd hfw (admitted_not_waits hs hw c f hf))
    (fun j hj => getElem?_modify_ne _ hj _) fun job _ ht => not_agrees_of_waits hs hw ht

theorem fits_unadmitted (jobs : List Job) (h : Handle) : Fits jobs h r r.unadmitted := by
  refine (reworked_failFollowUp r _ _).fits hs (fun f hf hfw => absurd hfw (unadmitted_not_waits hs hw f hf))
    (fun j hj => ?_) fun job _ ht => not_agrees_of_waits hs hw ht
  exact getElem?_modify_ne r.followUps hj fun e : FollowUp => { e with status := .failed }

/-- The job of a reversal admitted agrees with its record. -/
theorem agrees_admitted {b : Binding} (hb : r.binding = some b) (h : Handle) (c : Nat) :
    (Job.followUp .reversal .automatic h r.waitingIndex r.lane b.generation c).agrees (r.admitted c) := by
  obtain ⟨init, e, hfs, _, hkind, _, hindex⟩ := hs.followUps_of_waits hw
  refine ⟨b, { e with status := .wrapping, counter := some c }, rfl, hb, rfl, ?_, rfl, hkind, rfl⟩
  rw [Record.admitted, Record.modFollowUp, hindex, hfs, modify_last,
    List.getElem?_append_right (le_refl _), Nat.sub_self, List.getElem?_cons_zero]

end

section
variable {s : State} {x : Slot} {rest : List Slot} (h : (s.setWaiting (x :: rest)).Core)
include h

theorem record_of_waiting : ∃ r b, s.recordAt x = some r ∧ r.waits ∧ r.Sound ∧ r.binding = some b := by
  obtain ⟨r, hr, hw⟩ := (h.waits x).mp (List.mem_cons_self ..)
  have hs := h.sound x r hr
  obtain ⟨f, hf, hfw⟩ := hw
  have hcard := (hs.waiting f hf hfw).2.2
  have hbound := (hs.wellFormed.card hcard).1
  obtain ⟨b, hb⟩ := Option.isSome_iff_exists.mp (hs.wellFormed.bound hbound).1
  exact ⟨r, b, hr, ⟨f, hf, hfw⟩, hs, hb⟩

/-- A slot whose record waits no more leaves the WAITING set. -/
theorem core_waiting_leaves {t : State} {r q : Record} (hr : s.recordAt x = some r) (hcell : Replaces s t x q)
    (hk : t.keys = s.keys) (hj : t.jobs = s.jobs) (hf : Fits s.jobs (s.handleOf x) r q)
    (hq : ∀ e ∈ q.followUps, e.status ≠ .waiting) : (t.setWaiting rest).Core := by
  have hasc : (x :: rest).Pairwise fun a b => a < b := h.ascending
  obtain ⟨hlt, hrest⟩ := List.pairwise_cons.mp hasc
  refine h.record_moved hr hcell hk (by rw [show (t.setWaiting rest).jobs = t.jobs from rfl, hj]; exact List.Sublist.refl _) ?_ hrest
    ⟨fun hx => absurd (hlt x hx) (lt_irrefl _), fun ⟨e, he, hw⟩ => absurd hw (hq e he)⟩ fun y hy => ?_
  · rw [show (t.setWaiting rest).jobs = t.jobs from rfl, hj]
    exact hf
  · exact ⟨fun hm => List.mem_cons_of_mem _ hm, fun hm => (List.mem_cons.mp hm).resolve_left hy⟩

theorem core_admitOne {r : Record} {b : Binding} (hr : s.recordAt x = some r) (hb : r.binding = some b)
    (c : Nat) : ((s.admitOne x r b.generation c).setWaiting rest).Core := by
  obtain ⟨r', _, hr', hw, hs, _⟩ := record_of_waiting h
  cases hr.symm.trans hr'
  have hu : s.modRecord x (fun q => q.modFollowUp r.waitingIndex fun e =>
      { e with status := .wrapping, counter := some c }) = s.withRecordAt x (r.admitted c) := modRecord_eq hr _
  have hcore : ((s.withRecordAt x (r.admitted c)).setWaiting rest).Core :=
    core_waiting_leaves h hr (replaces_withRecordAt s x _) rfl rfl (fits_admitted hs hw _ _ c)
      (admitted_not_waits hs hw c)
  have hhandle : (s.withRecordAt x (r.admitted c)).handleOf x = s.handleOf x :=
    (replaces_withRecordAt s x _).handleOf x
  unfold State.admitOne
  dsimp only
  rw [hu, hhandle]
  refine hcore.job_placed (fun _ => rfl) rfl rfl (job := .followUp .reversal .automatic (s.handleOf x) r.waitingIndex r.lane
    b.generation c) ?_ ⟨fun hd part ht => ?_, fun g block check hj => by cases hj⟩ ?_
  · exact jobs_append (s.withRecordAt x (r.admitted c)) _
  · cases ht
    refine ⟨r.admitted c, ?_, agrees_admitted hs hw hb _ c⟩
    rw [← hhandle]
    exact (current_handleOf ..).trans (recordAt_withRecordAt_self ..)
  · intro hmem
    obtain ⟨job, hjob, ht⟩ := List.mem_map.mp hmem
    obtain ⟨p, hp, ha⟩ := (h.jobs job hjob).record _ _ ht
    have hpr : s.recordAt x = some p := (current_handleOf s x).symm.trans hp
    cases hr.symm.trans hpr
    exact not_agrees_of_waits hs hw ht ha

/-- Admission, from the WAITING set given (R81). -/
theorem core_unadmitted {r : Record} (hr : s.recordAt x = some r) :
    ((s.modRecord x fun q => q.failFollowUp q.waitingIndex .reversal).setWaiting rest).Core := by
  obtain ⟨r', _, hr', hw, hs, _⟩ := record_of_waiting h
  cases hr.symm.trans hr'
  rw [modRecord_eq hr]
  exact core_waiting_leaves h hr (replaces_withRecordAt s x _) rfl rfl (fits_unadmitted hs hw _ _)
    (unadmitted_not_waits hs hw)

end

theorem core_admitFrom (slots : List Slot) (s : State) (h : (s.setWaiting slots).Core) :
    (State.admitFrom slots s).Core := by
  induction slots generalizing s with
  | nil => exact h
  | cons x rest ih =>
    obtain ⟨r, b, hr, _, _, hb⟩ := record_of_waiting h
    unfold State.admitFrom
    simp only [hr, hb]
    split
    · next c s' htake =>
      have hr' : s'.recordAt x = some r := by rw [takeCounter_frame htake]; exact hr
      exact core_admitOne (core_takeCounter le_rfl htake h) hr' hb c
    · exact ih _ (core_unadmitted h hr)

/-! ## Serving from the head (R110, R111) -/

/-- No job is in service. -/
def State.unserved (s : State) : Prop := ∀ job inputs, s.engine.service ≠ .serving job inputs

theorem jobs_of_unserved {s : State} (h : s.unserved) : s.jobs = s.engine.queue := by
  unfold State.jobs
  split
  · next hv => exact absurd hv (h _ _)
  all_goals rfl

theorem jobs_serving (s : State) (job : Job) (inputs : JobInputs) :
    (s.setService (.serving job inputs)).jobs = job :: s.engine.queue := rfl

/-- The state in which a job that leaves the queue is counted as in service. -/
def State.heading (s : State) (job : Job) : State := s.setService (.serving job (.unwrap 0))

theorem core_headLeaves {s : State} {job : Job} {rest : List Job} (hq : s.engine.queue = job :: rest)
    (hu : s.unserved) (h : s.Core) : ((s.headLeaves job rest).heading job).Core := by
  have hpopped : ((s.setQueue rest).heading job).Core := by
    refine h.jobs_leave (fun _ => rfl) rfl rfl ?_
    rw [jobs_of_unserved hu, hq]
    exact List.Sublist.refl _
  unfold State.headLeaves
  split
  · have hadmit := core_admitFrom s.table.waiting ((s.setQueue rest).heading job) hpopped
    rw [State.heading, admitFrom_setService] at hadmit
    exact hadmit
  · exact hpopped

/-- A REVERSAL of a record is its last entry (R75). -/
theorem index_of_reversal {r : Record} (hw : r.WellFormed) {i : Nat} {e : FollowUp}
    (he : r.followUps[i]? = some e) (hk : e.kind = .reversal) : i + 1 = r.followUps.length := by
  have hlt := (List.getElem?_eq_some_iff.mp he).1
  by_contra hne
  have hdrop : r.followUps.dropLast[i]? = some e := by
    rw [List.getElem?_dropLast, if_pos (by omega), he]
  have := hw.reversalLast e (List.mem_of_getElem? hdrop)
  rw [hk] at this
  cases this

end Sys2Proof.Machine
end


section
/-! PROOFS. Serving from the head (R110, R111), a job that ends (R82, R83), a job placed (R109): the records,
the keys, the jobs and the WAITING set stay in agreement, and the shares keep to their capacities. -/

namespace Sys2Proof.Machine

/-! ## A follow-up job that ends (R82, R83) -/

section
variable {r q : Record} {i : Nat} {e : FollowUp} {kind : FollowUpKind} {f : FollowUp → FollowUp}
  (hs : r.Sound) (he : r.followUps[i]? = some e) (hst : e.status ≠ .waiting) (hk : e.kind = kind)
  (hfs : q.followUps = r.followUps.modify i f) (hf : ∀ e, (f e).status ≠ .waiting)

include hfs in
theorem getElem?_of_modified {j : Nat} (hj : j ≠ i) : q.followUps[j]? = r.followUps[j]? := by
  rw [hfs]; exact getElem?_modify_ne _ hj f

include hfs hf in
/-- A WAITING entry of the record after the end of another entry's job was WAITING before. -/
theorem index_of_waiting {e' : FollowUp} (hmem : e' ∈ q.followUps) (hw : e'.status = .waiting) :
    ∃ j, j ≠ i ∧ r.followUps[j]? = some e' := by
  obtain ⟨j, hj⟩ := List.mem_iff_getElem?.mp hmem
  have hne : j ≠ i := by
    rintro rfl
    rw [hfs, List.getElem?_modify_eq] at hj
    obtain ⟨a, _, ha⟩ := Option.map_eq_some_iff.mp hj
    exact hf a (ha ▸ hw)
  exact ⟨j, hne, getElem?_of_modified hfs hne ▸ hj⟩

include he hst hfs hf in
theorem waits_of_modified : q.waits ↔ r.waits := by
  constructor
  · rintro ⟨e', hmem, hw⟩
    obtain ⟨j, _, hj⟩ := index_of_waiting hfs hf hmem hw
    exact ⟨e', List.mem_of_getElem? hj, hw⟩
  · rintro ⟨e', hmem, hw⟩
    obtain ⟨j, hj⟩ := List.mem_iff_getElem?.mp hmem
    have hne : j ≠ i := by
      rintro rfl
      cases he.symm.trans hj
      exact hst hw
    exact ⟨e', List.mem_of_getElem? ((getElem?_of_modified hfs hne).trans hj), hw⟩

include hs he hk hfs hf in
theorem waiting_of_modified (hcard : q.card = if kind = .reversal then none else r.card) :
    ∀ e' ∈ q.followUps, e'.status = .waiting → e'.kind = .reversal ∧ e'.counter = none ∧ q.card.isSome = true := by
  intro e' hmem hw
  obtain ⟨j, hne, hj⟩ := index_of_waiting hfs hf hmem hw
  obtain ⟨hrev, hnone, hcardr⟩ := hs.waiting e' (List.mem_of_getElem? hj) hw
  have hkind : kind ≠ .reversal := fun hkr => hne (by
    have h1 := index_of_reversal hs.wellFormed hj hrev
    have h2 := index_of_reversal hs.wellFormed he (hk.trans hkr)
    omega)
  rw [hcard, if_neg hkind]
  exact ⟨hrev, hnone, hcardr⟩

end

/-- A follow-up job leaves, its entry at its end (R82, R83). -/
theorem core_followUp_ends {s t : State} {kind : FollowUpKind} {share : FollowUpShare} {h : Handle} {i g c : Nat}
    {l : LaneId} (hc : s.Core) (hj : s.jobs = .followUp kind share h i l g c :: t.jobs)
    (hw : t.table.waiting = s.table.waiting) (hk : t.keys = s.keys) {f : FollowUp → FollowUp}
    {closing : Record → Record} (hcell : ∀ r, s.recordAt (slotOf h) = some r → Replaces s t (slotOf h) (closing r))
    (hre : ∀ r, Reworked r (closing r)) (hfs : ∀ r, (closing r).followUps = r.followUps.modify i f)
    (hf : ∀ e, (f e).status ≠ .waiting)
    (hcard : ∀ r, (closing r).card = if kind = .reversal then none else r.card) : t.Core := by
  have hback := hc.jobs (.followUp kind share h i l g c) (by rw [hj]; exact List.mem_cons_self ..)
  obtain ⟨r, hr, b, e, _, _, _, he, hst, hek, _⟩ := hback.record h (i + 1) rfl
  have hat := State.recordAt_of_current hr
  have hs := hc.sound _ r hat
  have hnodup := hc.targets
  rw [hj, List.map_cons, List.nodup_cons] at hnodup
  refine hc.record_changed hat (hcell r hat) hw hk (by rw [hj]; exact List.sublist_cons_self ..) ?_
    (waits_of_modified he (by rw [hst]; decide) (hfs r) hf)
  refine (hre r).fits hs (waiting_of_modified hs he hek (hfs r) hf (hcard r))
    (fun j hne => getElem?_of_modified (hfs r) hne) fun job hjob ht => ?_
  rw [handleOf_of_current hr] at ht
  exact absurd (List.mem_map.mpr ⟨job, hjob, ht⟩) hnodup.1

theorem core_endAtOnce {s : State} {job : Job} (hu : s.unserved) (h : (s.heading job).Core) :
    (s.endAtOnce job).Core := by
  have hjobs : (s.heading job).jobs = job :: s.jobs := by rw [jobs_of_unserved hu]; rfl
  have hstays : s.Core :=
    h.jobs_leave (fun _ => rfl) rfl rfl (by rw [hjobs]; exact List.sublist_cons_self ..)
  cases job with
  | capture | unwrap => exact hstays
  | followUp kind share hd i l g c =>
    refine core_followUp_ends (closing := fun r => r.failFollowUp i kind)
      (f := fun e => { e with status := .failed }) h hjobs rfl rfl (fun r hr => ?_)
      (fun r => reworked_failFollowUp r i kind) (fun _ => rfl) (fun _ => by simp) fun _ => rfl
    have heq : s.endAtOnce (.followUp kind share hd i l g c) =
        s.withRecordAt (slotOf hd) (r.failFollowUp i kind) := modRecord_eq (s := s) hr _
    rw [heq]
    exact replaces_withRecordAt s _ _

theorem unserved_headLeaves {s : State} (hu : s.unserved) (job : Job) (rest : List Job) :
    (s.headLeaves job rest).unserved := fun j inputs => by
  rw [service_headLeaves]; exact hu j inputs

theorem core_serveNext_of_unserved (s : State) : s.unserved → s.Core → s.serveNext.Core := by
  refine serveNext_induction (motive := fun s t => s.unserved → s.Core → t.Core) (fun s hq hu h => ?_)
    (fun s job rest inputs hq _ hu h => ?_) (fun s t job rest hq _ ih hu h => ?_) s
  · exact h.jobs_leave (fun _ => rfl) rfl rfl (by rw [jobs_of_unserved hu]; exact List.Sublist.refl _)
  · exact (core_headLeaves hq hu h).jobs_leave (fun _ => rfl) rfl rfl (List.Sublist.refl _)
  · refine ih (fun j inputs => ?_) (core_endAtOnce (unserved_headLeaves hu job rest) (core_headLeaves hq hu h))
    rw [endAtOnce_engine]
    exact unserved_headLeaves hu job rest j inputs

/-- Serving from the head, the service position free. -/
theorem core_serveNext {s : State} (h : (s.setService .idle).Core) : s.serveNext.Core := by
  rw [← serveNext_setService s .idle]
  exact core_serveNext_of_unserved _ (fun _ _ hv => by cases hv) h

theorem core_setService {s : State} {v : Service} (hv : ∀ job inputs, v ≠ .serving job inputs)
    (h : (s.setService .idle).Core) : (s.setService v).Core := by
  refine h.jobs_leave (fun _ => rfl) rfl rfl ?_
  rw [jobs_of_unserved (s := s.setService v) hv, jobs_of_unserved (s := s.setService .idle) fun _ _ hv => by cases hv]
  exact List.Sublist.refl _

theorem core_afterJob {s : State} (h : (s.setService .idle).Core) : s.afterJob.Core := by
  unfold State.afterJob
  split
  · exact core_setService (fun _ _ hv => by cases hv) h
  · exact core_serveNext h

theorem queue_sublist_jobs (s : State) : s.engine.queue.Sublist s.jobs := by
  unfold State.jobs
  split
  · exact List.sublist_cons_self ..
  · exact List.Sublist.refl _
  · exact List.Sublist.refl _

theorem core_idle {s : State} (h : s.Core) : (s.setService .idle).Core :=
  h.jobs_leave (fun _ => rfl) rfl rfl (queue_sublist_jobs s)

theorem core_engineSupply {s : State} (h : s.Core) : s.engineSupply.Core := by
  unfold State.engineSupply
  split
  · exact h
  · exact core_afterJob (core_idle h)
  · exact core_afterJob (core_idle h)

theorem core_placeJob {s : State} {job : Job} (h : s.Core) (hb : s.backs job)
    (hfresh : job.target ∉ s.jobs.map Job.target) : (s.placeJob job).Core := by
  have hplaced : (s.setQueue (s.engine.queue ++ [job])).Core :=
    h.job_placed (fun _ => rfl) rfl rfl (jobs_append s job) hb hfresh
  unfold State.placeJob
  dsimp only
  split
  · split
    · exact core_setService (fun _ _ hv => by cases hv) (core_idle hplaced)
    · exact core_serveNext (core_idle hplaced)
  · exact hplaced
  · exact hplaced

/-! ## The shares (R79, R81) -/

/-- The shares keep to their capacities, and a WAITING reversal to a full automatic share. -/
structure Counts (s t : State) : Prop where
  full : s.full → t.full
  shares : s.sharesHold → t.sharesHold

theorem Counts.refl (s : State) : Counts s s := ⟨id, id⟩

theorem Counts.trans {s t u : State} (h : Counts s t) (h' : Counts t u) : Counts s u :=
  ⟨fun hs => h'.full (h.full hs), fun hs => h'.shares (h.shares hs)⟩

/-- The queue and the WAITING set stay. -/
theorem counts_of_same {s t : State} (hq : t.engine.queue = s.engine.queue)
    (hw : t.table.waiting = s.table.waiting) : Counts s t := by
  refine ⟨fun h => ?_, fun h => ?_⟩
  · rw [State.full, State.automaticCount, hq, hw]; exact h
  · rw [State.sharesHold, State.requestedCount, State.automaticCount, hq]; exact h

theorem admitFrom_queue (slots : List Slot) (s : State) :
    ((State.admitFrom slots s).table.waiting = [] ∧ (State.admitFrom slots s).engine.queue = s.engine.queue) ∨
      slots ≠ [] ∧ ∃ job : Job, job.isAutomatic = true ∧ job.isRequested = false ∧
        (State.admitFrom slots s).engine.queue = s.engine.queue ++ [job] := by
  induction slots generalizing s with
  | nil => exact .inl ⟨rfl, rfl⟩
  | cons x rest ih =>
    have hskip : ∀ t : State, t.engine.queue = s.engine.queue →
        ((State.admitFrom rest t).table.waiting = [] ∧
          (State.admitFrom rest t).engine.queue = s.engine.queue) ∨
        x :: rest ≠ [] ∧ ∃ job : Job, job.isAutomatic = true ∧ job.isRequested = false ∧
          (State.admitFrom rest t).engine.queue = s.engine.queue ++ [job] := fun t ht => by
      have htail := ih t
      rw [ht] at htail
      exact htail.imp_right fun h => ⟨List.cons_ne_nil _ _, h.2⟩
    unfold State.admitFrom
    split
    · exact hskip s rfl
    · split
      · exact hskip s rfl
      · split
        · next htake =>
          exact .inr ⟨List.cons_ne_nil _ _, .followUp .reversal .automatic _ _ _ _ _, rfl, rfl,
            congrArg (·.queue ++ _) (takeCounter_engine htake)⟩
        · exact hskip _ rfl

theorem counts_headLeaves {s : State} {job : Job} {rest : List Job} (hq : s.engine.queue = job :: rest) :
    Counts s (s.headLeaves job rest) := by
  by_cases ha : job.isAutomatic = true
  · have hr : job.isRequested = false := by
      cases job with
      | followUp kind share h i l g c =>
        cases share with
        | requested => cases ha
        | automatic => rfl
      | capture | unwrap => rfl
    have hleaves : s.headLeaves job rest = State.admitFrom s.table.waiting (s.setQueue rest) := if_pos ha
    rw [hleaves]
    have hrest : (s.setQueue rest).engine.queue = rest := rfl
    rcases admitFrom_queue s.table.waiting (s.setQueue rest) with ⟨hw, hq'⟩ | ⟨hne, job', ha', hr', hq'⟩
    · refine ⟨fun _ hno => absurd hw hno, fun h => ?_⟩
      rw [State.sharesHold, State.requestedCount, State.automaticCount, hq] at h
      rw [State.sharesHold, State.requestedCount, State.automaticCount, hq', hrest]
      simp only [List.filter_cons, ha, hr, if_true, Bool.false_eq_true, if_false, List.length_cons] at h
      omega
    · refine ⟨fun h _ => ?_, fun h => ?_⟩
      · have h8 := h hne
        rw [State.automaticCount, hq] at h8
        rw [State.automaticCount, hq', hrest]
        simp only [List.filter_cons, ha, if_true, List.length_cons] at h8
        simp only [List.filter_append, List.filter_cons, List.filter_nil, ha', if_true, List.length_append,
          List.length_singleton]
        omega
      · rw [State.sharesHold, State.requestedCount, State.automaticCount, hq] at h
        rw [State.sharesHold, State.requestedCount, State.automaticCount, hq', hrest]
        simp only [List.filter_cons, ha, hr, if_true, Bool.false_eq_true, if_false, List.length_cons] at h
        simp only [List.filter_append, List.filter_cons, List.filter_nil, ha', hr', if_true, Bool.false_eq_true, if_false,
          List.length_append, List.length_singleton, List.length_nil]
        omega
  · have hleaves : s.headLeaves job rest = s.setQueue rest := if_neg ha
    have hauto : (s.setQueue rest).automaticCount = s.automaticCount := by
      rw [State.automaticCount, State.automaticCount, hq, List.filter_cons, if_neg ha]
      rfl
    have hreq : (s.setQueue rest).requestedCount ≤ s.requestedCount := by
      rw [State.requestedCount, State.requestedCount, hq]
      exact ((List.sublist_cons_self job rest).filter _).length_le
    rw [hleaves]
    refine ⟨fun h hne => hauto ▸ h hne, fun h => ?_⟩
    rw [State.sharesHold, hauto]
    exact ⟨hreq.trans h.1, h.2⟩

theorem counts_setService (s : State) (v : Service) : Counts s (s.setService v) := counts_of_same rfl rfl

theorem counts_serveNext (s : State) : Counts s s.serveNext :=
  serveNext_induction (motive := Counts) (fun _ _ => counts_setService ..)
    (fun _ _ _ _ hq _ => (counts_headLeaves hq).trans (counts_setService ..))
    (fun _ _ _ _ hq _ h => ((counts_headLeaves hq).trans
      (counts_of_same (by rw [endAtOnce_engine]) (endAtOnce_waiting ..))).trans h) s

theorem counts_afterJob (s : State) : Counts s s.afterJob := by
  unfold State.afterJob
  split
  · exact counts_setService ..
  · exact counts_serveNext s

theorem counts_engineSupply (s : State) : Counts s s.engineSupply := by
  unfold State.engineSupply
  split
  · exact Counts.refl s
  · exact counts_afterJob s
  · exact counts_afterJob s

/-- A job placed has room in its share (R79, R81). -/
theorem counts_placeJob {s : State} {job : Job} (hr : job.isRequested = true → s.requestedCount < 15)
    (ha : job.isAutomatic = true → s.automaticCount < 8) : Counts s (s.placeJob job) := by
  have hplaced : Counts s (s.setQueue (s.engine.queue ++ [job])) := by
    have hauto : (s.setQueue (s.engine.queue ++ [job])).automaticCount =
        s.automaticCount + if job.isAutomatic = true then 1 else 0 := by
      rw [State.automaticCount, State.queue_setQueue, List.filter_append, List.length_append, List.filter_singleton]
      cases job.isAutomatic <;> rfl
    have hreq : (s.setQueue (s.engine.queue ++ [job])).requestedCount =
        s.requestedCount + if job.isRequested = true then 1 else 0 := by
      rw [State.requestedCount, State.queue_setQueue, List.filter_append, List.length_append, List.filter_singleton]
      cases job.isRequested <;> rfl
    refine ⟨fun h hne => ?_, fun h => ?_⟩
    · have := h hne
      omega
    · obtain ⟨h1, h2⟩ := h
      rw [State.sharesHold, hauto, hreq]
      constructor
      · split
        · next hjob => exact hr hjob
        · exact h1
      · split
        · next hjob => exact ha hjob
        · exact h2
  unfold State.placeJob
  dsimp only
  split
  · split
    · exact hplaced.trans (counts_setService ..)
    · exact hplaced.trans (counts_serveNext ..)
  · exact hplaced
  · exact hplaced

end Sys2Proof.Machine
end


section
/-! PROOFS. What the acts of a step keep: the part of the state each keeps by itself (slots, account, records,
keys, the agreement of the blocks, the port), the engagements, the shares, the records' identities and
transitions, the entries' keys. -/

namespace Sys2Proof.Machine

/-! ## What every act keeps within a step -/

/-- What each act of a step keeps by itself. -/
structure Deep (s t : State) : Prop where
  slots : s.slotsPartitioned → t.slotsPartitioned
  account : s.slotsPartitioned → s.accountHolds → t.accountHolds
  records : s.recordsWellFormed → t.recordsWellFormed
  keys : s.keysWellFormed → t.keysWellFormed
  core : s.slotsPartitioned → s.Core → t.Core
  port : s.portHolds → t.portHolds

theorem Deep.refl (s : State) : Deep s s := ⟨id, fun _ => id, id, id, fun _ => id, id⟩

theorem Deep.trans {s t u : State} (h : Deep s t) (h' : Deep t u) : Deep s u where
  slots hs := h'.slots (h.slots hs)
  account hs ha := h'.account (h.slots hs) (h.account hs ha)
  records hs := h'.records (h.records hs)
  keys hs := h'.keys (h.keys hs)
  core hs hc := h'.core (h.slots hs) (h.core hs hc)
  port hs := h'.port (h.port hs)

/-- The identity of a record and its state. -/
structure Kept (r q : Record) : Prop where
  lane : q.lane = r.lane
  payment : q.payment = r.payment
  till : q.till = r.till
  original : q.original = r.original
  state : q.state = r.state

/-- A slot whose record, if it has one, keeps its identity and its state. -/
structure SlotStays (s t : State) (x : Slot) : Prop where
  tag : (t.cell x).tag = (s.cell x).tag
  record : Option.Rel Kept (s.recordAt x) (t.recordAt x)

theorem Kept.refl (r : Record) : Kept r r := ⟨rfl, rfl, rfl, rfl, rfl⟩

theorem Kept.trans {r q p : Record} (h : Kept r q) (h' : Kept q p) : Kept r p :=
  ⟨h'.lane.trans h.lane, h'.payment.trans h.payment, h'.till.trans h.till, h'.original.trans h.original,
    h'.state.trans h.state⟩

theorem SlotStays.refl (s : State) (x : Slot) : SlotStays s s x := ⟨rfl, optionRel_refl Kept.refl _⟩

theorem SlotStays.trans {s t u : State} {x : Slot} (h : SlotStays s t x) (h' : SlotStays t u x) : SlotStays s u x :=
  ⟨h'.tag.trans h.tag, optionRel_trans (R := Kept) (fun _ _ _ => Kept.trans) h.record h'.record⟩

/-- What one step does to a slot (R3, R5, R11, R12, R21): an occupied slot keeps its tag and its record's
identity, its state takes one transition; a freed slot keeps its tag; an allocation advances it. -/
structure SlotMoves (s t : State) (x : Slot) : Prop where
  occupied : ∀ r q, s.recordAt x = some r → t.recordAt x = some q →
    (t.cell x).tag = (s.cell x).tag ∧ q.lane = r.lane ∧ q.payment = r.payment ∧ q.till = r.till ∧
      q.original = r.original ∧ r.state.mayBecome q.state = true
  freed : t.recordAt x = none → (t.cell x).tag = (s.cell x).tag
  allocated : s.recordAt x = none → ∀ q, t.recordAt x = some q →
    (t.cell x).tag = (s.cell x).tag + 1 ∧ q.state = .armed

theorem mayBecome_refl (a : PaymentState) : a.mayBecome a = true := by cases a <;> rfl

theorem SlotStays.moves {s t : State} {x : Slot} (h : SlotStays s t x) : SlotMoves s t x := by
  obtain ⟨htag, hrel⟩ := h
  refine ⟨fun r q hr hq => ?_, fun _ => htag, fun hr q hq => ?_⟩
  · rw [hr, hq] at hrel
    cases hrel with
    | some hk => exact ⟨htag, hk.lane, hk.payment, hk.till, hk.original, hk.state ▸ mayBecome_refl _⟩
  · rw [hr, hq] at hrel
    cases hrel

theorem SlotMoves.after_stays {s t u : State} {x : Slot} (h : SlotStays s t x) (h' : SlotMoves t u x) :
    SlotMoves s u x := by
  obtain ⟨htag, hrel⟩ := h
  refine ⟨fun r q hr hq => ?_, fun hq => (h'.freed hq).trans htag, fun hr q hq => ?_⟩
  · rw [hr] at hrel
    cases ht : t.recordAt x with
    | none => rw [ht] at hrel; cases hrel
    | some p =>
      rw [ht] at hrel
      cases hrel with
      | some hk =>
        obtain ⟨h1, h2, h3, h4, h5, h6⟩ := h'.occupied p q ht hq
        exact ⟨h1.trans htag, h2.trans hk.lane, h3.trans hk.payment, h4.trans hk.till, h5.trans hk.original,
          hk.state ▸ h6⟩
  · rw [hr] at hrel
    cases ht : t.recordAt x with
    | none =>
      obtain ⟨h1, h2⟩ := h'.allocated ht q hq
      exact ⟨h1.trans (by rw [htag]), h2⟩
    | some p => rw [ht] at hrel; cases hrel

theorem SlotMoves.then_stays {s t u : State} {x : Slot} (h : SlotMoves s t x) (h' : SlotStays t u x) :
    SlotMoves s u x := by
  obtain ⟨htag, hrel⟩ := h'
  refine ⟨fun r q hr hq => ?_, fun hq => ?_, fun hr q hq => ?_⟩
  · rw [hq] at hrel
    cases ht : t.recordAt x with
    | none => rw [ht] at hrel; cases hrel
    | some p =>
      rw [ht] at hrel
      cases hrel with
      | some hk =>
        obtain ⟨h1, h2, h3, h4, h5, h6⟩ := h.occupied r p hr ht
        exact ⟨htag.trans h1, hk.lane.trans h2, hk.payment.trans h3, hk.till.trans h4, hk.original.trans h5,
          hk.state.symm ▸ h6⟩
  · rw [hq] at hrel
    cases ht : t.recordAt x with
    | none => exact htag.trans (h.freed ht)
    | some p => rw [ht] at hrel; cases hrel
  · rw [hq] at hrel
    cases ht : t.recordAt x with
    | none => rw [ht] at hrel; cases hrel
    | some p =>
      rw [ht] at hrel
      cases hrel with
      | some hk =>
        obtain ⟨h1, h2⟩ := h.allocated hr p ht
        exact ⟨htag.trans h1, hk.state.trans h2⟩

/-- An entry keeps its key and hands out counters, or holds none any more (R88, R99). -/
def EntryKeeps (e e' : KeyEntry) : Prop :=
  (e'.material = e.material ∧ ∀ l, look e.counters l ≤ look e'.counters l) ∨ e'.material = none

theorem EntryKeeps.refl (e : KeyEntry) : EntryKeeps e e := .inl ⟨rfl, fun _ => le_rfl⟩

theorem EntryKeeps.trans {e f g : KeyEntry} (h : EntryKeeps e f) (h' : EntryKeeps f g) : EntryKeeps e g := by
  rcases h' with ⟨hm', hc'⟩ | hnone
  · rcases h with ⟨hm, hc⟩ | hnone
    · exact .inl ⟨hm'.trans hm, fun l => (hc l).trans (hc' l)⟩
    · exact .inr (hm'.trans hnone)
  · exact .inr hnone

theorem Counted.keeps {e e' : KeyEntry} (h : Counted e e') : EntryKeeps e e' := .inl ⟨h.material, h.rises⟩

/-- The engagements that held hold (R10). -/
def EngagementsKept (s t : State) : Prop := s.recordsWellFormed → s.engagementsHold → t.engagementsHold

/-- An act that changes no record's identity or state. -/
structure Quiet (s t : State) : Prop where
  calm : Calm s t
  deep : Deep s t
  engagements : EngagementsKept s t
  counts : Counts s t
  slots : ∀ x, SlotStays s t x
  entries : ∀ i, EntryKeeps (s.entry i) (t.entry i)

/-- An act in which records take at most one transition. -/
structure Acts (s t : State) : Prop where
  calm : Calm s t
  deep : Deep s t
  engagements : s.slotsPartitioned → EngagementsKept s t
  counts : Counts s t
  slots : s.slotsPartitioned → ∀ x, SlotMoves s t x
  entries : ∀ i, EntryKeeps (s.entry i) (t.entry i)

theorem Quiet.refl (s : State) : Quiet s s :=
  ⟨Calm.refl s, Deep.refl s, fun _ h => h, Counts.refl s, SlotStays.refl s, fun _ => EntryKeeps.refl _⟩

theorem Quiet.trans {s t u : State} (h : Quiet s t) (h' : Quiet t u) : Quiet s u where
  calm := h.calm.trans h'.calm
  deep := h.deep.trans h'.deep
  engagements hr he := h'.engagements (h.deep.records hr) (h.engagements hr he)
  counts := h.counts.trans h'.counts
  slots x := (h.slots x).trans (h'.slots x)
  entries i := (h.entries i).trans (h'.entries i)

theorem Quiet.acts {s t : State} (h : Quiet s t) : Acts s t :=
  ⟨h.calm, h.deep, fun _ => h.engagements, h.counts, fun _ x => (h.slots x).moves, h.entries⟩

theorem Acts.refl (s : State) : Acts s s := (Quiet.refl s).acts

theorem Quiet.then_acts {s t u : State} (h : Quiet s t) (h' : Acts t u) : Acts s u where
  calm := h.calm.trans h'.calm
  deep := h.deep.trans h'.deep
  engagements hs hr he := h'.engagements (h.deep.slots hs) (h.deep.records hr) (h.engagements hr he)
  counts := h.counts.trans h'.counts
  slots hs x := (h'.slots (h.deep.slots hs) x).after_stays (h.slots x)
  entries i := (h.entries i).trans (h'.entries i)

theorem Acts.then_quiet {s t u : State} (h : Acts s t) (h' : Quiet t u) : Acts s u where
  calm := h.calm.trans h'.calm
  deep := h.deep.trans h'.deep
  engagements hs hr he := h'.engagements (h.deep.records hr) (h.engagements hs hr he)
  counts := h.counts.trans h'.counts
  slots hs x := (h.slots hs x).then_stays (h'.slots x)
  entries i := (h.entries i).trans (h'.entries i)

/-! ## The engagements (R10) -/

section
variable {s t : State}

/-- The engagements read each record's lane and whether it is engaged, the tags, and the engaged handles. -/
theorem engagementsHold_congr (htag : ∀ x, (t.cell x).tag = (s.cell x).tag)
    (hrec : ∀ x, Option.Rel (fun r q : Record => q.lane = r.lane ∧ q.engaged = r.engaged) (s.recordAt x)
      (t.recordAt x))
    (hbook : ∀ l, (t.book l).engaged = (s.book l).engaged) (h : s.engagementsHold) : t.engagementsHold := by
  obtain ⟨hhandle, hrecord⟩ := h
  have hhandleOf : ∀ x, t.handleOf x = s.handleOf x := fun x => by rw [State.handleOf, htag]; rfl
  refine ⟨fun l hd he => ?_, fun x q hq he => ?_⟩
  · rw [hbook] at he
    obtain ⟨r, hr, hl, heng⟩ := hhandle l hd he
    obtain ⟨x, rfl, hx⟩ := current_iff_handleOf.mp hr
    have hrel := hrec x
    rw [hx] at hrel
    cases ht : t.recordAt x with
    | none => rw [ht] at hrel; cases hrel
    | some q =>
      rw [ht] at hrel
      cases hrel with
      | some hk => exact ⟨q, current_iff_handleOf.mpr ⟨x, hhandleOf x, ht⟩, hk.1.trans hl, hk.2.trans heng⟩
  · have hrel := hrec x
    rw [hq] at hrel
    cases hs : s.recordAt x with
    | none => rw [hs] at hrel; cases hrel
    | some r =>
      rw [hs] at hrel
      cases hrel with
      | some hk =>
        rw [hk.1, hbook, hhandleOf]
        exact hrecord x r hs (hk.2 ▸ he)

/-- One record's engagement ends with its lane's (R10). -/
theorem engagementsHold_ended {x : Slot} {r q : Record} (hr : s.recordAt x = some r) (hx : t.recordAt x = some q)
    (htag : ∀ y, (t.cell y).tag = (s.cell y).tag)
    (hrec : ∀ y, y ≠ x → Option.Rel (fun r q : Record => q.lane = r.lane ∧ q.engaged = r.engaged) (s.recordAt y)
      (t.recordAt y))
    (hq : q.engaged = false) (hbook : (t.book r.lane).engaged = none)
    (hother : ∀ l, l ≠ r.lane → (t.book l).engaged = (s.book l).engaged)
    (heng : r.engaged = true) (h : s.engagementsHold) : t.engagementsHold := by
  obtain ⟨hhandle, hrecord⟩ := h
  have hxl := hrecord x r hr heng
  have hhandleOf : ∀ y, t.handleOf y = s.handleOf y := fun y => by rw [State.handleOf, htag]; rfl
  refine ⟨fun l hd he => ?_, fun y p hp he => ?_⟩
  · have hl : l ≠ r.lane := by
      rintro rfl
      rw [hbook] at he
      cases he
    rw [hother l hl] at he
    obtain ⟨p, hp, hpl, hpe⟩ := hhandle l hd he
    obtain ⟨y, rfl, hy⟩ := current_iff_handleOf.mp hp
    have hne : y ≠ x := by
      rintro rfl
      cases hr.symm.trans hy
      exact hl hpl.symm
    have hrel := hrec y hne
    rw [hy] at hrel
    cases ht : t.recordAt y with
    | none => rw [ht] at hrel; cases hrel
    | some q' =>
      rw [ht] at hrel
      cases hrel with
      | some hk => exact ⟨q', current_iff_handleOf.mpr ⟨y, hhandleOf y, ht⟩, hk.1.trans hpl, hk.2.trans hpe⟩
  · have hne : y ≠ x := by
      rintro rfl
      cases hx.symm.trans hp
      rw [hq] at he
      cases he
    have hrel := hrec y hne
    rw [hp] at hrel
    cases hs : s.recordAt y with
    | none => rw [hs] at hrel; cases hrel
    | some p' =>
      rw [hs] at hrel
      cases hrel with
      | some hk =>
        have hy := hrecord y p' hs (hk.2 ▸ he)
        have hl : p.lane ≠ r.lane := fun hl => hne (by
          rw [← hk.1, hl, hxl] at hy
          rw [← slotOf_handleOf s y, ← Option.some.inj hy, slotOf_handleOf])
        rw [hother _ hl, hhandleOf, hk.1]
        exact hy

end

/-! ## The deferral account (R59, R62) -/

/-- What a record adds to the deferral total of a lane. -/
def Record.amountOn (r : Record) (l : LaneId) : Nat := if r.state = .deferred ∧ r.lane = l then r.current else 0

/-- What a record adds to the deferred count of a lane. -/
def Record.countOn (r : Record) (l : LaneId) : Nat := if r.state = .deferred ∧ r.lane = l then 1 else 0

section
variable {s t : State} {x : Slot} {r q : Record}

theorem deferredAmount_eq {y : Slot} {p : Record} (h : s.recordAt y = some p) (l : LaneId) :
    s.deferredAmount l y = p.amountOn l := by simp only [State.deferredAmount, h]; rfl

theorem deferredOne_eq {y : Slot} {p : Record} (h : s.recordAt y = some p) (l : LaneId) :
    s.deferredOne l y = p.countOn l := by simp only [State.deferredOne, h]; rfl

theorem deferredAmount_congr {y : Slot} (h : t.recordAt y = s.recordAt y) (l : LaneId) :
    t.deferredAmount l y = s.deferredAmount l y := by simp only [State.deferredAmount, h]

theorem deferredOne_congr {y : Slot} (h : t.recordAt y = s.recordAt y) (l : LaneId) :
    t.deferredOne l y = s.deferredOne l y := by simp only [State.deferredOne, h]

theorem amountOn_le_total (ha : s.accountHolds) (hr : s.recordAt x = some r) (l : LaneId) :
    r.amountOn l ≤ (s.book l).total := by
  rw [ha.1 l, ← deferredAmount_eq hr]
  exact Finset.single_le_sum (fun _ _ => Nat.zero_le _) (Finset.mem_univ x)

theorem countOn_le_count (ha : s.accountHolds) (hr : s.recordAt x = some r) (l : LaneId) :
    r.countOn l ≤ (s.book l).count := by
  rw [ha.2.1 l, ← deferredOne_eq hr]
  exact Finset.single_le_sum (fun _ _ => Nat.zero_le _) (Finset.mem_univ x)

theorem total_le_storeTotal (ha : s.accountHolds) (l : LaneId) : (s.book l).total ≤ s.table.storeTotal := by
  rw [ha.2.2]
  exact Finset.single_le_sum (f := fun l => (s.book l).total) (fun _ _ => Nat.zero_le _) (Finset.mem_univ l)

/-- The totals follow one record's amount (R62). -/
theorem accountHolds_replaced (ha : s.accountHolds) (hr : s.recordAt x = some r) (hcell : Replaces s t x q)
    (htotal : ∀ l, (t.book l).total + r.amountOn l = (s.book l).total + q.amountOn l)
    (hcount : ∀ l, (t.book l).count + r.countOn l = (s.book l).count + q.countOn l)
    (hstore : t.table.storeTotal + r.amountOn r.lane = s.table.storeTotal + q.amountOn r.lane)
    (hlane : q.lane = r.lane) : t.accountHolds := by
  obtain ⟨hs1, hs2, hs3⟩ := ha
  have hq : t.recordAt x = some q := by rw [hcell.recordAt, if_pos rfl]
  have hother : ∀ y, y ≠ x → t.recordAt y = s.recordAt y := fun y hy => by rw [hcell.recordAt, if_neg hy]
  refine ⟨fun l => ?_, fun l => ?_, ?_⟩
  · have hsum : (∑ y, t.deferredAmount l y) + s.deferredAmount l x =
        (∑ y, s.deferredAmount l y) + t.deferredAmount l x :=
      sum_update x fun y hy => deferredAmount_congr (hother y hy) l
    rw [deferredAmount_eq hr, deferredAmount_eq hq, ← hs1 l] at hsum
    have := htotal l
    omega
  · have hsum : (∑ y, t.deferredOne l y) + s.deferredOne l x = (∑ y, s.deferredOne l y) + t.deferredOne l x :=
      sum_update x fun y hy => deferredOne_congr (hother y hy) l
    rw [deferredOne_eq hr, deferredOne_eq hq, ← hs2 l] at hsum
    have := hcount l
    omega
  · have hsum : (∑ l, (t.book l).total) + (s.book r.lane).total =
        (∑ l, (s.book l).total) + (t.book r.lane).total := by
      refine sum_update (f := fun l => (s.book l).total) (g := fun l => (t.book l).total) r.lane fun l hl => ?_
      have := htotal l
      rw [Record.amountOn, Record.amountOn, if_neg fun h => hl h.2.symm, if_neg fun h => hl (h.2.symm.trans hlane)] at this
      exact this
    have := htotal r.lane
    rw [← hs3] at hsum
    omega

end

end Sys2Proof.Machine
end


section
/-! PROOFS. The acts a step is made of: what lies outside the records, the keys and the engine; the engine's
work; the change of one record. -/

namespace Sys2Proof.Machine

/-! ## Key-unwrap jobs (R91) -/

/-- No key-unwrap job is new. -/
def UnwrapsKept (s t : State) : Prop :=
  ∀ g block check, Job.unwrap g block check ∈ t.jobs → Job.unwrap g block check ∈ s.jobs

theorem portHolds_of_kept {s t : State} (hu : UnwrapsKept s t) (hp : t.port.state = s.port.state)
    (h : s.portHolds) : t.portHolds := by
  rintro ⟨g, block, check, hj⟩
  rw [hp]
  exact h ⟨g, block, check, hu g block check hj⟩

theorem unwraps_headLeaves {s : State} {job : Job} {rest : List Job} {g : Nat} {block : Block} {check : BitVec 64}
    (hmem : Job.unwrap g block check ∈ (s.headLeaves job rest).engine.queue) : Job.unwrap g block check ∈ rest := by
  unfold State.headLeaves at hmem
  split at hmem
  · rcases admitFrom_queue s.table.waiting (s.setQueue rest) with ⟨_, hq⟩ | ⟨_, job', ha, _, hq⟩
    · rw [State.admitWaiting, show (s.setQueue rest).table.waiting = s.table.waiting from rfl, hq] at hmem
      exact hmem
    · rw [State.admitWaiting, show (s.setQueue rest).table.waiting = s.table.waiting from rfl, hq,
        List.mem_append, List.mem_singleton] at hmem
      refine hmem.resolve_right fun heq => ?_
      rw [← heq] at ha
      cases ha
  · exact hmem

theorem unwraps_serveNext (s : State) {g : Nat} {block : Block} {check : BitVec 64} :
    Job.unwrap g block check ∈ s.serveNext.jobs → Job.unwrap g block check ∈ s.engine.queue := by
  refine serveNext_induction
    (motive := fun s t => Job.unwrap g block check ∈ t.jobs → Job.unwrap g block check ∈ s.engine.queue)
    (fun s _ hmem => hmem) (fun s job rest inputs hq _ hmem => ?_) (fun s t job rest hq _ ih hmem => ?_) s
  · rw [jobs_serving, List.mem_cons] at hmem
    rw [hq, List.mem_cons]
    exact hmem.imp_right unwraps_headLeaves
  · have hqueue := ih hmem
    rw [endAtOnce_engine] at hqueue
    rw [hq]
    exact List.mem_cons_of_mem _ (unwraps_headLeaves hqueue)

theorem unwraps_afterJob (s : State) {g : Nat} {block : Block} {check : BitVec 64}
    (hmem : Job.unwrap g block check ∈ s.afterJob.jobs) : Job.unwrap g block check ∈ s.engine.queue := by
  unfold State.afterJob at hmem
  split at hmem
  · exact hmem
  · exact unwraps_serveNext s hmem

theorem unwrapsKept_engineSupply (s : State) : UnwrapsKept s s.engineSupply := by
  intro g block check hmem
  unfold State.engineSupply at hmem
  split at hmem
  · exact hmem
  · exact (queue_sublist_jobs s).subset (unwraps_afterJob s hmem)
  · exact (queue_sublist_jobs s).subset (unwraps_afterJob s hmem)

theorem unwraps_placeJob {s : State} {job : Job} {g : Nat} {block : Block} {check : BitVec 64}
    (hmem : Job.unwrap g block check ∈ (s.placeJob job).jobs) :
    Job.unwrap g block check ∈ s.jobs ∨ Job.unwrap g block check = job := by
  have hplaced : Job.unwrap g block check ∈ (s.setQueue (s.engine.queue ++ [job])).jobs →
      Job.unwrap g block check ∈ s.jobs ∨ Job.unwrap g block check = job := fun h => by
    rwa [jobs_append, List.mem_append, List.mem_singleton] at h
  unfold State.placeJob at hmem
  dsimp only at hmem
  split at hmem
  · refine hplaced ((queue_sublist_jobs _).subset ?_)
    split at hmem
    · exact hmem
    · exact unwraps_serveNext _ hmem
  · exact hplaced hmem
  · exact hplaced hmem

/-! ## The engine's work -/

section
variable {s t u : State}

theorem Works.book (h : Works s t) (l : LaneId) : t.book l = s.book l := by
  rw [State.book, h.books]; rfl

theorem Works.occupied (h : Works s t) {x : Slot} {q : Record} (hq : t.recordAt x = some q) :
    ∃ r, s.recordAt x = some r ∧ Reworked r q := by
  have hrel := h.records x
  rw [hq] at hrel
  cases hs : s.recordAt x with
  | none => rw [hs] at hrel; cases hrel
  | some r => rw [hs] at hrel; cases hrel with | some hk => exact ⟨r, rfl, hk⟩

theorem Works.occupied_of (h : Works s t) {x : Slot} {r : Record} (hr : s.recordAt x = some r) :
    ∃ q, t.recordAt x = some q ∧ Reworked r q := by
  have hrel := h.records x
  rw [hr] at hrel
  cases ht : t.recordAt x with
  | none => rw [ht] at hrel; cases hrel
  | some q => rw [ht] at hrel; cases hrel with | some hk => exact ⟨q, rfl, hk⟩

theorem Works.free_iff (h : Works s t) (x : Slot) : t.recordAt x = none ↔ s.recordAt x = none := by
  have hrel := h.records x
  constructor
  · intro ht
    rw [ht] at hrel
    cases hs : s.recordAt x with
    | none => rfl
    | some r => rw [hs] at hrel; cases hrel
  · intro hs
    rw [hs] at hrel
    cases ht : t.recordAt x with
    | none => rfl
    | some r => rw [ht] at hrel; cases hrel

theorem Works.stays (h : Works s t) (x : Slot) : SlotStays s t x := by
  refine ⟨h.tags x, ?_⟩
  cases hs : s.recordAt x with
  | none => rw [(h.free_iff x).mpr hs]; exact .none
  | some r =>
    obtain ⟨q, hq, hk⟩ := h.occupied_of hs
    rw [hq, hk.same]
    exact .some ⟨rfl, rfl, rfl, rfl, rfl⟩

theorem Works.slots (h : Works s t) (hs : s.slotsPartitioned) : t.slotsPartitioned := by
  obtain ⟨h1, h2, h3, h4⟩ := hs
  refine ⟨h.free ▸ h1, fun x => by rw [h.free, h.free_iff, h2], fun l => by rw [h.book]; exact h3 l, fun l x => ?_⟩
  rw [h.book, h4]
  constructor
  · rintro ⟨r, hr, hl⟩
    obtain ⟨q, hq, hk⟩ := h.occupied_of hr
    exact ⟨q, hq, by rw [hk.same]; exact hl⟩
  · rintro ⟨q, hq, hl⟩
    obtain ⟨r, hr, hk⟩ := h.occupied hq
    exact ⟨r, hr, by rw [hk.same] at hl; exact hl⟩

theorem Works.amounts (h : Works s t) (l : LaneId) (x : Slot) :
    t.deferredAmount l x = s.deferredAmount l x ∧ t.deferredOne l x = s.deferredOne l x := by
  cases hr : s.recordAt x with
  | none =>
    have ht := (h.free_iff x).mpr hr
    exact ⟨deferredAmount_congr (ht.trans hr.symm) l, deferredOne_congr (ht.trans hr.symm) l⟩
  | some r =>
    obtain ⟨q, hq, hk⟩ := h.occupied_of hr
    rw [deferredAmount_eq hr, deferredAmount_eq hq, deferredOne_eq hr, deferredOne_eq hq, hk.same]
    exact ⟨rfl, rfl⟩

theorem Works.account (h : Works s t) (ha : s.accountHolds) : t.accountHolds := by
  obtain ⟨h1, h2, h3⟩ := ha
  refine ⟨fun l => ?_, fun l => ?_, ?_⟩
  · rw [h.book, h1]
    exact Finset.sum_congr rfl fun x _ => (h.amounts l x).1.symm
  · rw [h.book, h2]
    exact Finset.sum_congr rfl fun x _ => (h.amounts l x).2.symm
  · rw [h.storeTotal, h3]
    exact Finset.sum_congr rfl fun l _ => by rw [h.book]

theorem Works.recordsWellFormed (h : Works s t) (hs : s.recordsWellFormed) : t.recordsWellFormed := by
  intro x q hq
  obtain ⟨r, hr, hk⟩ := h.occupied hq
  exact hk.wellFormed (hs x r hr)

theorem Works.engagements (h : Works s t) : EngagementsKept s t := fun _ he => by
  refine engagementsHold_congr h.tags (fun x => ?_) (fun l => by rw [h.book]) he
  cases hs : s.recordAt x with
  | none => rw [(h.free_iff x).mpr hs]; exact .none
  | some r =>
    obtain ⟨q, hq, hk⟩ := h.occupied_of hs
    rw [hq, hk.same]
    exact .some ⟨rfl, rfl⟩

theorem Works.deep (h : Works s t) (hcore : s.Core → t.Core) (hport : s.portHolds → t.portHolds) : Deep s t :=
  ⟨h.slots, fun _ => h.account, h.recordsWellFormed, keysWellFormed_of_counted h.entries, fun _ => hcore, hport⟩

/-- The engine's work after an act, in agreement with the state before the act. -/
theorem Deep.then_works (h : Deep s t) (h' : Works t u) (hcore : s.Core → t.Core → u.Core)
    (hport : t.portHolds → u.portHolds) : Deep s u where
  slots hs := h'.slots (h.slots hs)
  account hs ha := h'.account (h.account hs ha)
  records hs := h'.recordsWellFormed (h.records hs)
  keys hs := keysWellFormed_of_counted h'.entries (h.keys hs)
  core hs hc := hcore hc (h.core hs hc)
  port hs := hport (h.port hs)

theorem Acts.then_works (h : Acts s t) (h' : Works t u) (hcore : s.Core → t.Core → u.Core)
    (hport : t.portHolds → u.portHolds) (hcounts : Counts t u) : Acts s u where
  calm := h.calm.trans h'.calm
  deep := h.deep.then_works h' hcore hport
  engagements hs hr he := h'.engagements (h.deep.records hr) (h.engagements hs hr he)
  counts := h.counts.trans hcounts
  slots hs x := (h.slots hs x).then_stays (h'.stays x)
  entries i := (h.entries i).trans (h'.entries i).keeps

theorem Quiet.then_works (h : Quiet s t) (h' : Works t u) (hcore : s.Core → t.Core → u.Core)
    (hport : t.portHolds → u.portHolds) (hcounts : Counts t u) : Quiet s u where
  calm := h.calm.trans h'.calm
  deep := h.deep.then_works h' hcore hport
  engagements hr he := h'.engagements (h.deep.records hr) (h.engagements hr he)
  counts := h.counts.trans hcounts
  slots x := (h.slots x).trans (h'.stays x)
  entries i := (h.entries i).trans (h'.entries i).keeps

theorem Works.quiet (h : Works s t) (hcore : s.Core → t.Core) (hport : s.portHolds → t.portHolds)
    (hcounts : Counts s t) : Quiet s t :=
  (Quiet.refl s).then_works h (fun hs _ => hcore hs) hport hcounts

end

theorem quiet_engineSupply (s : State) : Quiet s s.engineSupply :=
  (works_engineSupply s).quiet core_engineSupply
    (portHolds_of_kept (unwrapsKept_engineSupply s) (by rw [(works_engineSupply s).port])) (counts_engineSupply s)

/-- A counter taken (R99). -/
theorem quiet_takeCounter {s t : State} {g c : Nat} {l : LaneId} {limit : Nat} (hlimit : limit ≤ 65536)
    (h : s.takeCounter g l limit = some (c, t)) : Quiet s t := by
  have hframe := takeCounter_frame h
  have hengine := takeCounter_engine h
  have hjobs : t.jobs = s.jobs := by rw [State.jobs, State.jobs, hengine]
  refine (works_takeCounter hlimit h).quiet (fun hc => ?_) (portHolds_of_kept (fun _ _ _ hj => hjobs ▸ hj) ?_)
    (counts_of_same (by rw [hengine]) (by rw [hframe]))
  · exact hc.counters_taken (fun x => by rw [hframe]; rfl) (by rw [hframe]) hjobs (takeCounter_entries hlimit h)
      (highest_takeCounter h)
  · rw [hframe]

/-! ## Outside the records, the keys and the engine -/

section
variable {s t : State}

/-- The account reads the records, the totals and the counts. -/
theorem account_of_view (hrec : ∀ x, t.recordAt x = s.recordAt x) (hstore : t.table.storeTotal = s.table.storeTotal)
    (htotal : ∀ l, (t.book l).total = (s.book l).total) (hcount : ∀ l, (t.book l).count = (s.book l).count)
    (h : s.accountHolds) : t.accountHolds := by
  obtain ⟨h1, h2, h3⟩ := h
  refine ⟨fun l => ?_, fun l => ?_, ?_⟩
  · rw [htotal, h1]
    exact Finset.sum_congr rfl fun x _ => (deferredAmount_congr (hrec x) l).symm
  · rw [hcount, h2]
    exact Finset.sum_congr rfl fun x _ => (deferredOne_congr (hrec x) l).symm
  · rw [hstore, h3]
    exact Finset.sum_congr rfl fun l _ => (htotal l).symm

/-- The slots read the records, the free list and the lane lists. -/
theorem slots_of_view (hrec : ∀ x, t.recordAt x = s.recordAt x) (hfree : t.table.free = s.table.free)
    (hlist : ∀ l, (t.book l).list = (s.book l).list) (h : s.slotsPartitioned) : t.slotsPartitioned := by
  obtain ⟨h1, h2, h3, h4⟩ := h
  refine ⟨hfree ▸ h1, fun x => by rw [hfree, hrec, h2], fun l => by rw [hlist]; exact h3 l, fun l x => ?_⟩
  rw [hlist, hrec, h4]

/-- The records, the books but for the next payment number and the expired sequence, the keys and the engine
stay. -/
theorem Quiet.of_view (hc : Calm s t) (hslots : t.table.slots = s.table.slots)
    (hfree : t.table.free = s.table.free) (hwait : t.table.waiting = s.table.waiting)
    (hstore : t.table.storeTotal = s.table.storeTotal)
    (hlist : ∀ l, (t.book l).list = (s.book l).list) (htotal : ∀ l, (t.book l).total = (s.book l).total)
    (hcount : ∀ l, (t.book l).count = (s.book l).count) (heng : ∀ l, (t.book l).engaged = (s.book l).engaged)
    (hkeys : t.keys = s.keys) (hengine : t.engine = s.engine) (hport : s.portHolds → t.portHolds) : Quiet s t := by
  have hcell : ∀ x, t.cell x = s.cell x := fun x => by rw [State.cell, State.cell, hslots]
  have hrec := recordAt_congr hcell
  have hjobs : t.jobs = s.jobs := by rw [State.jobs, State.jobs, hengine]
  refine ⟨hc, ⟨slots_of_view hrec hfree hlist, fun _ => account_of_view hrec hstore htotal hcount,
    fun h x r hr => h x r ((hrec x).symm.trans hr),
    keysWellFormed_congr hkeys, fun _ h => h.jobs_leave hcell hwait hkeys (by rw [hjobs]), hport⟩, fun _ h => ?engagements,
    counts_of_same (by rw [hengine]) hwait, fun x => ⟨by rw [hcell], ?stays⟩, fun i => ?entries⟩
  case engagements =>
    refine engagementsHold_congr (fun x => by rw [hcell]) (fun x => ?_) heng h
    rw [hrec]
    exact optionRel_refl (fun _ => ⟨rfl, rfl⟩) _
  case stays =>
    rw [hrec]
    exact optionRel_refl Kept.refl _
  case entries =>
    rw [entry_congr hkeys]
    exact EntryKeeps.refl _

theorem Quiet.of_table (hc : Calm s t) (htable : t.table = s.table) (hkeys : t.keys = s.keys)
    (hengine : t.engine = s.engine) (hport : s.portHolds → t.portHolds) : Quiet s t := by
  have hbook : ∀ l, t.book l = s.book l := fun l => by rw [State.book, htable]; rfl
  exact Quiet.of_view hc (by rw [htable]) (by rw [htable]) (by rw [htable]) (by rw [htable])
    (fun l => by rw [hbook]) (fun l => by rw [hbook]) (fun l => by rw [hbook]) (fun l => by rw [hbook]) hkeys hengine hport

/-- Nothing changes but what lies outside the table, the keys, the engine and the port. -/
theorem Quiet.of_calm (hc : Calm s t) (htable : t.table = s.table) (hkeys : t.keys = s.keys)
    (hengine : t.engine = s.engine) (hport : t.port = s.port) : Quiet s t := by
  have hjobs : t.jobs = s.jobs := by rw [State.jobs, State.jobs, hengine]
  exact Quiet.of_table hc htable hkeys hengine
    (portHolds_of_kept (fun _ _ _ hj => hjobs ▸ hj) (by rw [hport]))

end

section
variable (s : State)

theorem quiet_modLane {l : LaneId} {f : Lane → Lane} (h : (s.lane l).Keeps (f (s.lane l))) :
    Quiet s (s.modLane l f) := Quiet.of_calm (calm_modLane s h) rfl rfl rfl rfl

theorem quiet_offer (l : LaneId) (f : PartFrame) : Quiet s (s.offer l f) :=
  Quiet.of_calm (calm_offer ..) rfl rfl rfl rfl

theorem quiet_modCauses (l : LaneId) (f : LaneCauses → LaneCauses) : Quiet s (s.modCauses l f) :=
  Quiet.of_calm (calm_modCauses ..) rfl rfl rfl rfl

/-- The lane's expired delivery sequence changes (R47). -/
theorem quiet_expired (l : LaneId) (e : Option Byte) :
    Quiet s (s.modBook l fun b => { b with expired := e }) := by
  have hbook : ∀ x, (s.modBook l fun b => { b with expired := e }).book x =
      { s.book x with expired := ((s.modBook l fun b => { b with expired := e }).book x).expired } := fun x => by
    rw [State.book_modBook]
    split
    · next hx => rw [hx]
    · rfl
  exact Quiet.of_view (calm_modBook ..) rfl rfl rfl rfl (fun x => by rw [hbook]) (fun x => by rw [hbook])
    (fun x => by rw [hbook]) (fun x => by rw [hbook]) rfl rfl (portHolds_of_kept (fun _ _ _ hj => hj) rfl)

/-- The low-mark indicator changes (R9). -/
theorem quiet_lowMark (b : Bool) :
    Quiet s { s with table := { s.table with lowMarkArmed := b } } :=
  Quiet.of_view (Calm.of_same rfl rfl rfl rfl rfl rfl rfl) rfl rfl rfl rfl (fun _ => rfl) (fun _ => rfl)
    (fun _ => rfl) (fun _ => rfl) rfl rfl (portHolds_of_kept (fun _ _ _ hj => hj) rfl)

/-- A response formed while no request is in service (R171). -/
theorem quiet_respond (h : ∀ kind tag, s.port.state ≠ .serving kind tag) (kind tag : Byte) (status : Status)
    (body : List Byte) : Quiet s (s.respond kind tag status body) := by
  refine Quiet.of_table (calm_respond ..) rfl rfl rfl fun hp hjobs => ?_
  obtain ⟨tag', ht⟩ := hp hjobs
  exact absurd ht (h _ _)

end

end Sys2Proof.Machine
end


section
/-! PROOFS. The change of one record, with the books and the lanes that go with it, and the end frame that
follows it (R44). -/

namespace Sys2Proof.Machine

/-! ## Acts whose engagements are yet to be settled -/

/-- An act as `Acts`, the engagements apart: between the end of a payment and its end frame they do not hold. -/
structure Stirs (s t : State) : Prop where
  calm : Calm s t
  deep : Deep s t
  counts : Counts s t
  slots : s.slotsPartitioned → ∀ x, SlotMoves s t x
  entries : ∀ i, EntryKeeps (s.entry i) (t.entry i)

theorem Acts.of_stirs {s t : State} (h : Stirs s t) (he : EngagementsKept s t) : Acts s t :=
  ⟨h.calm, h.deep, fun _ => he, h.counts, h.slots, h.entries⟩

/-! ## One record in the place of another -/

section
variable {s t : State} {x : Slot} {r q : Record} (hr : s.recordAt x = some r) (hcell : Replaces s t x q)
include hr hcell

theorem slots_replaced (hlane : q.lane = r.lane) (hfree : t.table.free = s.table.free)
    (hlists : ∀ l, (t.book l).list = (s.book l).list) (h : s.slotsPartitioned) : t.slotsPartitioned := by
  obtain ⟨h1, h2, h3, h4⟩ := h
  refine ⟨hfree ▸ h1, fun y => ?_, fun l => hlists l ▸ h3 l, fun l y => ?_⟩
  · rw [hfree, h2, hcell.recordAt]
    split
    · next hy => rw [hy, hr]; simp
    · rfl
  · rw [hlists, h4, hcell.recordAt]
    split
    · next hy =>
      rw [hy, hr]
      simp only [Option.some.injEq, exists_eq_left', hlane]
    · rfl

theorem records_replaced (hw : r.WellFormed → q.WellFormed) (hs : s.recordsWellFormed) : t.recordsWellFormed := by
  intro y p hp
  rw [hcell.recordAt] at hp
  split at hp
  · cases hp
    exact hw (hs x r hr)
  · exact hs y p hp

theorem moves_replaced (hlane : q.lane = r.lane) (hpayment : q.payment = r.payment) (htill : q.till = r.till)
    (horiginal : q.original = r.original) (hmay : r.state.mayBecome q.state = true) (y : Slot) : SlotMoves s t y := by
  have htag := hcell.tag y
  refine ⟨fun p p' hp hp' => ?_, fun _ => htag, fun hp p' hp' => ?_⟩
  · rw [hcell.recordAt] at hp'
    split at hp'
    · next hy =>
      subst hy
      cases hr.symm.trans hp
      cases hp'
      exact ⟨htag, hlane, hpayment, htill, horiginal, hmay⟩
    · cases hp.symm.trans hp'
      exact ⟨htag, rfl, rfl, rfl, rfl, mayBecome_refl _⟩
  · rw [hcell.recordAt] at hp'
    split at hp'
    · next hy =>
      subst hy
      rw [hr] at hp
      cases hp
    · rw [hp] at hp'
      cases hp'

end

/-! ## One record edited -/

/-- A state in which one slot's record is another, and beside it only books, lanes and the WAITING set change and
jobs leave. -/
structure Touches (s t : State) (x : Slot) (q : Record) : Prop where
  cells : Replaces s t x q
  calm : Calm s t
  free : t.table.free = s.table.free
  lists : ∀ l, (t.book l).list = (s.book l).list
  keys : t.keys = s.keys
  jobs : t.jobs.Sublist s.jobs
  counts : Counts s t
  port : t.port = s.port

/-- The same, with the WAITING set as it was. -/
structure Edits (s t : State) (x : Slot) (q : Record) : Prop extends Touches s t x q where
  waiting : t.table.waiting = s.table.waiting

theorem edits_withRecordAt (s : State) (x : Slot) (q : Record) : Edits s (s.withRecordAt x q) x q :=
  ⟨⟨replaces_withRecordAt s x q, calm_setCell .., rfl, fun _ => rfl, rfl, List.Sublist.refl _,
    counts_of_same rfl rfl, rfl⟩, rfl⟩

/-- Of an edited record the identity stays, and what the keys, the jobs, the WAITING set and the account read
of it agrees again. -/
structure Amends (s t : State) (x : Slot) (r q : Record) : Prop where
  at_slot : s.recordAt x = some r
  edits : Touches s t x q
  lane : q.lane = r.lane
  payment : q.payment = r.payment
  till : q.till = r.till
  original : q.original = r.original
  wellFormed : r.WellFormed → q.WellFormed
  core : s.Core → t.Core
  account : s.accountHolds → t.accountHolds

section
variable {s t : State} {x : Slot} {r q : Record}

theorem Amends.recordAt (h : Amends s t x r q) (y : Slot) :
    t.recordAt y = if y = x then some q else s.recordAt y := h.edits.cells.recordAt y

theorem Amends.deep (h : Amends s t x r q) : Deep s t where
  slots := slots_replaced h.at_slot h.edits.cells h.lane h.edits.free h.edits.lists
  account _ := h.account
  records := records_replaced h.at_slot h.edits.cells h.wellFormed
  keys := keysWellFormed_congr h.edits.keys
  core _ := h.core
  port := portHolds_of_kept (fun _ _ _ hj => h.edits.jobs.subset hj) (by rw [h.edits.port])

theorem Amends.entries (h : Amends s t x r q) (i : Fin 4) : EntryKeeps (s.entry i) (t.entry i) := by
  rw [entry_congr h.edits.keys]
  exact EntryKeeps.refl _

theorem Amends.moves (h : Amends s t x r q) (hmay : r.state.mayBecome q.state = true) (y : Slot) :
    SlotMoves s t y :=
  moves_replaced h.at_slot h.edits.cells h.lane h.payment h.till h.original hmay y

theorem Amends.stays (h : Amends s t x r q) (hstate : q.state = r.state) (y : Slot) : SlotStays s t y := by
  refine ⟨h.edits.cells.tag y, ?_⟩
  rw [h.recordAt]
  split
  · next hy =>
    rw [hy, h.at_slot]
    exact .some ⟨h.lane, h.payment, h.till, h.original, hstate⟩
  · exact optionRel_refl Kept.refl _

/-- The record's engagement stays with its lane's. -/
theorem Amends.engagements (h : Amends s t x r q) (heng : q.engaged = r.engaged)
    (hbook : ∀ l, (t.book l).engaged = (s.book l).engaged) : EngagementsKept s t := fun _ he => by
  refine engagementsHold_congr h.edits.cells.tag (fun y => ?_) hbook he
  rw [h.recordAt]
  split
  · next hy =>
    rw [hy, h.at_slot]
    exact .some ⟨h.lane, heng⟩
  · exact optionRel_refl (fun _ => ⟨rfl, rfl⟩) _

theorem Amends.others (h : Amends s t x r q) {y : Slot} (hy : y ≠ x) :
    Option.Rel (fun r q : Record => q.lane = r.lane ∧ q.engaged = r.engaged) (s.recordAt y) (t.recordAt y) := by
  rw [h.recordAt, if_neg hy]
  exact optionRel_refl (fun _ => ⟨rfl, rfl⟩) _

/-- The record's engagement ends with its lane's. -/
theorem Amends.disengaged (h : Amends s t x r q) (heng : r.engaged = true) (hq : q.engaged = false)
    (hbook : ∀ l, (t.book l).engaged = if l = r.lane then none else (s.book l).engaged) : EngagementsKept s t :=
  fun _ he => by
    refine engagementsHold_ended h.at_slot (by rw [h.recordAt, if_pos rfl]) h.edits.cells.tag (fun y hy => h.others hy) hq
      ?_ (fun l hl => ?_) heng he
    · rw [hbook, if_pos rfl]
    · rw [hbook, if_neg hl]

theorem Amends.stirs (h : Amends s t x r q) (hmay : r.state.mayBecome q.state = true) : Stirs s t :=
  ⟨h.edits.calm, h.deep, h.edits.counts, fun _ => h.moves hmay, h.entries⟩

theorem Amends.quiet (h : Amends s t x r q) (hstate : q.state = r.state) (he : EngagementsKept s t) : Quiet s t :=
  ⟨h.edits.calm, h.deep, he, h.edits.counts, h.stays hstate, h.entries⟩

theorem Amends.acts (h : Amends s t x r q) (hmay : r.state.mayBecome q.state = true) (he : EngagementsKept s t) :
    Acts s t := Acts.of_stirs (h.stirs hmay) he

end

/-! ## A record whose follow-ups and binding stay -/

/-- A record changed in its state, timers, marks, delivery, payload or outcome: identity, binding and follow-ups
stay, and the card block where an entry waits. -/
structure Passes (r q : Record) : Prop where
  lane : q.lane = r.lane
  payment : q.payment = r.payment
  till : q.till = r.till
  original : q.original = r.original
  bound : q.bound = r.bound
  binding : q.binding = r.binding
  followUps : q.followUps = r.followUps
  armed : q.state = .armed → r.state = .armed
  card : r.Sound → r.waits → q.card = r.card
  wellFormed : r.WellFormed → q.WellFormed

/-- A record waits only in the states that may hold a REVERSAL (R75). -/
theorem Record.Sound.not_waits {r : Record} (hs : r.Sound) (h : r.state.mayHoldReversal = false) : ¬ r.waits := by
  rintro ⟨f, hf, hw⟩
  have := hs.wellFormed.reversal ⟨f, hf, (hs.waiting f hf hw).1⟩
  rw [h] at this
  cases this

section
variable {r q : Record} (h : Passes r q)
include h

theorem Passes.waits_iff : q.waits ↔ r.waits := by rw [Record.waits, h.followUps]; rfl

theorem Passes.sound (hs : r.Sound) : q.Sound where
  wellFormed := h.wellFormed hs.wellFormed
  waiting f hf hw := by
    rw [h.followUps] at hf
    rw [h.card hs ⟨f, hf, hw⟩]
    exact hs.waiting f hf hw
  armed ha := h.binding.trans (hs.armed (h.armed ha))

/-- The record fits where no capture job loses its record. -/
theorem Passes.fits {jobs : List Job} {hd : Handle}
    (hcapture : r.state = .capturing → q.state = .capturing ∨ ∀ l g c, Job.capture hd l g c ∉ jobs) :
    Fits jobs hd r q where
  sound := h.sound
  bound := h.bound
  binding := h.binding
  agrees job hj part ht ha := by
    cases job with
    | capture hd' l g c =>
      obtain ⟨h1, h2, h3⟩ := ha
      cases ht
      exact ⟨(hcapture h1).resolve_right fun hno => hno l g c hj, h.lane.trans h2, h.binding.trans h3⟩
    | followUp kind share hd' i l g c =>
      obtain ⟨b, e, h1, h2, h3, h4, h5⟩ := ha
      exact ⟨b, e, h.lane.trans h1, h.binding.trans h2, h3, by rw [h.followUps]; exact h4, h5⟩
    | unwrap => trivial

end

/-- The books' totals stay, and what the record adds to them (R62). -/
theorem account_of_same {s t : State} {x : Slot} {r q : Record} (hr : s.recordAt x = some r)
    (hcell : Replaces s t x q) (hlane : q.lane = r.lane)
    (hamount : q.state = .deferred ∨ r.state = .deferred → q.state = r.state ∧ q.current = r.current)
    (htotal : ∀ l, (t.book l).total = (s.book l).total) (hcount : ∀ l, (t.book l).count = (s.book l).count)
    (hstore : t.table.storeTotal = s.table.storeTotal) (ha : s.accountHolds) : t.accountHolds := by
  have hon : ∀ l, q.amountOn l = r.amountOn l ∧ q.countOn l = r.countOn l := fun l => by
    rw [Record.amountOn, Record.amountOn, Record.countOn, Record.countOn, hlane]
    by_cases hd : q.state = .deferred ∨ r.state = .deferred
    · obtain ⟨h1, h2⟩ := hamount hd
      rw [h1, h2]
      exact ⟨rfl, rfl⟩
    · obtain ⟨h1, h2⟩ := not_or.mp hd
      rw [if_neg fun h => h1 h.1, if_neg fun h => h2 h.1, if_neg fun h => h1 h.1, if_neg fun h => h2 h.1]
      exact ⟨rfl, rfl⟩
  exact accountHolds_replaced ha hr hcell (fun l => by rw [htotal, (hon l).1]) (fun l => by rw [hcount, (hon l).2])
    (by rw [hstore, (hon _).1]) hlane

section
variable {s t : State} {x : Slot} {r q : Record}

theorem Passes.amends (h : Passes r q) (hr : s.recordAt x = some r) (he : Edits s t x q)
    (hcapture : s.Core → r.state = .capturing →
      q.state = .capturing ∨ ∀ l g c, Job.capture (s.handleOf x) l g c ∉ t.jobs)
    (haccount : s.accountHolds → t.accountHolds) : Amends s t x r q :=
  ⟨hr, he.toTouches, h.lane, h.payment, h.till, h.original, h.wellFormed, fun hc =>
    hc.record_changed hr he.cells he.waiting he.keys he.jobs (h.fits (hcapture hc)) h.waits_iff, haccount⟩

/-- A record edited in place, the account not concerned. -/
theorem Passes.amends_in_place (h : Passes r q) (hr : s.recordAt x = some r)
    (hcapture : s.Core → r.state = .capturing →
      q.state = .capturing ∨ ∀ l g c, Job.capture (s.handleOf x) l g c ∉ s.jobs)
    (hamount : q.state = .deferred ∨ r.state = .deferred → q.state = r.state ∧ q.current = r.current) :
    Amends s (s.withRecordAt x q) x r q :=
  h.amends hr (edits_withRecordAt s x q) hcapture
    (account_of_same hr (replaces_withRecordAt s x q) h.lane hamount (fun _ => rfl) (fun _ => rfl) rfl)

end

/-! ## The end frame (R44) -/

section
variable {r : Record} (mode : LaneMode) (kind : EndFrameKind)

/-- The record of an end frame queued. -/
theorem passes_framed (hstate : r.state.isEngaging = false) : Passes r (r.framed mode kind) := by
  have hq := framed_eq r mode kind
  refine ⟨by rw [hq], by rw [hq], by rw [hq], by rw [hq], by rw [hq], by rw [hq], by rw [hq],
    fun h => by rw [hq] at h; exact h, fun _ _ => by rw [hq], fun hw => ?_⟩
  rw [Record.framed]
  split
  · next hd =>
    have htimer : r.deliveryTimer = none := by
      cases ht : r.deliveryTimer with
      | none => rfl
      | some n =>
        have := hw.deliveryTimer.mp (by rw [ht]; rfl)
        rw [hd] at this
        cases this
    have hvalue : (if mode = .ready then DeliveryValue.queued else .unconfirmed) ≠ .none ∧
        (if mode = .ready then DeliveryValue.queued else .unconfirmed) ≠ .sent := by
      split
      · exact ⟨by decide, by decide⟩
      · exact ⟨by decide, by decide⟩
    exact { hw with
      engaging := fun h => (by rw [hstate] at h; cases h)
      deliveryKind := ⟨fun _ => hvalue.1, fun _ => rfl⟩
      deliveryTimer := ⟨fun h => (by rw [htimer] at h; cases h), fun h => absurd h hvalue.2⟩ }
  · exact hw

end

section
variable (s : State) (x : Slot) (kind : EndFrameKind) (frame : Record → PartFrame)

/-- An end frame edits its record, once its frame is offered. -/
theorem queueEndFrame_edits {r : Record} (hr : s.recordAt x = some r) :
    Edits s (s.queueEndFrame x kind frame) x (r.framed (s.lane r.lane).mode kind) := by
  have hcells : Replaces s (s.queueEndFrame x kind frame) x (r.framed (s.lane r.lane).mode kind) := fun y => by
    have htag := tag_queueEndFrame s x kind frame y
    have hrec := recordAt_queueEndFrame s x kind frame y
    rw [hr, Option.map_some] at hrec
    have hcell : (s.queueEndFrame x kind frame).cell y =
        { tag := ((s.queueEndFrame x kind frame).cell y).tag
          record := (s.queueEndFrame x kind frame).recordAt y } := rfl
    rw [hcell, htag, hrec]
    split
    · next hy => rw [hy]
    · rfl
  have htable := table_queueEndFrame s x kind frame
  have hframe := queueEndFrame_frame s x kind frame
  have hjobs : (s.queueEndFrame x kind frame).jobs = s.jobs := by rw [hframe]; rfl
  exact ⟨⟨hcells, calm_queueEndFrame .., by rw [htable], fun l => by rw [book_queueEndFrame],
    by rw [hframe], by rw [hjobs], counts_of_same (by rw [hframe]) (by rw [htable]), by rw [hframe]⟩, by rw [htable]⟩

theorem queueEndFrame_amends {r : Record} (hr : s.recordAt x = some r) (hstate : r.state.isEngaging = false) :
    Amends s (s.queueEndFrame x kind frame) x r (r.framed (s.lane r.lane).mode kind) := by
  have hp := passes_framed (s.lane r.lane).mode kind hstate
  have he := queueEndFrame_edits s x kind frame hr
  refine hp.amends hr he (fun _ hc => ?_) (account_of_same hr he.cells hp.lane (fun _ => ?_)
    (fun l => by rw [book_queueEndFrame]) (fun l => by rw [book_queueEndFrame]) (by rw [table_queueEndFrame]))
  · rw [hc] at hstate
    cases hstate
  · rw [framed_eq]
    exact ⟨rfl, rfl⟩

end

/-- The engaged handle of each lane after an end frame (R44, R48). -/
theorem engaged_queueEndFrame {s : State} {x : Slot} {r : Record} (hr : s.recordAt x = some r)
    (hd : r.delivery.value = .none) (kind : EndFrameKind) (frame : Record → PartFrame) (l : LaneId) :
    ((s.queueEndFrame x kind frame).book l).engaged =
      if l = r.lane ∧ (s.lane r.lane).mode ≠ .ready then none else (s.book l).engaged := by
  split
  · next h =>
    obtain ⟨rfl, hm⟩ := h
    rw [book_queueEndFrame_ended _ _ _ _ _ ⟨r, hr, hd, rfl⟩ hm]
  · next h =>
    rw [book_queueEndFrame_kept]
    rintro ⟨⟨q, hq, _, rfl⟩, hm⟩
    cases hr.symm.trans hq
    exact h ⟨rfl, hm⟩

/-- A payment ends, and its end frame follows: the engagement goes on while the end frame is to be delivered,
and ends at once on a lane that is not READY (R10, R44). -/
theorem engagements_end {s u : State} {x : Slot} {r q : Record} (hr : s.recordAt x = some r)
    (heng : r.state.isEngaging = true) (hq : u.recordAt x = some q) (hlane : q.lane = r.lane)
    (hdel : q.delivery = r.delivery) (hstate : q.state.isEngaging = false)
    (htag : ∀ y, (u.cell y).tag = (s.cell y).tag)
    (hother : ∀ y, y ≠ x → Option.Rel (fun r q : Record => q.lane = r.lane ∧ q.engaged = r.engaged) (s.recordAt y)
      (u.recordAt y))
    (hbook : ∀ l, (u.book l).engaged = (s.book l).engaged) (kind : EndFrameKind) (frame : Record → PartFrame) :
    EngagementsKept s (u.queueEndFrame x kind frame) := by
  intro hw he
  have hd : r.delivery.value = .none := (hw x r hr).engaging heng
  have hdq : q.delivery.value = .none := hdel ▸ hd
  have hengr : r.engaged = true := by rw [Record.engaged, heng, Bool.true_or]
  have hrec := fun y => recordAt_queueEndFrame u x kind frame y
  have htag' := fun y => (tag_queueEndFrame u x kind frame y).trans (htag y)
  have hengaged := engaged_queueEndFrame hq hdq kind frame
  have hother' : ∀ y, y ≠ x → Option.Rel (fun r q : Record => q.lane = r.lane ∧ q.engaged = r.engaged)
      (s.recordAt y) ((u.queueEndFrame x kind frame).recordAt y) := fun y hy => by
    rw [hrec, if_neg hy]
    exact hother y hy
  have hx : (u.queueEndFrame x kind frame).recordAt x = some (q.framed (u.lane q.lane).mode kind) := by
    rw [hrec, if_pos rfl, hq]; rfl
  by_cases hm : (u.lane q.lane).mode = .ready
  · refine engagementsHold_congr htag' (fun y => ?_) (fun l => ?_) he
    · by_cases hy : y = x
      · subst hy
        rw [hr, hx, hm, framed_of_ready hdq]
        refine .some ⟨hlane, ?_⟩
        rw [hengr]
        exact Bool.or_true _
      · exact hother' y hy
    · rw [hengaged, if_neg fun h => h.2 hm, hbook]
  · refine engagementsHold_ended hr hx htag' hother' ?_ ?_ (fun l hl => ?_) hengr he
    · rw [framed_of_not_ready hdq hm, Record.engaged, hstate]; rfl
    · rw [hengaged, if_pos ⟨hlane.symm, hm⟩]
    · rw [hengaged, if_neg fun h => hl (h.1.trans hlane), hbook]

/-! ## An act on one record -/

/-- An act on one record, after which its state is the one given; the other records keep their lanes and their
engagements, and the lanes their engaged handles. -/
structure Alters (s u : State) (x : Slot) (r : Record) (state : PaymentState) : Prop where
  at_slot : s.recordAt x = some r
  stirs : Stirs s u
  tag : ∀ y, (u.cell y).tag = (s.cell y).tag
  record : ∃ q, u.recordAt x = some q ∧ q.lane = r.lane ∧ q.delivery = r.delivery ∧ q.state = state
  others : ∀ y, y ≠ x → Option.Rel (fun r q : Record => q.lane = r.lane ∧ q.engaged = r.engaged) (s.recordAt y)
    (u.recordAt y)
  engaged : ∀ l, (u.book l).engaged = (s.book l).engaged

section
variable {s t u : State} {x : Slot} {r q : Record} {state : PaymentState}

theorem Amends.alters (h : Amends s t x r q) (hmay : r.state.mayBecome q.state = true)
    (hdel : q.delivery = r.delivery) (hbook : ∀ l, (t.book l).engaged = (s.book l).engaged) :
    Alters s t x r q.state :=
  ⟨h.at_slot, h.stirs hmay, h.edits.cells.tag, ⟨q, by rw [h.recordAt, if_pos rfl], h.lane, hdel, rfl⟩,
    fun _ hy => h.others hy, hbook⟩

/-- An act that takes a counter first (R99). -/
theorem Alters.after_take {g c : Nat} {l : LaneId} {limit : Nat} (hlimit : limit ≤ 65536)
    (htake : s.takeCounter g l limit = some (c, t)) (h : Alters t u x r state) : Alters s u x r state := by
  have hq := quiet_takeCounter hlimit htake
  have hrec := takeCounter_recordAt htake
  refine ⟨(hrec x).symm.trans h.at_slot, ⟨hq.calm.trans h.stirs.calm, hq.deep.trans h.stirs.deep,
    hq.counts.trans h.stirs.counts, fun hs y => (h.stirs.slots (hq.deep.slots hs) y).after_stays (hq.slots y),
    fun i => (hq.entries i).trans (h.stirs.entries i)⟩, fun y => (h.tag y).trans (hq.slots y).tag, h.record, fun y hy => ?_,
    fun l => (h.engaged l).trans (by rw [takeCounter_book htake])⟩
  rw [← hrec y]
  exact h.others y hy

/-- The engine's work after an act (R110). -/
theorem Alters.then_works (h : Alters s t x r state) (h' : Works t u) (hcore : s.Core → t.Core → u.Core)
    (hport : t.portHolds → u.portHolds) (hcounts : Counts t u) : Alters s u x r state := by
  obtain ⟨q, hq, hlane, hdel, hstate⟩ := h.record
  obtain ⟨p, hp, hre⟩ := h'.occupied_of hq
  refine ⟨h.at_slot, ⟨h.stirs.calm.trans h'.calm, h.stirs.deep.then_works h' hcore hport, h.stirs.counts.trans hcounts,
    fun hs y => (h.stirs.slots hs y).then_stays (h'.stays y),
    fun i => (h.stirs.entries i).trans (h'.entries i).keeps⟩, fun y => (h'.tags y).trans (h.tag y),
    ⟨p, hp, ?_, ?_, ?_⟩, fun y hy => ?_, fun l => by rw [h'.book]; exact h.engaged l⟩
  · rw [hre.same]; exact hlane
  · rw [hre.same]; exact hdel
  · rw [hre.same]; exact hstate
  · refine optionRel_trans (R := fun r q : Record => q.lane = r.lane ∧ q.engaged = r.engaged)
      (fun _ _ _ h1 h2 => ⟨h2.1.trans h1.1, h2.2.trans h1.2⟩) (h.others y hy) ?_
    cases ht : t.recordAt y with
    | none => rw [(h'.free_iff y).mpr ht]; exact .none
    | some p =>
      obtain ⟨p', hp', hre'⟩ := h'.occupied_of ht
      rw [hp', hre'.same]
      exact .some ⟨rfl, rfl⟩

/-- An act that ends no engagement. -/
theorem Alters.acts (h : Alters s u x r state) (heng : state.isEngaging = r.state.isEngaging) : Acts s u := by
  refine Acts.of_stirs h.stirs fun _ he => engagementsHold_congr h.tag (fun y => ?_) h.engaged he
  by_cases hy : y = x
  · obtain ⟨q, hq, hlane, hdel, hstate⟩ := h.record
    rw [hy, h.at_slot, hq]
    refine .some ⟨hlane, ?_⟩
    rw [Record.engaged, Record.engaged, hdel, hstate, heng]
  · exact h.others y hy

/-- A payment ends, and its end frame follows. -/
theorem Alters.then_end_frame (h : Alters s u x r state) (heng : r.state.isEngaging = true)
    (hstate : state.isEngaging = false) (kind : EndFrameKind) (frame : Record → PartFrame) :
    Acts s (u.queueEndFrame x kind frame) := by
  obtain ⟨q, hq, hlane, hdel, rfl⟩ := h.record
  have hf := queueEndFrame_amends u x kind frame hq hstate
  have hstays := hf.stays (by rw [framed_eq])
  refine Acts.of_stirs ⟨h.stirs.calm.trans hf.edits.calm, h.stirs.deep.trans hf.deep, h.stirs.counts.trans hf.edits.counts,
    fun hs y => (h.stirs.slots hs y).then_stays (hstays y), fun i => (h.stirs.entries i).trans (hf.entries i)⟩ ?_
  exact engagements_end h.at_slot heng hq hlane hdel hstate h.tag h.others h.engaged kind frame

theorem acts_end_frame (h : Amends s u x r q)
    (heng : r.state.isEngaging = true) (hmay : r.state.mayBecome q.state = true)
    (hstate : q.state.isEngaging = false) (hdel : q.delivery = r.delivery)
    (hbook : ∀ l, (u.book l).engaged = (s.book l).engaged) (kind : EndFrameKind) (frame : Record → PartFrame) :
    Acts s (u.queueEndFrame x kind frame) :=
  (h.alters hmay hdel hbook).then_end_frame heng hstate kind frame

end

end Sys2Proof.Machine
end


section
/-! PROOFS. A record's state turns (R12, R26): each of the spec's changes of a record, as what it keeps of the
record's identity, binding and follow-ups, and of the agreement of the record's fields with its state. -/

namespace Sys2Proof.Machine

/-- A record's state turns, with the fields that go with it: its identity, amounts, binding, follow-ups and
delivery stay, and its fields agree with the state it comes to. -/
structure Turns (r q : Record) : Prop where
  same : q = { r with
    state := q.state, endReason := q.endReason, cancelPending := q.cancelPending, stateTimer := q.stateTimer
    payload := q.payload, card := q.card, outcome := q.outcome, late := q.late, ended := q.ended }
  armed : q.state = .armed → r.state = .armed
  engaging : q.state.isEngaging = true → r.state.isEngaging = true
  followUps : r.state.mayHoldFollowUps = true → q.state.mayHoldFollowUps = true
  reversal : r.state.mayHoldReversal = true → q.state.mayHoldReversal = true
  cardKept : r.state.mayHoldReversal = true → q.card = r.card
  endReason : r.WellFormed → (q.endReason.isSome = true ↔ q.state = .cancelled ∨ q.state = .failed)
  cancelPending : r.WellFormed → q.cancelPending.isSome = true → q.state = .capturing
  stateTimer : r.WellFormed → q.stateTimer.isSome = true → q.state.mayHaveTimer = true
  payload : r.WellFormed → (q.payload.isSome = true ↔ q.state.hasPayload = true)
  card : r.WellFormed → q.card.isSome = true → r.card.isSome = true ∧ q.state.mayHoldCard = true

section
variable {r q : Record}

theorem Turns.delivery (h : Turns r q) : q.delivery = r.delivery := by rw [h.same]

theorem Turns.passes (h : Turns r q) : Passes r q where
  lane := by rw [h.same]
  payment := by rw [h.same]
  till := by rw [h.same]
  original := by rw [h.same]
  bound := by rw [h.same]
  binding := by rw [h.same]
  followUps := by rw [h.same]
  armed := h.armed
  card hs hw := h.cardKept (by
    by_contra hno
    exact hs.not_waits (Bool.eq_false_of_not_eq_true hno) hw)
  wellFormed hw := by
    have hend := h.endReason hw
    have hcancel := h.cancelPending hw
    have htimer := h.stateTimer hw
    have hpayload := h.payload hw
    have hcard := h.card hw
    have heng := h.engaging
    have hfollow := h.followUps
    have hrev := h.reversal
    have hsame := h.same
    generalize q.state = state at *
    generalize q.endReason = endReason at *
    generalize q.cancelPending = cancelPending at *
    generalize q.stateTimer = stateTimer at *
    generalize q.payload = payload at *
    generalize q.card = card at *
    generalize q.outcome = outcome at *
    generalize q.late = late at *
    generalize q.ended = ended at *
    subst hsame
    exact { hw with
      endReason := hend
      engaging := fun h => hw.engaging (heng h)
      cancelPending := hcancel
      stateTimer := htimer
      payload := hpayload
      card := fun h => ⟨(hw.card (hcard h).1).1, (hcard h).2⟩
      followUps := fun h => hfollow (hw.followUps h)
      reversal := fun h => hrev (hw.reversal h) }

end

/-! ## What a record's state says of it -/

section
variable {r : Record} (hw : r.WellFormed)
include hw

theorem Record.WellFormed.cancelPending_none (h : r.state ≠ .capturing) : r.cancelPending = none :=
  Option.not_isSome_iff_eq_none.mp fun hc => h (hw.cancelPending hc)

theorem Record.WellFormed.endReason_none (h1 : r.state ≠ .cancelled) (h2 : r.state ≠ .failed) :
    r.endReason = none :=
  Option.not_isSome_iff_eq_none.mp fun hc => (hw.endReason.mp hc).elim h1 h2

theorem Record.WellFormed.card_none (h : r.state.mayHoldCard = false) : r.card = none :=
  Option.not_isSome_iff_eq_none.mp fun hc => by
    have := (hw.card hc).2
    rw [h] at this
    cases this

theorem Record.WellFormed.payload_none (h : r.state.hasPayload = false) : r.payload = none :=
  Option.not_isSome_iff_eq_none.mp fun hc => by
    have := hw.payload.mp hc
    rw [h] at this
    cases this

theorem Record.WellFormed.followUps_nil (h : r.state.mayHoldFollowUps = false) : r.followUps = [] := by
  by_contra hne
  have := hw.followUps hne
  rw [h] at this
  cases this

end

/-! ## The turns of the spec -/

section
variable {r q : Record}

/-- A payment that ends CANCELLED or FAILED: no timer, no cancel pending, no payload and no card block. -/
theorem turns_closed (hstate : r.state = .armed ∨ r.state = .capturing ∨ r.state = .wrapped)
    (hsame : q = { r with
      state := q.state, endReason := q.endReason, cancelPending := q.cancelPending, stateTimer := none
      payload := q.payload, card := q.card, late := q.late, ended := q.ended })
    (hq : q.state = .cancelled ∨ q.state = .failed) (hend : q.endReason.isSome = true)
    (hcancel : r.WellFormed → q.cancelPending = none) (hpayload : r.WellFormed → q.payload = none)
    (hcard : r.WellFormed → q.card = none) : Turns r q := by
  have htimer : q.stateTimer = none := by rw [hsame]
  refine ⟨by rw [hsame], ?_, ?_, ?_, ?_, ?_, fun _ => iff_of_true hend hq, fun hw h => ?_, fun _ h => ?_, fun hw => ?_,
    fun hw h => ?_⟩
  · rcases hq with hq | hq <;> rw [hq] <;> exact fun h => (by cases h)
  · rcases hq with hq | hq <;> rw [hq] <;> exact fun h => (by cases h)
  · rcases hstate with h | h | h <;> rw [h] <;> exact fun h => (by cases h)
  · rcases hstate with h | h | h <;> rw [h] <;> exact fun h => (by cases h)
  · rcases hstate with h | h | h <;> rw [h] <;> exact fun h => (by cases h)
  · rw [hcancel hw] at h; cases h
  · rw [htimer] at h; cases h
  · rw [hpayload hw]
    rcases hq with hq | hq <;> rw [hq] <;> exact ⟨fun h => (by cases h), fun h => (by cases h)⟩
  · rw [hcard hw] at h; cases h

theorem turns_armed_closed (hr : r.state = .armed)
    (hsame : q = { r with state := q.state, endReason := q.endReason, stateTimer := none, ended := q.ended })
    (hq : q.state = .cancelled ∨ q.state = .failed) (hend : q.endReason.isSome = true) : Turns r q := by
  refine turns_closed (.inl hr) (by rw [hsame]) hq hend (fun hw => ?_) (fun hw => ?_) fun hw => ?_
  · rw [hsame]; exact hw.cancelPending_none (by rw [hr]; decide)
  · rw [hsame]; exact hw.payload_none (by rw [hr]; rfl)
  · rw [hsame]; exact hw.card_none (by rw [hr]; rfl)

theorem turns_laneLost (hr : r.state = .armed) (cause : LeaveCause) : Turns r (r.laneLost cause) :=
  turns_armed_closed hr rfl (.inl rfl) rfl

theorem turns_cancel (hr : r.state = .armed ∨ r.state = .capturing ∨ r.state = .wrapped)
    (reason : CancelReason) : Turns r (r.cancel reason) :=
  turns_closed hr rfl (.inl rfl) rfl (fun _ => rfl) (fun _ => rfl) fun _ => rfl

theorem ne_of_hasPayload {p : PaymentState} (h : p.hasPayload = true) :
    p ≠ .cancelled ∧ p ≠ .failed ∧ p ≠ .capturing ∧ p ≠ .armed := by
  refine ⟨?_, ?_, ?_, ?_⟩ <;> (rintro rfl; cases h)

/-- A state that turns into another which holds a payload as it does, and is neither CANCELLED nor FAILED nor
CAPTURING (R34 to R42, R61 to R66). -/
theorem turns_payload (hsame : q = { r with
      state := q.state, stateTimer := q.stateTimer, card := q.card, outcome := q.outcome, late := q.late
      ended := q.ended })
    (hr : r.state.hasPayload = true) (hq : q.state.hasPayload = true)
    (heng : q.state.isEngaging = true → r.state.isEngaging = true)
    (hfollow : r.state.mayHoldFollowUps = true → q.state.mayHoldFollowUps = true)
    (hrev : r.state.mayHoldReversal = false)
    (htimer : q.stateTimer.isSome = true → q.state.mayHaveTimer = true)
    (hcard : q.card.isSome = true → r.card.isSome = true ∧ q.state.mayHoldCard = true) : Turns r q := by
  obtain ⟨hr1, hr2, hr3, _⟩ := ne_of_hasPayload hr
  obtain ⟨hq1, hq2, _, hq4⟩ := ne_of_hasPayload hq
  refine ⟨by rw [hsame], fun h => absurd h hq4, heng, hfollow, fun h => ?_, fun h => ?_, fun hw => ?_, fun hw h => ?_,
    fun _ => htimer, fun hw => ?_, fun _ => hcard⟩
  · rw [hrev] at h; cases h
  · rw [hrev] at h; cases h
  · rw [show q.endReason = none by rw [hsame]; exact hw.endReason_none hr1 hr2]
    exact ⟨fun h => (by cases h), fun h => h.elim (absurd · hq1) (absurd · hq2)⟩
  · rw [show q.cancelPending = none by rw [hsame]; exact hw.cancelPending_none hr3] at h
    cases h
  · rw [show q.payload = r.payload by rw [hsame], hw.payload, hr, hq]

theorem turns_settle (hr : r.state = .released) (o : PostedOutcome) {state : PaymentState} {timer : Option StateTimer}
    (hq : state = .approved ∧ timer = none ∨ state = .declined ∧ timer = none ∨ state = .deferred) :
    Turns r { r.settle o state with stateTimer := timer } := by
  refine turns_payload rfl (by rw [hr]; rfl) ?_ ?_ (fun h => (by rw [hr] at h; cases h)) (by rw [hr]; rfl) ?_ ?_
  · rcases hq with ⟨rfl, _⟩ | ⟨rfl, _⟩ | rfl <;> rfl
  · rcases hq with ⟨rfl, _⟩ | ⟨rfl, _⟩ | rfl <;> exact fun h => (by cases h)
  · rcases hq with ⟨rfl, rfl⟩ | ⟨rfl, rfl⟩ | rfl
    · exact fun h => (by cases h)
    · exact fun h => (by cases h)
    · exact fun _ => rfl
  · rcases hq with ⟨rfl, _⟩ | ⟨rfl, _⟩ | rfl
    · exact fun h => ⟨h, rfl⟩
    · exact fun h => (by cases h)
    · exact fun h => ⟨h, rfl⟩

theorem turns_released (hr : r.state = .wrapped) (timer : StateTimer) :
    Turns r { r with state := .released, stateTimer := some timer } := by
  refine turns_payload rfl (by rw [hr]; rfl) rfl (fun _ => by rw [hr]; rfl) (fun h => (by rw [hr] at h; cases h))
    (by rw [hr]; rfl) (fun _ => rfl) fun h => ⟨h, rfl⟩

/-- A lapse, from RELEASED or DEFERRED (R53, R66). -/
theorem turns_lapse (hr : r.state = .released ∨ r.state = .deferred) : Turns r r.lapse := by
  refine turns_payload rfl ?_ rfl (fun h => (by cases h)) (fun _ => rfl) ?_ (fun h => (by cases h)) fun h => ⟨h, rfl⟩
  · rcases hr with hr | hr <;> rw [hr] <;> rfl
  · rcases hr with hr | hr <;> rw [hr] <;> rfl

theorem turns_confirm (hr : r.state = .deferred) (code : Option Code6) :
    Turns r { r.confirm code with stateTimer := none } :=
  turns_payload rfl (by rw [hr]; rfl) rfl (fun h => (by cases h)) (fun _ => rfl) (by rw [hr]; rfl)
    (fun h => (by cases h)) fun h => ⟨h, rfl⟩

theorem turns_reject (hr : r.state = .deferred) : Turns r { r.rejectPayment with stateTimer := none } :=
  turns_payload rfl (by rw [hr]; rfl) rfl (fun h => (by cases h)) (fun _ => rfl) (by rw [hr]; rfl)
    (fun h => (by cases h)) fun h => (by cases h)

/-- A completed capture with no cancel pending (R34). -/
theorem turns_wrap (hr : r.state = .capturing) (hc : r.cancelPending = none) (payload : List Byte) :
    Turns r (r.wrap payload) := by
  refine ⟨rfl, fun h => (by cases h), fun _ => by rw [hr]; rfl, fun h => (by rw [hr] at h; cases h),
    fun h => (by rw [hr] at h; cases h), fun _ => rfl, fun hw => ?_, fun _ h => ?_, fun hw h => ?_, fun _ => ?_,
    fun _ h => ⟨h, rfl⟩⟩
  · have := hw.endReason_none (by rw [hr]; decide) (by rw [hr]; decide)
    exact ⟨fun h => (by rw [show (r.wrap payload).endReason = r.endReason from rfl, this] at h; cases h),
      fun h => h.elim (fun h => (by cases h)) fun h => (by cases h)⟩
  · rw [show (r.wrap payload).cancelPending = r.cancelPending from rfl, hc] at h; cases h
  · have := hw.stateTimer h
    rw [hr] at this
    cases this
  · exact ⟨fun _ => rfl, fun _ => rfl⟩

/-- A record's marks change, or its state timer goes on or stops. -/
theorem turns_marks (hsame : q = { r with
      cancelPending := q.cancelPending, stateTimer := q.stateTimer, late := q.late, ended := q.ended })
    (hcancel : q.cancelPending.isSome = true → r.state = .capturing ∨ q.cancelPending = r.cancelPending)
    (htimer : q.stateTimer.isSome = true → r.stateTimer.isSome = true) : Turns r q := by
  have hstate : q.state = r.state := by rw [hsame]
  refine ⟨by rw [hsame], by rw [hstate]; exact id, by rw [hstate]; exact id, by rw [hstate]; exact id,
    by rw [hstate]; exact id, fun _ => by rw [hsame], fun hw => ?_, fun hw h => ?_, fun hw h => ?_, fun hw => ?_, fun hw h => ?_⟩
  · rw [hstate, show q.endReason = r.endReason by rw [hsame]]; exact hw.endReason
  · rw [hstate]
    exact (hcancel h).elim id fun hc => hw.cancelPending (hc ▸ h)
  · rw [hstate]; exact hw.stateTimer (htimer h)
  · rw [hstate, show q.payload = r.payload by rw [hsame]]; exact hw.payload
  · rw [show q.card = r.card by rw [hsame]] at h
    rw [hstate]
    exact ⟨h, (hw.card h).2⟩

theorem turns_expireNotify : Turns r r.expireNotify := turns_marks rfl (fun _ => .inr rfl) fun h => (by cases h)

theorem turns_cancelPending (hr : r.state = .capturing) (reason : CancelReason) :
    Turns r { r with cancelPending := some reason } := turns_marks rfl (fun _ => .inl hr) id

end

/-! ## Deliveries -/

/-- An open delivery moves on (R45 to R47, R55): the record's kind of end frame stays, its delivery timer runs
exactly while it is SENT. -/
theorem passes_delivery {r : Record} {d : Delivery} {timer : Option Nat}
    (hopen : r.delivery.value ≠ .none) (hkind : d.kind = r.delivery.kind) (hd : d.value ≠ .none)
    (htimer : r.WellFormed → (timer.isSome = true ↔ d.value = .sent)) :
    Passes r { r with delivery := d, deliveryTimer := timer } := by
  refine ⟨rfl, rfl, rfl, rfl, rfl, rfl, rfl, id, fun _ _ => rfl, fun hw => ?_⟩
  exact { hw with
    engaging := fun h => absurd (hw.engaging h) hopen
    deliveryKind := by
      have hk := hw.deliveryKind
      dsimp only
      rw [hkind, hk]
      exact iff_of_true hopen hd
    deliveryTimer := htimer hw }

/-- One tick of a record's timers (R49). -/
theorem passes_tick (r : Record) : Passes r r.tick := by
  refine ⟨rfl, rfl, rfl, rfl, rfl, rfl, rfl, id, fun _ _ => rfl, fun hw => ?_⟩
  exact { hw with
    deliveryTimer := by
      rw [show r.tick.deliveryTimer.isSome = r.deliveryTimer.isSome from Option.isSome_map ..]
      exact hw.deliveryTimer
    stateTimer := fun h => hw.stateTimer (by
      rwa [show r.tick.stateTimer.isSome = r.stateTimer.isSome from Option.isSome_map ..] at h) }

end Sys2Proof.Machine
end


section
/-! PROOFS. A capture job leaves with its record's end (R34, R113), and the acts of a completed job (R112). -/

namespace Sys2Proof.Machine

/-! ## A turn in its slot -/

section
variable {s t : State} {x : Slot} {r q : Record}

/-- A record's turn that the account does not notice. -/
theorem Turns.amends (h : Turns r q) (hr : s.recordAt x = some r) (he : Edits s t x q)
    (hcapture : s.Core → r.state = .capturing →
      q.state = .capturing ∨ ∀ l g c, Job.capture (s.handleOf x) l g c ∉ t.jobs)
    (hdeferred : q.state = .deferred ∨ r.state = .deferred → q.state = r.state)
    (htotal : ∀ l, (t.book l).total = (s.book l).total) (hcount : ∀ l, (t.book l).count = (s.book l).count)
    (hstore : t.table.storeTotal = s.table.storeTotal) : Amends s t x r q :=
  h.passes.amends hr he hcapture
    (account_of_same hr he.cells h.passes.lane (fun hd => ⟨hdeferred hd, by rw [h.same]⟩) htotal hcount hstore)

theorem Turns.amends_in_place (h : Turns r q) (hr : s.recordAt x = some r)
    (hcapture : r.state = .capturing → q.state = .capturing)
    (hdeferred : q.state = .deferred ∨ r.state = .deferred → q.state = r.state) :
    Amends s (s.withRecordAt x q) x r q :=
  h.amends hr (edits_withRecordAt s x q) (fun _ hc => .inl (hcapture hc)) hdeferred (fun _ => rfl) (fun _ => rfl) rfl

theorem Turns.engaged (h : Turns r q) (heng : q.state.isEngaging = r.state.isEngaging) : q.engaged = r.engaged := by
  rw [Record.engaged, Record.engaged, heng, h.delivery]

/-- A record's turn that neither the account nor the engagements notice. -/
theorem Turns.acts (h : Turns r q) (hr : s.recordAt x = some r) (hmay : r.state.mayBecome q.state = true)
    (hcapture : r.state = .capturing → q.state = .capturing)
    (hdeferred : q.state = .deferred ∨ r.state = .deferred → q.state = r.state)
    (heng : q.state.isEngaging = r.state.isEngaging) : Acts s (s.withRecordAt x q) :=
  have ha := h.amends_in_place hr hcapture hdeferred
  ha.acts hmay (ha.engagements (h.engaged heng) fun _ => rfl)

/-- A record's turn within its state. -/
theorem Turns.quiet (h : Turns r q) (hr : s.recordAt x = some r) (hstate : q.state = r.state) :
    Quiet s (s.withRecordAt x q) :=
  have ha := h.amends_in_place hr (fun hc => hstate.trans hc) fun _ => hstate
  ha.quiet hstate (ha.engagements (h.engaged (by rw [hstate])) fun _ => rfl)

end

/-! ## Capture jobs (R113) -/

/-- A record has one capture job: with it gone there is none. -/
theorem no_capture_of_perm {s : State} {h : Handle} {l : LaneId} {g c : Nat} {jobs : List Job} (hc : s.Core)
    (hj : s.jobs.Perm (.capture h l g c :: jobs)) (l' : LaneId) (g' c' : Nat) : Job.capture h l' g' c' ∉ jobs := by
  have hnodup := (hj.map Job.target).nodup_iff.mp hc.targets
  rw [List.map_cons, List.nodup_cons] at hnodup
  exact fun hmem => hnodup.1 (List.mem_map.mpr ⟨_, hmem, rfl⟩)

/-- The handle of a job is the current one of its slot. -/
theorem handleOf_of_job {s : State} (hc : s.Core) {job : Job} (hmem : job ∈ s.jobs) {h : Handle} {part : Nat}
    (ht : job.target = some (h, part)) : s.handleOf (slotOf h) = h := by
  obtain ⟨r, hr, _⟩ := (hc.jobs job hmem).record h part ht
  exact handleOf_of_current hr

/-- A list after the first item that passes a test has left it. -/
theorem perm_eraseP {α : Type} {p : α → Bool} {l : List α} {a : α} (hmem : a ∈ l) (ha : p a = true) :
    ∃ b, p b = true ∧ l.Perm (b :: l.eraseP p) := by
  obtain ⟨b, l1, l2, _, hb, hl, herase⟩ := List.exists_of_eraseP hmem ha
  refine ⟨b, hb, ?_⟩
  rw [herase, hl]
  exact List.perm_middle

theorem jobs_perm_queue (s : State) {queue : List Job} {job : Job} (h : s.engine.queue.Perm (job :: queue)) :
    s.jobs.Perm (job :: (s.setQueue queue).jobs) := by
  cases hv : s.engine.service with
  | serving j inputs =>
    have h1 : s.jobs = j :: s.engine.queue := by rw [State.jobs, hv]
    have h2 : (s.setQueue queue).jobs = j :: queue := by rw [State.jobs, State.service_setQueue, hv]; rfl
    rw [h1, h2]
    exact (h.cons j).trans (List.Perm.swap ..)
  | idle | held =>
    have h1 : s.jobs = s.engine.queue := by rw [State.jobs, hv]
    have h2 : (s.setQueue queue).jobs = queue := by rw [State.jobs, State.service_setQueue, hv]; rfl
    rw [h1, h2]
    exact h

theorem filter_eraseP_of_not {α : Type} {p q : α → Bool} (h : ∀ a, p a = true → q a = false) (l : List α) :
    (l.eraseP p).filter q = l.filter q := by
  induction l with
  | nil => rfl
  | cons a rest ih =>
    by_cases hp : p a = true
    · rw [List.eraseP_cons_of_pos hp, List.filter_cons, h a hp]; rfl
    · rw [List.eraseP_cons_of_neg hp, List.filter_cons, List.filter_cons, ih]

theorem jobs_sublist_setQueue (s : State) {queue : List Job} (h : queue.Sublist s.engine.queue) :
    (s.setQueue queue).jobs.Sublist s.jobs := by
  cases hv : s.engine.service with
  | serving j inputs =>
    have h1 : s.jobs = j :: s.engine.queue := by rw [State.jobs, hv]
    have h2 : (s.setQueue queue).jobs = j :: queue := by rw [State.jobs, State.service_setQueue, hv]; rfl
    rw [h1, h2]
    exact h.cons_cons j
  | idle | held =>
    have h1 : s.jobs = s.engine.queue := by rw [State.jobs, hv]
    have h2 : (s.setQueue queue).jobs = queue := by rw [State.jobs, State.service_setQueue, hv]; rfl
    rw [h1, h2]
    exact h

theorem isCaptureOf_shares {h : Handle} {job : Job} (hj : job.isCaptureOf h = true) :
    job.isAutomatic = false ∧ job.isRequested = false := by
  obtain ⟨l, g, c, rfl⟩ := (isCaptureOf_iff h job).mp hj
  exact ⟨rfl, rfl⟩

theorem counts_withdrawCapture (s : State) (h : Handle) : Counts s (s.withdrawCapture h) := by
  have hauto : (s.withdrawCapture h).automaticCount = s.automaticCount :=
    congrArg List.length (filter_eraseP_of_not (fun j hj => (isCaptureOf_shares (h := h) hj).1) s.engine.queue)
  have hreq : (s.withdrawCapture h).requestedCount = s.requestedCount :=
    congrArg List.length (filter_eraseP_of_not (fun j hj => (isCaptureOf_shares (h := h) hj).2) s.engine.queue)
  refine ⟨fun hf hne => ?_, fun hs => ?_⟩
  · rw [hauto]; exact hf hne
  · rw [State.sharesHold, hauto, hreq]; exact hs

/-! ## Jobs that leave with a record's change -/

section
variable (s : State) (x : Slot) (q : Record)

theorem edits_withdrawn (h : Handle) : Edits s ((s.withdrawCapture h).withRecordAt x q) x q :=
  ⟨⟨replaces_withRecordAt s x q, Calm.of_same rfl rfl rfl rfl rfl rfl rfl, rfl, fun _ => rfl, rfl,
    jobs_sublist_setQueue s List.eraseP_sublist, (counts_withdrawCapture s h).trans (counts_of_same rfl rfl), rfl⟩, rfl⟩

theorem edits_served : Edits s ((s.setService .idle).withRecordAt x q) x q :=
  ⟨⟨replaces_withRecordAt s x q, Calm.of_same rfl rfl rfl rfl rfl rfl rfl, rfl, fun _ => rfl, rfl,
    queue_sublist_jobs s, counts_of_same rfl rfl, rfl⟩, rfl⟩

end

/-! ## Cancellations (R38 to R40) -/

section
variable {s : State} {x : Slot} {r : Record}

theorem isEngaging_of_cancellable (h : r.state = .armed ∨ r.state = .capturing ∨ r.state = .wrapped) :
    r.state.isEngaging = true ∧ r.state.mayBecome .cancelled = true := by
  rcases h with h | h | h <;> rw [h] <;> exact ⟨rfl, rfl⟩

theorem ne_deferred_of_cancellable (h : r.state = .armed ∨ r.state = .capturing ∨ r.state = .wrapped) :
    r.state ≠ .deferred := by
  rcases h with h | h | h <;> rw [h] <;> decide

/-- A record is cancelled, its capture job gone, and its CLOSE queued. -/
theorem acts_cancelled {u : State} (hr : s.recordAt x = some r) (reason : CancelReason)
    (hstate : r.state = .armed ∨ r.state = .capturing ∨ r.state = .wrapped)
    (he : Edits s u x (r.cancel reason))
    (hcapture : s.Core → r.state = .capturing → ∀ l g c, Job.capture (s.handleOf x) l g c ∉ u.jobs)
    (hbook : ∀ l, u.book l = s.book l) (hstore : u.table.storeTotal = s.table.storeTotal) :
    Acts s (u.queueClose x reason.closeReason) := by
  have hturn := turns_cancel hstate reason
  have hnot := ne_deferred_of_cancellable hstate
  have ha : Amends s u x r (r.cancel reason) :=
    hturn.amends hr he (fun hc hcap => .inr (hcapture hc hcap))
      (fun hd => hd.elim (fun h => (by cases h)) fun h => absurd h hnot)
      (fun l => by rw [hbook]) (fun l => by rw [hbook]) hstore
  obtain ⟨heng, hmay⟩ := isEngaging_of_cancellable hstate
  exact acts_end_frame ha heng hmay rfl rfl (fun l => by rw [hbook]) _ _

theorem acts_cancelNow (hr : s.recordAt x = some r) (reason : CancelReason)
    (hstate : r.state = .armed ∨ r.state = .wrapped) : Acts s (s.cancelNow x reason) := by
  rw [State.cancelNow, modRecord_eq hr]
  refine acts_cancelled hr reason (hstate.imp_right .inr) (edits_withRecordAt s x _) (fun _ hc => ?_) (fun _ => rfl) rfl
  rcases hstate with h | h <;> (rw [h] at hc; cases hc)

theorem acts_cancelCapturing (hr : s.recordAt x = some r) (reason : CancelReason) (hstate : r.state = .capturing) :
    Acts s (s.cancelCapturing x reason) := by
  unfold State.cancelCapturing
  dsimp only
  split
  · next hany =>
    obtain ⟨job, hmem, hjob⟩ := List.any_eq_true.mp hany
    obtain ⟨b, hb, hperm⟩ := perm_eraseP hmem hjob
    obtain ⟨l, g, c, rfl⟩ := (isCaptureOf_iff _ b).mp hb
    rw [State.cancelNow, modRecord_eq (s := s.withdrawCapture (s.handleOf x)) hr]
    exact acts_cancelled hr reason (.inr (.inl hstate)) (edits_withdrawn s x _ _)
      (fun hc _ => no_capture_of_perm hc (jobs_perm_queue s hperm)) (fun _ => rfl) rfl
  · rw [modRecord_eq hr]
    exact ((turns_cancelPending hstate reason).quiet hr rfl).acts

theorem acts_cancellation {reason : CancelReason} {t : State} (hr : s.recordAt x = some r)
    (h : cancellation reason x r s = some t) : Acts s t := by
  unfold cancellation at h
  split at h
  · next hst => cases h; exact acts_cancelNow hr reason (.inl hst)
  · next hst => cases h; exact acts_cancelNow hr reason (.inr hst)
  · next hst =>
    cases h
    split
    · exact acts_cancelCapturing hr reason hst
    · exact Acts.refl s
  all_goals cases h

end

/-! ## A completed job (R34, R83, R112) -/

theorem afterJob_setService (s : State) (v : Service) : (s.setService v).afterJob = s.afterJob := by
  unfold State.afterJob
  rw [serveNext_setService]
  rfl

theorem quiet_afterJob (s : State) : Quiet s s.afterJob :=
  (works_afterJob s).quiet (fun h => core_afterJob (core_idle h))
    (portHolds_of_kept (fun _ _ _ hj => (queue_sublist_jobs s).subset (unwraps_afterJob s hj))
      (by rw [(works_afterJob s).port])) (counts_afterJob s)

theorem queueEndFrame_setService (s : State) (v : Service) (x : Slot) (kind : EndFrameKind)
    (frame : Record → PartFrame) :
    (s.setService v).queueEndFrame x kind frame = (s.queueEndFrame x kind frame).setService v := by
  unfold State.queueEndFrame
  rw [show (s.setService v).recordAt x = s.recordAt x from rfl]
  cases s.recordAt x with
  | none => rfl
  | some r =>
    dsimp only
    split
    · rfl
    · rw [show (s.setService v).lane r.lane = s.lane r.lane from rfl]
      split <;> rfl

theorem no_capture_served {s : State} {h : Handle} {l : LaneId} {g c : Nat} {inputs : JobInputs}
    (hv : s.engine.service = .serving (.capture h l g c) inputs) (hc : s.Core) (l' : LaneId) (g' c' : Nat) :
    Job.capture (s.handleOf (slotOf h)) l' g' c' ∉ (s.setService .idle).jobs := by
  have hjobs : s.jobs = .capture h l g c :: (s.setService .idle).jobs := by rw [State.jobs, hv]; rfl
  rw [handleOf_of_job hc (job := .capture h l g c) (by rw [hjobs]; exact List.mem_cons_self ..) rfl]
  exact no_capture_of_perm hc (by rw [hjobs]) l' g' c'

theorem acts_captureCompletion (s : State) : Acts s (captureCompletion s) := by
  unfold captureCompletion
  split
  · next h l g c w hv =>
    generalize payloadOf (.capture h l g c) w = payload
    have hkeep : Acts s s.afterJob := (quiet_afterJob s).acts
    unfold captureDone
    split
    · exact hkeep
    · next r hr =>
      split
      · next hst =>
        split
        · next hp =>
          have hturn := turns_wrap hst hp payload
          have ha : Amends s ((s.setService .idle).withRecordAt (slotOf h) (r.wrap payload)) (slotOf h) r (r.wrap payload) :=
            hturn.amends hr (edits_served ..) (fun hc _ => .inr (no_capture_served hv hc))
              (fun hd => by rw [hst] at hd; rcases hd with hd | hd <;> cases hd) (fun _ => rfl) (fun _ => rfl) rfl
          rw [modRecord_eq hr, ← afterJob_setService _ .idle]
          refine Acts.then_quiet (ha.acts (by rw [hst]; rfl) (ha.engagements (hturn.engaged (by rw [hst]; rfl)) fun _ => rfl))
            (quiet_afterJob _)
        · next reason _ =>
          rw [State.cancelNow, modRecord_eq hr, ← afterJob_setService _ .idle, State.queueClose, ← queueEndFrame_setService]
          exact (acts_cancelled hr reason (.inr (.inl hst)) (edits_served s (slotOf h) _)
            (fun hc _ => no_capture_served hv hc) (fun _ => rfl) rfl).then_quiet (quiet_afterJob _)
      · exact hkeep
  all_goals exact Acts.refl s

end Sys2Proof.Machine
end


section
/-! PROOFS. The acts by which a payment ends or is settled (R31, R33, R42, R47, R51, R61 to R65), the deferral
account following its record. -/

namespace Sys2Proof.Machine

/-! ## A payment ends (R31, R33, R51) -/

section
variable {s : State} {x : Slot} {r q : Record}

/-- An ARMED record ends, and its CLOSE is queued. -/
theorem acts_armed_closed (hr : s.recordAt x = some r) (hst : r.state = .armed)
    (hsame : q = { r with state := q.state, endReason := q.endReason, stateTimer := none, ended := q.ended })
    (hq : q.state = .cancelled ∨ q.state = .failed) (hend : q.endReason.isSome = true) (reason : CloseReason) :
    Acts s ((s.withRecordAt x q).queueClose x reason) := by
  have hturn := turns_armed_closed hst hsame hq hend
  have hplain : q.state.isEngaging = false ∧ r.state.mayBecome q.state = true ∧ q.state ≠ .deferred := by
    rcases hq with hq | hq <;> rw [hst, hq] <;> exact ⟨rfl, rfl, by decide⟩
  obtain ⟨heng, hmay, hdef⟩ := hplain
  have ha := hturn.amends_in_place hr (fun hc => (by rw [hst] at hc; cases hc))
    fun hd => hd.elim (fun h => absurd h hdef) fun h => (by rw [hst] at h; cases h)
  exact acts_end_frame ha (by rw [hst]; rfl) hmay heng hturn.delivery (fun _ => rfl) _ _

theorem acts_failCapture (hr : s.recordAt x = some r) (hst : r.state = .armed) (reason : EndReason) :
    Acts s (s.failCapture x reason) := by
  rw [State.failCapture, modRecord_eq hr]
  exact acts_armed_closed hr hst rfl (.inr rfl) rfl _

theorem acts_presentExpiry (x : Slot) (s : State) : Acts s (presentExpiry x s) := by
  unfold presentExpiry
  split
  · exact Acts.refl s
  · next r hr =>
    split
    · next h =>
      rw [modRecord_eq hr]
      exact acts_armed_closed hr h.1 rfl (.inl rfl) rfl _
    · exact Acts.refl s

/-! ## SETTLE with APPROVE or DECLINE (R42) -/

theorem acts_settled (hr : s.recordAt x = some r) (hst : r.state = .released) (o : PostedOutcome)
    {state : PaymentState} (hstate : state = .approved ∨ state = .declined) (approval : Option Code6) :
    Acts s ((s.modRecord x fun r => r.settle o state).queueOutcome x approval) := by
  have hturn : Turns r (r.settle o state) :=
    turns_settle hst o (timer := none) (hstate.elim (fun h => .inl ⟨h, rfl⟩) fun h => .inr (.inl ⟨h, rfl⟩))
  have hplain : state.isEngaging = false ∧ r.state.mayBecome state = true ∧ state ≠ .deferred := by
    rcases hstate with rfl | rfl <;> rw [hst] <;> exact ⟨rfl, rfl, by decide⟩
  obtain ⟨heng, hmay, hdef⟩ := hplain
  rw [modRecord_eq hr]
  have ha := hturn.amends_in_place hr (fun hc => (by rw [hst] at hc; cases hc))
    fun hd => hd.elim (fun h => absurd h hdef) fun h => (by rw [hst] at h; cases h)
  exact acts_end_frame ha (by rw [hst]; rfl) hmay heng rfl (fun _ => rfl) _ _

end

/-! ## The deferral account (R59, R62) -/

/-- A lane's total and count and the store total replaced. -/
def State.withAccount (s : State) (l : LaneId) (total count store : Nat) : State :=
  let u := s.modBook l fun b => { b with total := total, count := count }
  { u with table := { u.table with storeTotal := store } }

section
variable (s : State) (l : LaneId)

theorem enterAccount_eq (n : Nat) : s.enterAccount l n =
    s.withAccount l ((s.book l).total + n) ((s.book l).count + 1) (s.table.storeTotal + n) := rfl

theorem leaveAccount_eq (n : Nat) : s.leaveAccount l n =
    s.withAccount l ((s.book l).total - n) ((s.book l).count - 1) (s.table.storeTotal - n) := rfl

theorem changeAccount_eq (n m : Nat) : s.changeAccount l n m =
    s.withAccount l ((s.book l).total + m - n) (s.book l).count (s.table.storeTotal + m - n) := rfl

variable (total count store : Nat)

theorem book_withAccount (x : LaneId) : (s.withAccount l total count store).book x =
    if x = l then { s.book l with total := total, count := count } else s.book x :=
  s.book_modBook l x fun b : LaneBook => { b with total := total, count := count }

theorem engaged_withAccount (x : LaneId) :
    ((s.withAccount l total count store).book x).engaged = (s.book x).engaged := by
  rw [book_withAccount]
  split
  · next h => rw [h]
  · rfl

theorem engaged_enterAccount (n : Nat) (x : LaneId) :
    ((s.enterAccount l n).book x).engaged = (s.book x).engaged :=
  engaged_withAccount s l _ _ (s.table.storeTotal + n) x

theorem engaged_leaveAccount (n : Nat) (x : LaneId) :
    ((s.leaveAccount l n).book x).engaged = (s.book x).engaged :=
  engaged_withAccount s l _ _ (s.table.storeTotal - n) x

theorem engaged_changeAccount (n m : Nat) (x : LaneId) :
    ((s.changeAccount l n m).book x).engaged = (s.book x).engaged :=
  engaged_withAccount s l _ _ (s.table.storeTotal + m - n) x

theorem edits_withAccount (x : Slot) (q : Record) :
    Edits s ((s.withAccount l total count store).withRecordAt x q) x q := by
  refine ⟨⟨replaces_withRecordAt s x q, Calm.of_same rfl rfl rfl rfl rfl rfl rfl, rfl, fun y => ?_, rfl,
    List.Sublist.refl _, counts_of_same rfl rfl, rfl⟩, rfl⟩
  change ((s.withAccount l total count store).book y).list = _
  rw [book_withAccount]
  split
  · next h => rw [h]
  · rfl

end

section
variable {s : State} {x : Slot} {r q : Record} {total count store : Nat}

/-- The account follows the record's amount. -/
theorem account_withAccount (hr : s.recordAt x = some r) (hlane : q.lane = r.lane)
    (htotal : s.accountHolds → total + r.amountOn r.lane = (s.book r.lane).total + q.amountOn r.lane)
    (hcount : s.accountHolds → count + r.countOn r.lane = (s.book r.lane).count + q.countOn r.lane)
    (hstore : s.accountHolds → store + r.amountOn r.lane = s.table.storeTotal + q.amountOn r.lane)
    (ha : s.accountHolds) : ((s.withAccount r.lane total count store).withRecordAt x q).accountHolds := by
  have hbook : ∀ l, ((s.withAccount r.lane total count store).withRecordAt x q).book l =
      if l = r.lane then { s.book r.lane with total := total, count := count } else s.book l :=
    book_withAccount s r.lane total count store
  refine accountHolds_replaced ha hr (edits_withAccount s r.lane total count store x q).cells (fun l => ?_) (fun l => ?_)
    (hstore ha) hlane
  · rw [hbook]
    split
    · next hl => rw [hl]; exact htotal ha
    · next hl =>
      rw [Record.amountOn, Record.amountOn, if_neg fun h => hl h.2.symm, if_neg fun h => hl (h.2.symm.trans hlane)]
  · rw [hbook]
    split
    · next hl => rw [hl]; exact hcount ha
    · next hl =>
      rw [Record.countOn, Record.countOn, if_neg fun h => hl h.2.symm, if_neg fun h => hl (h.2.symm.trans hlane)]

theorem amountOn_deferred (h : r.state = .deferred) : r.amountOn r.lane = r.current ∧ r.countOn r.lane = 1 :=
  ⟨if_pos ⟨h, rfl⟩, if_pos ⟨h, rfl⟩⟩

theorem amountOn_not_deferred (h : r.state ≠ .deferred) (l : LaneId) : r.amountOn l = 0 ∧ r.countOn l = 0 :=
  ⟨if_neg fun hd => h hd.1, if_neg fun hd => h hd.1⟩

/-- The account holds at least what one DEFERRED record adds to it. -/
theorem current_le_account (hr : s.recordAt x = some r) (hst : r.state = .deferred) (ha : s.accountHolds) :
    r.current ≤ (s.book r.lane).total ∧ 1 ≤ (s.book r.lane).count ∧ r.current ≤ s.table.storeTotal := by
  obtain ⟨hamount, hone⟩ := amountOn_deferred hst
  have h1 := amountOn_le_total ha hr r.lane
  have h2 := countOn_le_count ha hr r.lane
  rw [hamount] at h1
  rw [hone] at h2
  exact ⟨h1, h2, h1.trans (total_le_storeTotal ha r.lane)⟩

/-- A record enters the account as it becomes DEFERRED (R61). -/
theorem account_enters (hr : s.recordAt x = some r) (hst : r.state ≠ .deferred) (hq : q.state = .deferred)
    (hlane : q.lane = r.lane) (hcurrent : q.current = r.current) :
    s.accountHolds → ((s.enterAccount r.lane r.current).withRecordAt x q).accountHolds := by
  obtain ⟨hamount, hone⟩ := amountOn_not_deferred hst r.lane
  obtain ⟨hamount', hone'⟩ := amountOn_deferred hq
  rw [hlane, hcurrent] at hamount'
  rw [hlane] at hone'
  rw [enterAccount_eq]
  refine account_withAccount hr hlane (fun _ => ?_) (fun _ => ?_) fun _ => ?_
  · rw [hamount, hamount']; rfl
  · rw [hone, hone']
  · rw [hamount, hamount']; rfl

/-- A record leaves the account as it is DEFERRED no more (R62). -/
theorem account_leaves (hr : s.recordAt x = some r) (hst : r.state = .deferred) (hq : q.state ≠ .deferred)
    (hlane : q.lane = r.lane) :
    s.accountHolds → ((s.leaveAccount r.lane r.current).withRecordAt x q).accountHolds := by
  obtain ⟨hamount, hone⟩ := amountOn_deferred hst
  obtain ⟨hamount', hone'⟩ := amountOn_not_deferred hq r.lane
  rw [leaveAccount_eq]
  refine account_withAccount hr hlane (fun ha => ?_) (fun ha => ?_) fun ha => ?_
  all_goals
    have := current_le_account hr hst ha
    omega

/-- A DEFERRED record's amount changes within the account (R67). -/
theorem account_changes (hr : s.recordAt x = some r) (hst : r.state = .deferred) (hq : q.state = .deferred)
    (hlane : q.lane = r.lane) :
    s.accountHolds → ((s.changeAccount r.lane r.current q.current).withRecordAt x q).accountHolds := by
  obtain ⟨hamount, hone⟩ := amountOn_deferred hst
  obtain ⟨hamount', hone'⟩ := amountOn_deferred hq
  rw [hlane] at hamount' hone'
  rw [changeAccount_eq]
  refine account_withAccount hr hlane (fun ha => ?_) (fun ha => ?_) fun ha => ?_
  all_goals
    have := current_le_account hr hst ha
    omega

/-! ## SETTLE with DEFER, CONFIRM and REJECT (R61 to R64) -/

theorem Turns.leaves_amends (h : Turns r q) (hr : s.recordAt x = some r) (hst : r.state = .deferred)
    (hq : q.state ≠ .deferred) : Amends s ((s.leaveAccount r.lane r.current).withRecordAt x q) x r q :=
  h.passes.amends hr (edits_withAccount ..) (fun _ hc => (by rw [hst] at hc; cases hc))
    (account_leaves hr hst hq h.passes.lane)

/-- A DEFERRED record leaves the account for another state (R62). -/
theorem acts_leaveDeferred (hr : s.recordAt x = some r) (hst : r.state = .deferred) {f : Record → Record}
    (h : Turns r { f r with stateTimer := none }) (hq : (f r).state = .approved ∨ (f r).state = .rejected) :
    Acts s (s.leaveDeferred x r f) := by
  have hplain : r.state.mayBecome (f r).state = true ∧ (f r).state ≠ .deferred ∧
      (f r).state.isEngaging = r.state.isEngaging := by
    rcases hq with hq | hq <;> rw [hst, hq] <;> exact ⟨rfl, by decide, rfl⟩
  obtain ⟨hmay, hdef, heng⟩ := hplain
  have ha := h.leaves_amends hr hst hdef
  rw [State.leaveDeferred, modRecord_eq (s := s.leaveAccount r.lane r.current) hr]
  exact ha.acts hmay (ha.engagements (h.engaged heng) (engaged_leaveAccount s r.lane r.current))

theorem acts_deferred (hr : s.recordAt x = some r) (hst : r.state = .released) (o : PostedOutcome)
    (timer : Option StateTimer) (approval : Option Code6) :
    Acts s (((s.modRecord x fun r => { r.settle o .deferred with stateTimer := timer }).enterAccount r.lane
      r.current).queueOutcome x approval) := by
  have hturn : Turns r { r.settle o .deferred with stateTimer := timer } := turns_settle hst o (.inr (.inr rfl))
  rw [modRecord_eq hr, enterAccount_withRecordAt]
  have ha : Amends s ((s.enterAccount r.lane r.current).withRecordAt x { r.settle o .deferred with stateTimer := timer })
      x r { r.settle o .deferred with stateTimer := timer } :=
    hturn.passes.amends hr (edits_withAccount ..) (fun _ hc => (by rw [hst] at hc; cases hc))
      (account_enters hr (by rw [hst]; decide) rfl rfl rfl)
  exact acts_end_frame ha (by rw [hst]; rfl) (by rw [hst]; rfl) rfl rfl (engaged_enterAccount s r.lane r.current) _ _

end

end Sys2Proof.Machine
end


section
/-! PROOFS. A follow-up entry is added to a record (R72), with a job placed for it (R76, R78, R80) or without
one, or waiting for one (R81). -/

namespace Sys2Proof.Machine

/-! ## An entry added -/

/-- A record with one more entry, the only one that may be a REVERSAL. -/
structure Adds (r q : Record) (f : FollowUp) : Prop where
  lane : q.lane = r.lane
  payment : q.payment = r.payment
  till : q.till = r.till
  original : q.original = r.original
  bound : q.bound = r.bound
  binding : q.binding = r.binding
  delivery : q.delivery = r.delivery
  followUps : q.followUps = r.followUps ++ [f]
  capturing : r.state ≠ .capturing
  armed : q.state ≠ .armed
  reversal : r.state.mayHoldReversal = false
  waiting : r.WellFormed → f.status = .waiting → f.kind = .reversal ∧ f.counter = none ∧ q.card.isSome = true
  wellFormed : r.WellFormed → q.WellFormed

section
variable {r q p : Record} {f : FollowUp}

theorem Adds.of_turn (h : Turns r p)
    (hq : q = { p with followUps := p.followUps ++ [f], current := q.current, card := q.card, late := q.late })
    (hr : r.state = .released ∨ r.state = .approved ∨ r.state = .deferred)
    (hstate : p.state.mayHoldFollowUps = true) (hkind : f.kind = .reversal → p.state.mayHoldReversal = true)
    (hcount : f.kind = .adjust → r.adjustCount < 2)
    (hcurrent : r.WellFormed → 1 ≤ q.current ∧ q.current ≤ 99999999)
    (hcard : q.card = p.card ∨ q.card = none)
    (hwait : f.status = .waiting → f.kind = .reversal ∧ f.counter = none ∧ r.card.isSome = true ∧ q.card = r.card) :
    Adds r q f := by
  have hplain : r.state ≠ .capturing ∧ r.state.mayHoldReversal = false ∧ r.state ≠ .armed := by
    rcases hr with hr | hr | hr <;> rw [hr] <;> exact ⟨by decide, rfl, by decide⟩
  obtain ⟨hcapturing, hrev, harmed⟩ := hplain
  have hp := h.passes
  have hstate' : q.state = p.state := by rw [hq]
  refine ⟨by rw [hq]; exact hp.lane, by rw [hq]; exact hp.payment, by rw [hq]; exact hp.till, by rw [hq]; exact hp.original,
    by rw [hq]; exact hp.bound, by rw [hq]; exact hp.binding, by rw [hq]; exact h.delivery,
    by rw [hq]; exact congrArg (· ++ [f]) hp.followUps, hcapturing, fun ha => harmed (h.armed (hstate' ▸ ha)), hrev,
    fun _ hw => ?_, fun hw => ?_⟩
  · obtain ⟨h1, h2, h3, h4⟩ := hwait hw
    exact ⟨h1, h2, h4 ▸ h3⟩
  · have hpw := hp.wellFormed hw
    have hadjusts : ∀ e ∈ p.followUps, e.kind = .adjust := fun e he => by
      cases hk : e.kind with
      | adjust => rfl
      | reversal =>
        have := hw.reversal ⟨e, hp.followUps ▸ he, hk⟩
        rw [hrev] at this
        cases this
    have hcurrent' := hcurrent hw
    have hcount' : p.adjustCount = r.adjustCount := by rw [Record.adjustCount, hp.followUps]; rfl
    generalize q.current = current at *
    generalize q.card = card at *
    generalize q.late = late at *
    subst hq
    exact { hpw with
      card := fun hc => hcard.elim (fun h => hpw.card (h ▸ hc)) fun h => by rw [h] at hc; cases hc
      followUps := fun _ => hstate
      adjusts := by
        rw [Record.adjustCount, List.filter_append, List.length_append, List.filter_singleton]
        change p.adjustCount + _ ≤ 2
        rw [hcount']
        cases hk : f.kind with
        | adjust => exact hcount hk
        | reversal => exact hcount' ▸ hpw.adjusts
      reversal := by
        rintro ⟨e, he, hk⟩
        rw [List.mem_append, List.mem_singleton] at he
        rcases he with he | rfl
        · rw [hadjusts e he] at hk; cases hk
        · exact hkind hk
      reversalLast := by rw [List.dropLast_concat]; exact hadjusts
      amounts := ⟨hpw.amounts.1, hpw.amounts.2.1, hcurrent'⟩ }

theorem Adds.not_waits (hs : r.Sound) (h : Adds r q f) : ¬ r.waits := hs.not_waits h.reversal

theorem Adds.waits_iff (hs : r.Sound) (h : Adds r q f) : q.waits ↔ f.status = .waiting := by
  rw [Record.waits, h.followUps]
  constructor
  · rintro ⟨e, he, hw⟩
    rw [List.mem_append, List.mem_singleton] at he
    rcases he with he | rfl
    · exact absurd ⟨e, he, hw⟩ (h.not_waits hs)
    · exact hw
  · exact fun hw => ⟨f, List.mem_append_right _ (List.mem_singleton_self f), hw⟩

theorem Adds.sound (h : Adds r q f) (hs : r.Sound) : q.Sound where
  wellFormed := h.wellFormed hs.wellFormed
  waiting e he hw := by
    rw [h.followUps, List.mem_append, List.mem_singleton] at he
    rcases he with he | rfl
    · exact absurd ⟨e, he, hw⟩ (h.not_waits hs)
    · exact h.waiting hs.wellFormed hw
  armed ha := absurd ha h.armed

theorem Adds.fits (h : Adds r q f) (jobs : List Job) (hd : Handle) : Fits jobs hd r q where
  sound := h.sound
  bound := h.bound
  binding := h.binding
  agrees job _ part ht ha := by
    cases job with
    | capture => exact absurd ha.1 h.capturing
    | followUp kind share hd' i l g c =>
      obtain ⟨b, e, h1, h2, h3, h4, h5⟩ := ha
      refine ⟨b, e, h.lane.trans h1, h.binding.trans h2, h3, ?_, h5⟩
      rw [h.followUps, List.getElem?_append_left (List.getElem?_eq_some_iff.mp h4).1]
      exact h4
    | unwrap => trivial

end

section
variable {s t : State} {x : Slot} {r q : Record} {f : FollowUp}

theorem Adds.amends (h : Adds r q f) (hr : s.recordAt x = some r) (he : Edits s t x q) (hf : f.status ≠ .waiting)
    (haccount : s.accountHolds → t.accountHolds) : Amends s t x r q :=
  ⟨hr, he.toTouches, h.lane, h.payment, h.till, h.original, h.wellFormed, fun hc =>
    hc.record_changed hr he.cells he.waiting he.keys he.jobs (h.fits ..)
      (iff_of_false (fun hw => hf ((h.waits_iff (hc.sound x r hr)).mp hw)) (h.not_waits (hc.sound x r hr))), haccount⟩

/-! ## A job placed for the entry -/

/-- The job of an entry added agrees with its record. -/
theorem Adds.backs (h : Adds r q f) (he : Touches s t x q) {kind : FollowUpKind} {share : FollowUpShare} {b : Binding}
    {c : Nat} (hb : r.binding = some b) (hst : f.status = .wrapping) (hk : f.kind = kind) (hc : f.counter = some c) :
    t.backs (.followUp kind share (s.handleOf x) r.followUps.length r.lane b.generation c) := by
  refine ⟨fun hd part ht => ?_, fun g block check hj => (by cases hj)⟩
  cases ht
  refine ⟨q, ?_, b, f, h.lane, h.binding.trans hb, rfl, ?_, hst, hk, hc⟩
  · rw [← he.cells.handleOf x, current_handleOf, he.cells.recordAt, if_pos rfl]
  · rw [h.followUps, List.getElem?_append_right (le_refl _), Nat.sub_self, List.getElem?_cons_zero]

/-- No job works for an entry not yet added. -/
theorem fresh_of_length (hc : s.Core) (hr : s.recordAt x = some r) (hj : t.jobs.Sublist s.jobs) {kind : FollowUpKind}
    {share : FollowUpShare} {l : LaneId} {g c : Nat} :
    (Job.followUp kind share (s.handleOf x) r.followUps.length l g c).target ∉ t.jobs.map Job.target := by
  intro hmem
  obtain ⟨job, hjob, ht⟩ := List.mem_map.mp hmem
  obtain ⟨p, hp, ha⟩ := (hc.jobs job (hj.subset hjob)).record _ _ ht
  rw [current_handleOf, hr] at hp
  cases hp
  cases job with
  | capture => cases ht
  | unwrap => cases ht
  | followUp kind' share' hd i l' g' c' =>
    obtain ⟨b, e, _, _, _, hi, _⟩ := ha
    have hlen : i = r.followUps.length := by cases ht; rfl
    rw [hlen, List.getElem?_eq_none (le_refl _)] at hi
    cases hi

theorem not_unwrap_followUp {kind : FollowUpKind} {share : FollowUpShare} {h : Handle} {i : Nat} {l : LaneId} {g c : Nat}
    (g' : Nat) (block : Block) (check : BitVec 64) :
    Job.unwrap g' block check ≠ .followUp kind share h i l g c := fun hj => by cases hj

/-- A job placed that unwraps no key leaves the port's part as it is. -/
theorem portHolds_placeJob {job : Job} (hjob : ∀ g block check, Job.unwrap g block check ≠ job) (h : s.portHolds) :
    (s.placeJob job).portHolds :=
  portHolds_of_kept (fun g block check hmem => (unwraps_placeJob hmem).resolve_right (hjob g block check))
    (by rw [(works_placeJob s job).port]) h

/-- An entry added with its job placed (R76, R78, R80). -/
theorem Adds.alters_placed (h : Adds r q f) (ha : Amends s t x r q) (hmay : r.state.mayBecome q.state = true)
    (hbook : ∀ l, (t.book l).engaged = (s.book l).engaged) {kind : FollowUpKind} {share : FollowUpShare} {b : Binding}
    {c : Nat} (hb : r.binding = some b) (hst : f.status = .wrapping) (hk : f.kind = kind) (hc : f.counter = some c)
    (hroom : Counts t (t.placeJob (.followUp kind share (s.handleOf x) r.followUps.length r.lane b.generation c))) :
    Alters s (t.placeJob (.followUp kind share (s.handleOf x) r.followUps.length r.lane b.generation c)) x r q.state :=
  (ha.alters hmay h.delivery hbook).then_works (works_placeJob ..)
    (fun hs ht => core_placeJob ht (h.backs ha.edits hb hst hk hc) (fresh_of_length hs ha.at_slot ha.edits.jobs))
    (portHolds_placeJob not_unwrap_followUp) hroom

theorem counts_requested {kind : FollowUpKind} {h : Handle} {i : Nat} {l : LaneId} {g c : Nat}
    (hroom : s.requestedCount < 15) : Counts s (s.placeJob (.followUp kind .requested h i l g c)) :=
  counts_placeJob (fun _ => hroom) fun hno => by cases hno

theorem counts_automatic {kind : FollowUpKind} {h : Handle} {i : Nat} {l : LaneId} {g c : Nat}
    (hroom : s.automaticCount < 8) : Counts s (s.placeJob (.followUp kind .automatic h i l g c)) :=
  counts_placeJob (fun hno => by cases hno) fun _ => hroom

/-! ## An entry that waits (R81) -/

theorem ascending_wait (h : s.table.waiting.Pairwise fun a b => a < b) (x : Slot) :
    (s.wait x).table.waiting.Pairwise fun a b => a < b := by
  have hsorted := insertBy_pairwise (before := fun a b : Slot => decide (a < b))
    (fun a b c hab hbc => decide_eq_true ((of_decide_eq_true hab).trans (of_decide_eq_true hbc)))
    (fun a b hne hab => decide_eq_true (lt_of_le_of_ne (not_lt.mp (of_decide_eq_false hab)) (Ne.symm hne))) x
    (h.imp fun hlt => decide_eq_true hlt)
  exact hsorted.imp fun hlt => of_decide_eq_true hlt

/-- An entry added that waits for its job, while the automatic share is full. -/
theorem Adds.alters_waiting (h : Adds r q f) (hr : s.recordAt x = some r) (he : Edits s t x q)
    (hmay : r.state.mayBecome q.state = true) (hf : f.status = .waiting) (hfull : 8 ≤ t.automaticCount)
    (haccount : s.accountHolds → t.accountHolds) (hbook : ∀ l, (t.book l).engaged = (s.book l).engaged) :
    Alters s (t.wait x) x r q.state := by
  have hmem : ∀ y, y ∈ (t.wait x).table.waiting ↔ y = x ∨ y ∈ s.table.waiting := fun y => by
    rw [show (t.wait x).table.waiting = insertBy (fun a b => decide (a < b)) x t.table.waiting from rfl, mem_insertBy,
      he.waiting]
  have hcore : s.Core → (t.wait x).Core := fun hc =>
    hc.record_moved hr (t := t.wait x) he.cells he.keys he.jobs (h.fits ..) (ascending_wait (he.waiting ▸ hc.ascending) x)
      (iff_of_true ((hmem x).mpr (.inl rfl)) ((h.waits_iff (hc.sound x r hr)).mpr hf)) fun y hy =>
      (hmem y).trans (or_iff_right hy)
  have ht : Touches s (t.wait x) x q :=
    ⟨he.cells, he.calm.trans (Calm.of_same rfl rfl rfl rfl rfl rfl rfl), he.free, he.lists, he.keys, he.jobs,
      ⟨fun _ _ => hfull, fun hs => he.counts.shares hs⟩, he.port⟩
  have ha : Amends s (t.wait x) x r q :=
    ⟨hr, ht, h.lane, h.payment, h.till, h.original, h.wellFormed, hcore, haccount⟩
  exact ha.alters hmay h.delivery hbook

end

end Sys2Proof.Machine
end


section
/-! PROOFS. What a request answers leaves a state that keeps what every act keeps; ADJUST, VOID and COLLECT
(R75 to R78, R85). -/

namespace Sys2Proof.Machine

/-! ## Replies -/

/-- A reply that answers with an act, the port as it was. -/
def Answers (s : State) (reply : Reply) : Prop :=
  ∃ t status body, reply = .answer t status body ∧ Acts s t ∧ t.port = s.port

section
variable {s t : State}

theorem answers_of_acts (h : Acts s t) (hp : t.port = s.port) (status : Status) (body : List Byte) :
    Answers s (.answer t status body) := ⟨t, status, body, rfl, h, hp⟩

theorem answers_unchanged (s : State) (status : Status) (body : List Byte) : Answers s (.answer s status body) :=
  answers_of_acts (Acts.refl s) rfl status body

theorem answers_refuse (s : State) (status : Status) : Answers s (refuse s status) := answers_unchanged s status []

/-- A request over the record of a handle. -/
theorem answers_withRecord {h : Handle} {f : Slot → Record → State → Reply}
    (hf : ∀ x r, s.recordAt x = some r → Answers s (f x r s)) : Answers s (withRecord h f s) := by
  unfold withRecord
  split
  · next r hr => exact hf _ r (State.recordAt_of_current hr)
  · exact answers_refuse ..

end

/-! ## ADJUST and VOID (R75 to R78) -/

section
variable {s s' : State} {x : Slot} {r : Record} {b : Binding} {c : Nat}

theorem adds_adjusted (hst : r.state = .approved ∨ r.state = .deferred) (hcount : r.adjustCount < 2) {amount : Nat}
    (hlow : 1 ≤ amount) (hhigh : amount ≤ 99999999) (counter : Nat) :
    Adds r (r.adjusted amount counter)
      { kind := .adjust, amount := amount, counter := some counter, status := .wrapping, payload := none } := by
  have hmay : r.state.mayHoldFollowUps = true := by rcases hst with h | h <;> rw [h] <;> rfl
  exact Adds.of_turn (turns_marks (q := r) rfl (fun _ => .inr rfl) id) rfl (.inr hst) hmay (fun h => (by cases h))
    (fun _ => hcount) (fun _ => ⟨hlow, hhigh⟩) (.inl rfl) fun h => by cases h

theorem turns_voided (hst : r.state = .approved ∨ r.state = .deferred) :
    Turns r { r with state := .voided, stateTimer := none } := by
  refine turns_payload rfl ?_ rfl (fun h => (by cases h)) (fun _ => rfl) ?_ (fun h => (by cases h)) fun h => ⟨h, rfl⟩
  · rcases hst with h | h <;> rw [h] <;> rfl
  · rcases hst with h | h <;> rw [h] <;> rfl

theorem adds_voided (hst : r.state = .approved ∨ r.state = .deferred) (counter : Nat) :
    Adds r (r.voided counter)
      { kind := .reversal, amount := r.current, counter := some counter, status := .wrapping, payload := none } :=
  Adds.of_turn (turns_voided hst) rfl (.inr hst) rfl (fun _ => rfl) (fun h => (by cases h))
    (fun hw => hw.amounts.2.2) (.inl rfl) fun h => by cases h

/-- A follow-up requested with its counter taken: the entry is added, the account follows, and its job is
placed. -/
theorem answers_placed {base : State} {q : Record} {f : FollowUp} {kind : FollowUpKind} (hadds : Adds r q f)
    (hr : s.recordAt x = some r) (hb : r.binding = some b) (htake : s.takeCounter b.generation r.lane 65536 = some (c, s'))
    (hroom : s.requestedCount < 15) (hst : f.status = .wrapping) (hk : f.kind = kind) (hc : f.counter = some c)
    (hmay : r.state.mayBecome q.state = true) (heng : q.state.isEngaging = r.state.isEngaging)
    (he : Edits s' (base.withRecordAt x q) x q) (haccount : s'.accountHolds → (base.withRecordAt x q).accountHolds)
    (hbook : ∀ l, ((base.withRecordAt x q).book l).engaged = (s'.book l).engaged) (hbase : base.engine = s'.engine)
    (l : LaneId) (wasDeferred : Bool) (index counter amount : Nat) :
    Answers s (followUpReply ((base.withRecordAt x q).placeJob
      (.followUp kind .requested (s'.handleOf x) r.followUps.length r.lane b.generation c)) l wasDeferred index counter
      amount) := by
  have hr' : s'.recordAt x = some r := (takeCounter_recordAt htake x).trans hr
  have ha := hadds.amends hr' he (by rw [hst]; decide) haccount
  have hcount : (base.withRecordAt x q).requestedCount < 15 := by
    have hengine : (base.withRecordAt x q).engine = s.engine := hbase.trans (takeCounter_engine htake)
    rw [State.requestedCount, hengine]
    exact hroom
  have halters := (hadds.alters_placed ha hmay hbook (share := .requested) hb hst hk hc (counts_requested hcount)).after_take
    le_rfl htake
  refine answers_of_acts (halters.acts heng) ?_ _ _
  rw [(works_placeJob ..).port, he.port, takeCounter_frame htake]

theorem answers_acceptAdjust (hr : s.recordAt x = some r) (hst : r.state = .approved ∨ r.state = .deferred)
    (hb : r.binding = some b) (htake : s.takeCounter b.generation r.lane 65536 = some (c, s'))
    (hroom : s.requestedCount < 15) (hcount : r.adjustCount < 2) {amount : Nat} (hlow : 1 ≤ amount)
    (hhigh : amount ≤ 99999999) : Answers s (acceptAdjust x r amount c s') := by
  have hr' : s'.recordAt x = some r := (takeCounter_recordAt htake x).trans hr
  have hadds := adds_adjusted hst hcount hlow hhigh c
  rcases hst with hst | hst
  · rw [acceptAdjust_approved hr' hb _ _ hst]
    refine answers_placed hadds hr hb htake hroom rfl rfl rfl (mayBecome_refl _) rfl (edits_withRecordAt s' x _) ?_
      (fun _ => rfl) rfl _ _ _ _ _
    exact account_of_same hr' (replaces_withRecordAt s' x _) rfl
      (fun hd => hd.elim (fun h => (by rw [show (r.adjusted amount c).state = r.state from rfl, hst] at h; cases h))
        fun h => (by rw [hst] at h; cases h)) (fun _ => rfl) (fun _ => rfl) rfl
  · rw [acceptAdjust_deferred hr' hb _ _ hst]
    exact answers_placed hadds hr hb htake hroom rfl rfl rfl (mayBecome_refl _) rfl (edits_withAccount s' r.lane _ _ _ x _)
      (account_changes hr' hst hst rfl) (engaged_changeAccount s' r.lane _ _) rfl _ _ _ _ _

theorem answers_acceptVoid (hr : s.recordAt x = some r) (hst : r.state = .approved ∨ r.state = .deferred)
    (hb : r.binding = some b) (htake : s.takeCounter b.generation r.lane 65536 = some (c, s'))
    (hroom : s.requestedCount < 15) : Answers s (acceptVoid x r c s') := by
  have hr' : s'.recordAt x = some r := (takeCounter_recordAt htake x).trans hr
  have hadds := adds_voided hst c
  rcases hst with hst | hst
  · rw [acceptVoid_approved hr' hb _ hst]
    refine answers_placed hadds hr hb htake hroom rfl rfl rfl (by rw [hst]; rfl) (by rw [hst]; rfl)
      (edits_withRecordAt s' x _) ?_ (fun _ => rfl) rfl _ _ _ _ _
    exact account_of_same hr' (replaces_withRecordAt s' x _) rfl
      (fun hd => hd.elim (fun h => (by cases h)) fun h => (by rw [hst] at h; cases h)) (fun _ => rfl) (fun _ => rfl) rfl
  · rw [acceptVoid_deferred hr' hb _ hst]
    exact answers_placed hadds hr hb htake hroom rfl rfl rfl (by rw [hst]; rfl) (by rw [hst]; rfl)
      (edits_withAccount s' r.lane _ _ _ x _) (account_leaves hr' hst (fun h => (by cases h)) rfl) (engaged_leaveAccount s' r.lane _) rfl
      _ _ _ _ _

/-- The counter of a follow-up comes from the record's binding (R73). -/
theorem binding_of_followUpCounter (h : s.followUpCounter? r = some (c, s')) :
    ∃ b, r.binding = some b ∧ s.takeCounter b.generation r.lane 65536 = some (c, s') := by
  unfold State.followUpCounter? at h
  split at h
  · next b hb => exact ⟨b, hb, h⟩
  · cases h

theorem approved_or_deferred (h : ¬ (r.state ≠ .approved ∧ r.state ≠ .deferred)) :
    r.state = .approved ∨ r.state = .deferred := by
  by_cases ha : r.state = .approved
  · exact .inl ha
  · exact .inr (not_not.mp fun hd => h ⟨ha, hd⟩)

end

theorem answers_adjust (h : Handle) (amount : Word) (s : State) : Answers s (adjust h amount s) := by
  refine answers_withRecord fun x r hr => ?_
  split
  · exact answers_refuse ..
  split
  · exact answers_refuse ..
  next hst =>
  split
  · exact answers_refuse ..
  next hrange =>
  split
  · exact answers_refuse ..
  next hcount =>
  split
  · exact answers_refuse ..
  split
  · exact answers_refuse ..
  split
  · exact answers_refuse ..
  next hroom =>
  split
  · exact answers_refuse ..
  next c s' htake =>
  split
  · exact answers_unchanged ..
  obtain ⟨b, hb, htake⟩ := binding_of_followUpCounter htake
  obtain ⟨hlow, hhigh⟩ := of_decide_eq_true (not_not.mp hrange)
  exact answers_acceptAdjust hr (approved_or_deferred hst) hb htake (Nat.not_le.mp hroom) (Nat.not_le.mp hcount) hlow
    (hhigh.trans (Nat.min_le_right ..))

theorem answers_voidPayment (h : Handle) (s : State) : Answers s (voidPayment h s) := by
  refine answers_withRecord fun x r hr => ?_
  split
  · exact answers_refuse ..
  split
  · exact answers_refuse ..
  next hst =>
  split
  · exact answers_refuse ..
  split
  · exact answers_refuse ..
  split
  · exact answers_refuse ..
  next hroom =>
  split
  · exact answers_refuse ..
  next c s' htake =>
  obtain ⟨b, hb, htake⟩ := binding_of_followUpCounter htake
  exact answers_acceptVoid hr (approved_or_deferred hst) hb htake (Nat.not_le.mp hroom)

/-! ## COLLECT (R85) -/

/-- A READY entry collected. -/
def Record.collected (r : Record) (i : Nat) : Record :=
  r.modFollowUp i fun e => { e with status := .collected }

theorem quiet_collected {s : State} {x : Slot} {r : Record} {i : Nat} {e : FollowUp} (hr : s.recordAt x = some r)
    (he : r.followUps[i]? = some e) (hst : e.status = .ready) : Quiet s (s.withRecordAt x (r.collected i)) := by
  have hre : Reworked r (r.collected i) :=
    reworked_modFollowUp r i (f := fun e => { e with status := .collected }) fun _ => rfl
  have hf : ∀ e : FollowUp, ({ e with status := .collected } : FollowUp).status ≠ .waiting := fun _ => by simp
  have hwork : Works s (s.withRecordAt x (r.collected i)) := by
    rw [← modRecord_eq hr fun q => q.collected i]
    exact works_modRecord s x fun q => reworked_modFollowUp q i (f := fun e => { e with status := .collected }) fun _ => rfl
  refine hwork.quiet (fun hc => ?_) (portHolds_of_kept (fun _ _ _ hj => hj) rfl) (counts_of_same rfl rfl)
  have hs := hc.sound x r hr
  refine hc.record_changed hr (replaces_withRecordAt s x _) rfl rfl (List.Sublist.refl _) ?_
    (waits_of_modified he (by rw [hst]; decide) rfl hf)
  refine hre.fits hs (fun e' hmem hw => ?_) (fun j hj => getElem?_of_modified rfl hj) fun job _ ht ha => ?_
  · obtain ⟨j, _, hj⟩ := index_of_waiting (q := r.collected i) rfl hf hmem hw
    exact hs.waiting e' (List.mem_of_getElem? hj) hw
  · cases job with
    | capture => cases ht
    | unwrap => cases ht
    | followUp kind share hd j l g c =>
      obtain ⟨b, e', _, _, _, hj, hwrap, _⟩ := ha
      have hji : j = i := by cases ht; rfl
      rw [hji, he] at hj
      cases hj
      rw [hst] at hwrap
      cases hwrap

theorem answers_collect (h : Handle) (index : Byte) (s : State) : Answers s (collect h index s) := by
  refine answers_withRecord fun x r hr => ?_
  dsimp only
  split
  · exact answers_refuse ..
  split
  · exact answers_refuse ..
  next e he =>
  split
  · next hst =>
    rw [modRecord_eq hr]
    exact answers_of_acts (quiet_collected hr he hst).acts rfl _ _
  · exact answers_refuse ..

end Sys2Proof.Machine
end


section
/-! PROOFS. Lapses and their automatic reversals (R53, R66, R80), the other expiries (R47, R51, R52, R65), a
follow-up job completed (R83). -/

namespace Sys2Proof.Machine

/-! ## A counter taken beside a change of the table -/

/-- The state with another record table. -/
def State.withTable (s : State) (T : RecordTable) : State := { s with table := T }

theorem takeCounter_withTable (s : State) (T : RecordTable) (g : Nat) (l : LaneId) (limit : Nat) :
    (s.withTable T).takeCounter g l limit = (s.takeCounter g l limit).map fun p => (p.1, p.2.withTable T) := by
  unfold State.takeCounter
  rw [show (s.withTable T).entryOf g = s.entryOf g from rfl]
  cases s.entryOf g with
  | none => rfl
  | some i =>
    dsimp only
    rw [show (s.withTable T).entry i = s.entry i from rfl]
    split
    · rw [show (s.withTable T).limits = s.limits from rfl, Option.map_some]
      split <;> rfl
    · rfl

theorem accountHolds_of_table {s t : State} (h : t.table = s.table) (ha : s.accountHolds) : t.accountHolds := by
  simpa only [State.accountHolds, State.deferredAmount, State.deferredOne, State.recordAt, State.cell, State.book, h] using ha

section
variable {s : State} {x : Slot} {r : Record} {total count store : Nat}

theorem table_edited {t : State} {q : Record} {l : LaneId} (h : t.table = s.table) :
    ((t.withAccount l total count store).withRecordAt x q).table =
      ((s.withAccount l total count store).withRecordAt x q).table := by
  simp only [State.withRecordAt, State.setCell, State.withAccount, State.modBook, State.book, State.cell, h]

theorem takeCounter_edited {p : Record} {l l' : LaneId} {g c limit : Nat} {t : State}
    (h : ((s.withAccount l total count store).withRecordAt x p).takeCounter g l' limit = some (c, t)) :
    ∃ s', s.takeCounter g l' limit = some (c, s') ∧ t = (s'.withAccount l total count store).withRecordAt x p := by
  have hw : (s.withAccount l total count store).withRecordAt x p =
      s.withTable ((s.withAccount l total count store).withRecordAt x p).table := rfl
  rw [hw, takeCounter_withTable, Option.map_eq_some_iff] at h
  obtain ⟨⟨c', s'⟩, htake, heq⟩ := h
  cases heq
  refine ⟨s', htake, ?_⟩
  have hframe := takeCounter_frame htake
  generalize s'.keys = keys at hframe
  generalize s'.attention = attention at hframe
  subst hframe
  rfl

/-! ## Lapses (R53, R66, R80) -/

theorem adds_failedReversal (hst : r.state = .released ∨ r.state = .deferred) :
    Adds r ({ r.lapse with late := true, card := none }.withReversal none .failed)
      { kind := .reversal, amount := r.current, counter := none, status := .failed, payload := none } :=
  Adds.of_turn (turns_lapse hst) rfl (hst.imp_right .inr) rfl (fun _ => rfl) (fun h => (by cases h))
    (fun hw => hw.amounts.2.2) (.inr rfl) fun h => by cases h

theorem adds_waitingReversal (hst : r.state = .released ∨ r.state = .deferred) (hcard : r.card ≠ none) :
    Adds r (r.lapse.withReversal none .waiting)
      { kind := .reversal, amount := r.current, counter := none, status := .waiting, payload := none } :=
  Adds.of_turn (turns_lapse hst) rfl (hst.imp_right .inr) rfl (fun _ => rfl) (fun h => (by cases h))
    (fun hw => hw.amounts.2.2) (.inl rfl) fun _ => ⟨rfl, rfl, Option.isSome_iff_ne_none.mpr hcard, rfl⟩

theorem adds_wrappingReversal (hst : r.state = .released ∨ r.state = .deferred) (c : Nat) :
    Adds r (r.lapse.withReversal (some c) .wrapping)
      { kind := .reversal, amount := r.current, counter := some c, status := .wrapping, payload := none } :=
  Adds.of_turn (turns_lapse hst) rfl (hst.imp_right .inr) rfl (fun _ => rfl) (fun h => (by cases h))
    (fun hw => hw.amounts.2.2) (.inl rfl) fun h => by cases h

/-- A record lapses, its account left as it is to be, and its REVERSAL is added. -/
theorem alters_lapse (hr : s.recordAt x = some r) (hst : r.state = .released ∨ r.state = .deferred)
    (haccount : ∀ q : Record, q.state = .lapsed → q.lane = r.lane → s.accountHolds →
      ((s.withAccount r.lane total count store).withRecordAt x q).accountHolds) :
    Alters s (((s.withAccount r.lane total count store).withRecordAt x r.lapse).automaticReversal x) x r .lapsed := by
  have hmay : r.state.mayBecome .lapsed = true := by rcases hst with h | h <;> rw [h] <;> rfl
  have hat : ((s.withAccount r.lane total count store).withRecordAt x r.lapse).recordAt x = some r.lapse :=
    recordAt_withRecordAt_self ..
  have hfail : Alters s (((s.withAccount r.lane total count store).withRecordAt x r.lapse).failReversal x r.lapse) x r
      .lapsed := by
    have hadds := adds_failedReversal hst
    rw [failReversal_eq hat, withRecordAt_twice]
    exact (hadds.amends hr (edits_withAccount ..) (fun h => (by cases h)) (haccount _ rfl rfl)).alters hmay rfl
      (engaged_withAccount s r.lane total count store)
  unfold State.automaticReversal
  simp only [hat]
  split
  · exact hfail
  next hcard =>
  split
  · exact hfail
  next c t htake =>
  obtain ⟨b, hb, htake⟩ := binding_of_followUpCounter htake
  have hb' : r.binding = some b := hb
  split
  · next hfull =>
    have hadds := adds_waitingReversal hst hcard
    rw [modRecord_eq hat, withRecordAt_twice]
    exact hadds.alters_waiting hr (edits_withAccount ..) hmay rfl hfull (haccount _ rfl rfl)
      (engaged_withAccount s r.lane total count store)
  · next hroom =>
    have hadds := adds_wrappingReversal hst c
    obtain ⟨s', htake', rfl⟩ := takeCounter_edited htake
    have hr' : s'.recordAt x = some r := (takeCounter_recordAt htake' x).trans hr
    have htable : s'.table = s.table := takeCounter_table htake'
    have hcounts : ((s'.withAccount r.lane total count store).withRecordAt x
        (r.lapse.withReversal (some c) .wrapping)).automaticCount < 8 := by
      have hengine := takeCounter_engine htake'
      rw [State.automaticCount] at hroom ⊢
      rw [show ((s'.withAccount r.lane total count store).withRecordAt x
        (r.lapse.withReversal (some c) .wrapping)).engine = s'.engine from rfl, hengine]
      exact Nat.not_le.mp hroom
    have hamends : Amends s' ((s'.withAccount r.lane total count store).withRecordAt x
        (r.lapse.withReversal (some c) .wrapping)) x r (r.lapse.withReversal (some c) .wrapping) := by
      refine hadds.amends hr' (edits_withAccount ..) (fun h => (by cases h)) fun ha => ?_
      exact accountHolds_of_table (table_edited htable) (haccount (r.lapse.withReversal (some c) .wrapping) rfl rfl
        (accountHolds_of_table htable.symm ha))
    have hhandle : ((s.withAccount r.lane total count store).withRecordAt x r.lapse).handleOf x = s'.handleOf x :=
      ((edits_withAccount s r.lane total count store x r.lapse).cells.handleOf x).trans (takeCounter_handleOf htake' x).symm
    rw [modRecord_eq (recordAt_withRecordAt_self ..), withRecordAt_twice, hhandle, captureGeneration_eq hb]
    exact (hadds.alters_placed hamends hmay (engaged_withAccount s' r.lane total count store) (share := .automatic) hb' rfl
      rfl rfl (counts_automatic hcounts)).after_take le_rfl htake'

theorem withAccount_same (s : State) (l : LaneId) :
    s.withAccount l (s.book l).total (s.book l).count s.table.storeTotal = s := by
  change { s with table := { s.table with books := put s.table.books l (look s.table.books l) } } = s
  rw [put_look]

theorem acts_outcomeExpiry (x : Slot) (s : State) : Acts s (outcomeExpiry x s) := by
  unfold outcomeExpiry
  split
  · exact Acts.refl s
  next r hr =>
  split
  · next h =>
    split
    · rw [modRecord_eq hr]
      have hlapse := alters_lapse hr (.inl h.1) (total := (s.book r.lane).total) (count := (s.book r.lane).count)
        (store := s.table.storeTotal) fun q hq hlane ha => by
          rw [withAccount_same]
          exact account_of_same hr (replaces_withRecordAt s x q) hlane (fun hd => by rw [hq, h.1] at hd; rcases hd with hd | hd <;> cases hd)
            (fun _ => rfl) (fun _ => rfl) rfl ha
      rw [withAccount_same] at hlapse
      exact hlapse.then_end_frame (by rw [h.1]; rfl) rfl _ _
    · rw [modRecord_eq hr]
      exact (turns_expireNotify.quiet hr rfl).acts
  · exact Acts.refl s

theorem acts_deferredExpiry (x : Slot) (s : State) : Acts s (deferredExpiry x s) := by
  unfold deferredExpiry
  split
  · exact Acts.refl s
  next r hr =>
  split
  · next h =>
    split
    · rw [modRecord_eq (s := s.leaveAccount r.lane r.current) hr]
      have hlapse := alters_lapse hr (.inr h.1) (total := (s.book r.lane).total - r.current)
        (count := (s.book r.lane).count - 1) (store := s.table.storeTotal - r.current) fun q hq hlane =>
          account_leaves hr h.1 (by rw [hq]; decide) hlane
      exact hlapse.acts (by rw [h.1]; rfl)
    · rw [modRecord_eq hr]
      exact (turns_expireNotify.quiet hr rfl).acts
  · exact Acts.refl s

/-! ## A completed follow-up (R83) -/

theorem quiet_followUpCompletion (s : State) : Quiet s (followUpCompletion s) := by
  unfold followUpCompletion
  split
  · next kind share h i l g c w hv =>
    generalize payloadOf (.followUp kind share h i l g c) w = payload
    have hjobs : ∀ u : State, u.engine.queue = s.engine.queue → s.jobs = .followUp kind share h i l g c :: (u.setService .idle).jobs :=
      fun u hu => by rw [State.jobs, hv, ← hu]; rfl
    have hcounts : Counts s (s.modRecord (slotOf h) fun r => r.completeFollowUp i kind payload) := counts_of_same rfl rfl
    have hworks := works_modRecord s (slotOf h) fun r => reworked_completeFollowUp r i kind payload
    refine (hworks.trans (works_afterJob _)).quiet (fun hc => core_afterJob ?_) (portHolds_of_kept (fun g' block check hmem => ?_) ?_)
      (hcounts.trans (counts_afterJob _))
    · refine core_followUp_ends (closing := fun r => r.completeFollowUp i kind payload)
        (f := fun e => { e with status := .ready, payload := some payload }) hc (hjobs _ rfl) rfl rfl (fun r hr => ?_)
        (fun r => reworked_completeFollowUp r i kind payload) (fun _ => rfl) (fun _ => by simp) fun _ => rfl
      rw [modRecord_eq hr]
      exact replaces_withRecordAt s (slotOf h) _
    · have hqueue := unwraps_afterJob _ hmem
      exact (queue_sublist_jobs s).subset hqueue
    · rw [(works_afterJob _).port, hworks.port]
  all_goals exact Quiet.refl s

end

end Sys2Proof.Machine
end


section
/-! PROOFS. A delivery sent, acknowledged, expired or lost with its lane (R45 to R48, R54, R55). -/

namespace Sys2Proof.Machine

/-! ## A lane's book beside a record -/

section
variable {s t : State} {x : Slot} {r q : Record} {l : LaneId}

/-- A lane's book changes beside a record, its list, its total and its count as they were. -/
theorem Amends.then_book (h : Amends s t x r q) {f : LaneBook → LaneBook} (hlist : ∀ b, (f b).list = b.list)
    (htotal : ∀ b, (f b).total = b.total) (hcount : ∀ b, (f b).count = b.count) :
    Amends s (t.modBook l f) x r q := by
  have hbook : ∀ {α : Type} (g : LaneBook → α), (∀ b, g (f b) = g b) → ∀ y, g ((t.modBook l f).book y) = g (t.book y) :=
    fun g hg y => by
      rw [State.book_modBook]
      split
      · next hy => rw [hy, hg]
      · rfl
  refine ⟨h.at_slot, ⟨h.edits.cells, h.edits.calm.trans (calm_modBook ..), h.edits.free, fun y => ?_, h.edits.keys,
    h.edits.jobs, h.edits.counts.trans (counts_of_same rfl rfl), h.edits.port⟩, h.lane, h.payment, h.till, h.original, h.wellFormed,
    fun hc => (h.core hc).jobs_leave (fun _ => rfl) rfl rfl (List.Sublist.refl _), fun ha => ?_⟩
  · rw [hbook LaneBook.list hlist]
    exact h.edits.lists y
  · exact account_of_view (s := t) (fun _ => rfl) rfl (hbook LaneBook.total htotal) (hbook LaneBook.count hcount) (h.account ha)

/-- A record and its lane's engagement end together (R48). -/
theorem acts_disengaged (h : Amends s t x r q) (hmay : r.state.mayBecome q.state = true)
    (heng : r.engaged = true) (hq : r.WellFormed → q.engaged = false) (hl : s.engagementsHold → r.lane = l)
    (hbook : ∀ y, (t.book y).engaged = if y = l then none else (s.book y).engaged) : Acts s t :=
  h.acts hmay fun hw he => by
    refine h.disengaged heng (hq (hw x r h.at_slot)) (fun y => ?_) hw he
    rw [hl he, hbook]

theorem engaged_endEngagement (s : State) (l y : LaneId) :
    ((s.endEngagement l).book y).engaged = if y = l then none else (s.book y).engaged := by
  rw [State.book_endEngagement]
  split
  · rfl
  · rfl

/-! ## The engaged record (R10) -/

theorem engaged_eq_some (h : s.engaged? l = some (x, r)) :
    s.recordAt x = some r ∧ (s.engagementsHold → r.lane = l) := by
  unfold State.engaged? at h
  split at h
  · cases h
  · next hd he =>
    obtain ⟨p, hp, heq⟩ := Option.map_eq_some_iff.mp h
    cases heq
    refine ⟨State.recordAt_of_current hp, fun hg => ?_⟩
    obtain ⟨p', hp', hl, _⟩ := hg.1 l hd he
    cases hp.symm.trans hp'
    exact hl

theorem engaged_of_open (h : r.delivery.value = .queued ∨ r.delivery.value = .sent) : r.engaged = true := by
  rw [Record.engaged]
  rcases h with h | h <;> (rw [h]; exact Bool.or_true _)

theorem ne_none_of_open (h : r.delivery.value = .queued ∨ r.delivery.value = .sent) : r.delivery.value ≠ .none := by
  rcases h with h | h <;> (rw [h]; decide)

/-- A record with an open delivery is in no engaging state (R10, R17). -/
theorem Record.WellFormed.not_engaging (hw : r.WellFormed) (h : r.delivery.value ≠ .none) :
    r.state.isEngaging = false := Bool.eq_false_of_not_eq_true fun he => h (hw.engaging he)

end

/-! ## Deliveries (R45 to R47, R55) -/

section
variable {s : State} {x : Slot} {r : Record} {l : LaneId}

/-- An open delivery closes. -/
def Record.closed_delivery (r : Record) (v : DeliveryValue) : Record :=
  { r with delivery := { r.delivery with value := v }, deliveryTimer := none }

theorem amends_closed_delivery (hr : s.recordAt x = some r)
    (hopen : r.delivery.value = .queued ∨ r.delivery.value = .sent) {v : DeliveryValue}
    (hv : v = .acked ∨ v = .unconfirmed) :
    Amends s (s.withRecordAt x (r.closed_delivery v)) x r (r.closed_delivery v) := by
  have hne : v ≠ .none ∧ v ≠ .sent := by rcases hv with rfl | rfl <;> decide
  have hp : Passes r (r.closed_delivery v) :=
    passes_delivery (ne_none_of_open hopen) rfl hne.1 fun _ => ⟨fun h => (by cases h), fun h => absurd h hne.2⟩
  exact hp.amends_in_place hr (fun _ h => .inl h) fun _ => ⟨rfl, rfl⟩

theorem not_engaged_closed_delivery (hopen : r.delivery.value = .queued ∨ r.delivery.value = .sent) {v : DeliveryValue}
    (hv : v = .acked ∨ v = .unconfirmed) (hw : r.WellFormed) : (r.closed_delivery v).engaged = false := by
  have hstate := hw.not_engaging (ne_none_of_open hopen)
  rw [Record.engaged, show (r.closed_delivery v).state = r.state from rfl, hstate]
  rcases hv with rfl | rfl <;> rfl

/-- An open delivery closes, and its engagement ends (R46 to R48, R55). -/
theorem acts_closed_delivery (hr : s.recordAt x = some r)
    (hopen : r.delivery.value = .queued ∨ r.delivery.value = .sent) {v : DeliveryValue}
    (hv : v = .acked ∨ v = .unconfirmed) (hl : s.engagementsHold → r.lane = l) :
    Acts s ((s.withRecordAt x (r.closed_delivery v)).endEngagement l) := by
  have ha : Amends s ((s.withRecordAt x (r.closed_delivery v)).endEngagement l) x r (r.closed_delivery v) :=
    (amends_closed_delivery hr hopen hv).then_book (fun _ => rfl) (fun _ => rfl) fun _ => rfl
  exact acts_disengaged ha (mayBecome_refl _) (engaged_of_open hopen) (not_engaged_closed_delivery hopen hv) hl
    (engaged_endEngagement _ l)

theorem acts_leaveReady (s : State) (l : LaneId) (cause : LeaveCause) : Acts s (s.leaveReady l cause) := by
  unfold State.leaveReady
  refine Acts.then_quiet ?_ (quiet_expired _ l none)
  split
  · exact Acts.refl s
  next x r hx =>
  obtain ⟨hr, hl⟩ := engaged_eq_some hx
  split
  · next hst =>
    rw [modRecord_eq hr]
    have hturn := turns_laneLost hst cause
    have hin := hturn.amends_in_place hr (fun hc => (by rw [hst] at hc; cases hc)) fun hd =>
      hd.elim (fun h => (by cases h)) fun h => (by rw [hst] at h; cases h)
    have ha : Amends s ((s.withRecordAt x (r.laneLost cause)).endEngagement l) x r (r.laneLost cause) :=
      hin.then_book (fun _ => rfl) (fun _ => rfl) fun _ => rfl
    refine acts_disengaged ha (by rw [hst]; rfl) (by rw [Record.engaged, hst]; rfl) (fun hw => ?_) hl
      (engaged_endEngagement _ l)
    rw [Record.engaged, hturn.delivery, hw.engaging (by rw [hst]; rfl)]
    rfl
  split
  · next hopen =>
    rw [modRecord_eq hr]
    exact acts_closed_delivery hr hopen (.inr rfl) hl
  · exact Acts.refl s

theorem acts_deliveryExpiry (x : Slot) (s : State) : Acts s (deliveryExpiry x s) := by
  unfold deliveryExpiry
  split
  · exact Acts.refl s
  next r hr =>
  split
  · next h =>
    rw [modRecord_eq hr]
    have ha : Amends s ((s.withRecordAt x r.deliveryLost).modBook r.lane fun b =>
        { b with engaged := none, expired := r.delivery.sequence }) x r r.deliveryLost :=
      (amends_closed_delivery hr (.inr h.1) (.inr rfl)).then_book (fun _ => rfl) (fun _ => rfl) fun _ => rfl
    refine acts_disengaged ha (mayBecome_refl _) (engaged_of_open (.inr h.1))
      (not_engaged_closed_delivery (.inr h.1) (.inr rfl)) (fun _ => rfl) fun y => ?_
    rw [State.book_modBook]
    split
    · rfl
    · rfl
  · exact Acts.refl s

theorem ackedSlot_eq_some {a : Byte} (h : ackedSlot l a s = some x) :
    ∃ r, s.engaged? l = some (x, r) ∧ r.delivery.value = .sent := by
  unfold ackedSlot at h
  split at h
  · cases h
  next y r hy =>
  split at h
  · next hd =>
    cases h
    exact ⟨r, hy, hd.1⟩
  · cases h

theorem acts_acked {a : Byte} (h : ackedSlot l a s = some x) :
    Acts s ((s.modRecord x Record.acked).endEngagement l) := by
  obtain ⟨r, hx, hv⟩ := ackedSlot_eq_some h
  obtain ⟨hr, hl⟩ := engaged_eq_some hx
  rw [modRecord_eq hr]
  exact acts_closed_delivery hr (.inr hv) (.inl rfl) hl

theorem quiet_deliverySent (l : LaneId) (sequence : Byte) (s : State) : Quiet s (deliverySent l sequence s) := by
  unfold deliverySent
  split
  · exact Quiet.refl s
  next x r hx =>
  obtain ⟨hr, _⟩ := engaged_eq_some hx
  split
  · next hv =>
    rw [modRecord_eq hr]
    have hp : Passes r { r with
        delivery := { r.delivery with value := .sent, sequence := some sequence }
        deliveryTimer := some s.timers.delivery } :=
      passes_delivery (ne_none_of_open (.inl hv)) rfl (fun h => (by cases h)) fun _ => ⟨fun _ => rfl, fun _ => rfl⟩
    have ha := hp.amends_in_place hr (fun _ h => .inl h) fun _ => ⟨rfl, rfl⟩
    refine (ha.quiet rfl (ha.engagements ?_ fun _ => rfl)).trans (quiet_expired _ l none)
    rw [Record.engaged, Record.engaged, hv]
    rfl
  · exact Quiet.refl s

end

/-! ## Ticks and reports (R49, R175) -/

theorem quiet_clearCause (s : State) (c : Cause) : Quiet s (clearCause s c) := by
  have hmark : ∀ (x : Slot) (f : Record → Record), (∀ r, Turns r (f r)) → (∀ r, (f r).state = r.state) →
      Quiet s (s.modRecord x f) := fun x f hf hstate => by
    cases hr : s.recordAt x with
    | none => rw [modRecord_free hr]; exact Quiet.refl s
    | some r => rw [modRecord_eq hr]; exact (hf r).quiet hr (hstate r)
  cases c with
  | late l x => exact hmark x _ (fun r => turns_marks rfl (fun _ => .inr rfl) id) fun _ => rfl
  | ended l x => exact hmark x _ (fun r => turns_marks rfl (fun _ => .inr rfl) id) fun _ => rfl
  | caseEvent | ready => exact Quiet.refl s
  | _ => exact Quiet.of_calm (calm_clearCause s _) rfl rfl rfl rfl

end Sys2Proof.Machine
end


section
/-! PROOFS. The store tick (R49), and a lane's events: the receiver, the assembler, the transmit side, errors
reported, the lane's leaving READY (R121 to R136, R152 to R157). -/

namespace Sys2Proof.Machine

/-! ## The store tick (R49) -/

section
variable (s : State)

theorem current_mapRecords (f : Record → Record) (h : Handle) :
    (s.mapRecords f).current? h = (s.current? h).map f := by
  unfold State.current?
  rw [State.tag_mapRecords, State.recordAt_mapRecords]
  split <;> rfl

variable {f : Record → Record} (hp : ∀ r, Passes r (f r)) (hstate : ∀ r, (f r).state = r.state)
  (hcurrent : ∀ r, (f r).current = r.current)
include hp

theorem boundCount_mapRecords (g : Nat) : (s.mapRecords f).boundCount g = s.boundCount g := by
  refine congrArg List.length (List.filter_congr fun x _ => ?_)
  rw [State.recordAt_mapRecords, Option.any_map]
  refine congrArg (Option.any · _) (funext fun r => ?_)
  rw [Record.boundTo, Record.boundTo, (hp r).bound, (hp r).binding]

include hstate

theorem core_mapRecords (h : s.Core) : (s.mapRecords f).Core where
  sound x q hq := by
    rw [State.recordAt_mapRecords] at hq
    obtain ⟨r, hr, rfl⟩ := Option.map_eq_some_iff.mp hq
    exact (hp r).sound (h.sound x r hr)
  keys := h.keys
  generations := h.generations
  counted i m hm := by
    rw [boundCount_mapRecords s hp]
    exact h.counted i m hm
  bound x q b hq hb hbind := by
    rw [State.recordAt_mapRecords] at hq
    obtain ⟨r, hr, rfl⟩ := Option.map_eq_some_iff.mp hq
    exact h.bound x r b hr ((hp r).bound ▸ hb) ((hp r).binding ▸ hbind)
  jobs job hjob := by
    have hback := h.jobs job hjob
    refine ⟨fun hd part ht => ?_, hback.keys⟩
    obtain ⟨r, hr, ha⟩ := hback.record hd part ht
    refine ⟨f r, by rw [current_mapRecords, hr]; rfl, ha.congr ht (hstate r) (hp r).lane (hp r).binding ?_⟩
    intro i e _ he _
    rw [(hp r).followUps]
    exact he
  targets := h.targets
  ascending := h.ascending
  waits x := by
    rw [State.recordAt_mapRecords]
    refine (h.waits x).trans ⟨fun ⟨r, hr, hw⟩ => ⟨f r, by rw [hr]; rfl, (hp r).waits_iff.mpr hw⟩, fun ⟨q, hq, hw⟩ => ?_⟩
    obtain ⟨r, hr, rfl⟩ := Option.map_eq_some_iff.mp hq
    exact ⟨r, hr, (hp r).waits_iff.mp hw⟩

omit hstate in
theorem slots_mapRecords (h : s.slotsPartitioned) : (s.mapRecords f).slotsPartitioned := by
  obtain ⟨h1, h2, h3, h4⟩ := h
  refine ⟨h1, fun x => ?_, h3, fun l x => ?_⟩
  · rw [State.recordAt_mapRecords, Option.map_eq_none_iff]
    exact h2 x
  · rw [State.recordAt_mapRecords]
    refine (h4 l x).trans ⟨fun ⟨r, hr, hl⟩ => ⟨f r, by rw [hr]; rfl, (hp r).lane.trans hl⟩, fun ⟨q, hq, hl⟩ => ?_⟩
    obtain ⟨r, hr, rfl⟩ := Option.map_eq_some_iff.mp hq
    exact ⟨r, hr, (hp r).lane.symm.trans hl⟩

include hcurrent

theorem account_mapRecords (h : s.accountHolds) : (s.mapRecords f).accountHolds := by
  have hon : ∀ l x, (s.mapRecords f).deferredAmount l x = s.deferredAmount l x ∧
      (s.mapRecords f).deferredOne l x = s.deferredOne l x := fun l x => by
    cases hr : s.recordAt x with
    | none =>
      have hq : (s.mapRecords f).recordAt x = s.recordAt x := by rw [State.recordAt_mapRecords, hr]; rfl
      exact ⟨deferredAmount_congr hq l, deferredOne_congr hq l⟩
    | some r =>
      have hq : (s.mapRecords f).recordAt x = some (f r) := by rw [State.recordAt_mapRecords, hr]; rfl
      rw [deferredAmount_eq hr, deferredAmount_eq hq, deferredOne_eq hr, deferredOne_eq hq, Record.amountOn,
        Record.amountOn, Record.countOn, Record.countOn, hstate, (hp r).lane, hcurrent]
      exact ⟨rfl, rfl⟩
  obtain ⟨h1, h2, h3⟩ := h
  refine ⟨fun l => (h1 l).trans ?_, fun l => (h2 l).trans ?_, h3⟩
  · exact Finset.sum_congr rfl fun x _ => (hon l x).1.symm
  · exact Finset.sum_congr rfl fun x _ => (hon l x).2.symm

end

theorem quiet_tick (s : State) : Quiet s (s.mapRecords Record.tick) := by
  have hrel : ∀ {R : Record → Record → Prop}, (∀ r, R r r.tick) → ∀ x, Option.Rel R (s.recordAt x)
      ((s.mapRecords Record.tick).recordAt x) := fun hR x => by
    rw [State.recordAt_mapRecords]
    cases s.recordAt x with
    | none => exact .none
    | some r => exact .some (hR r)
  refine ⟨Calm.of_same rfl rfl rfl rfl rfl rfl rfl, ⟨slots_mapRecords s passes_tick,
    fun _ => account_mapRecords s passes_tick (fun _ => rfl) fun _ => rfl, fun h x q hq => ?_, id,
    fun _ => core_mapRecords s passes_tick fun _ => rfl, id⟩, fun _ => engagementsHold_congr (fun x => State.tag_mapRecords ..)
    (hrel fun _ => ⟨rfl, rfl⟩) fun _ => rfl, counts_of_same rfl rfl, fun x => ⟨State.tag_mapRecords .., hrel (fun _ => ⟨rfl, rfl, rfl, rfl, rfl⟩) x⟩,
    fun _ => EntryKeeps.refl _⟩
  rw [State.recordAt_mapRecords] at hq
  obtain ⟨r, hr, rfl⟩ := Option.map_eq_some_iff.mp hq
  exact (passes_tick r).wellFormed (h x r hr)

/-! ## Errors and the lane's leaving READY (R54, R122, R152 to R157) -/

section
variable (l : LaneId) (s : State)

theorem quiet_refuseFrame (reason : RefuseReason) (sequence : Byte) :
    Quiet s (refuseFrame l reason sequence s) := quiet_offer ..

theorem acts_faultLane (kind : ErrorKind) : Acts s (s.faultLane l kind) := by
  unfold State.faultLane
  dsimp only
  refine Acts.then_quiet (Acts.then_quiet ?_ (quiet_modLane _ (Lane.keeps_stopped _ (by decide)))) (quiet_modCauses ..)
  split
  · exact acts_leaveReady ..
  · exact Acts.refl s

theorem acts_thresholdActions (kind : ErrorKind) (c : CounterSettings) : Acts s (s.thresholdActions l kind c) := by
  have hattend : Quiet s (if c.attend = true then s.modCauses l fun causes => causes.latchThreshold kind else s) := by
    split
    · exact quiet_modCauses ..
    · exact Quiet.refl s
  unfold State.thresholdActions
  dsimp only
  split
  · exact hattend.then_acts (acts_faultLane ..)
  · exact hattend.acts

theorem acts_reportError (kind : ErrorKind) : Acts s (s.reportError l kind) := by
  unfold State.reportError
  dsimp only
  split
  · have hcount := quiet_modLane s (l := l) (f := fun L => { L with
        errors := L.errors.set kind
          (advanceCounter ((s.lane l).settings.counter kind).terminal ((s.lane l).errors.get kind)).1 })
      (Lane.keeps_counted (s.lane l) kind ((s.lane l).settings.counter kind).terminal)
    split
    · exact hcount.then_acts (acts_thresholdActions ..)
    · exact hcount.acts
  · exact Acts.refl s

theorem acts_refuseCounted (reason : RefuseReason) (sequence : Byte) : Acts s (refuseCounted l reason sequence s) :=
  (quiet_refuseFrame ..).then_acts (acts_reportError ..)

theorem acts_holdLane : Acts s (s.holdLane l) := by
  unfold State.holdLane
  refine Acts.then_quiet ?_ (quiet_modLane _ (Lane.keeps_stopped _ (by decide)))
  split
  · exact acts_leaveReady ..
  · exact Acts.refl s

/-! ## The receive line and the assembler (R123 to R128) -/

theorem quiet_rxLine (line : RxLine) : Quiet s (s.modLane l fun L => { L with rxLine := line }) :=
  quiet_modLane s (Lane.keeps_of_same rfl)

theorem acts_lineCharacter (b : Byte) (stopAtMark : Bool) : Acts s (lineCharacter l b stopAtMark s) := by
  unfold lineCharacter
  split
  · next h =>
    split
    · split
      · next hroom => exact (quiet_modLane s (Lane.keeps_append h.1 hroom b)).acts
      · exact acts_reportError ..
    · exact (quiet_rxLine ..).acts
  · exact Acts.refl s

theorem acts_lineBreak : Acts s (lineBreak l s) := by
  unfold lineBreak
  split
  · split
    · exact Acts.refl s
    · split
      · exact ((acts_leaveReady ..).then_quiet (quiet_modLane _ (Lane.keeps_broken _))).then_quiet (quiet_modCauses ..)
      · exact (quiet_modLane s (Lane.keeps_broken _)).acts
  · exact (quiet_rxLine ..).acts

theorem acts_lineReturnToMark : Acts s (lineReturnToMark l s) := by
  unfold lineReturnToMark
  dsimp only
  split
  · exact (quiet_rxLine ..).then_acts (acts_reportError ..)
  · exact (quiet_rxLine ..).acts

theorem quiet_gap : Quiet s (gap l s) := by
  unfold gap
  split
  · next h => exact quiet_modLane s (Lane.keeps_gap h)
  · exact Quiet.refl s

theorem acts_assemblerTakeByte : Acts s (assemblerTakeByte l s) := by
  unfold assemblerTakeByte
  split
  · next h =>
    have htake := quiet_modLane s (l := l) (f := fun _ => (s.lane l).takeNext.1) (Lane.keeps_takeNext h.1)
    dsimp only
    split
    · exact htake.then_acts (acts_reportError ..)
    · exact htake.acts
  · exact Acts.refl s

/-! ## The transmit side (R130, R131) -/

theorem quiet_moveFrame : Quiet s (moveFrame l s) := by
  unfold moveFrame
  split
  · exact Quiet.refl s
  next f rest hout =>
  dsimp only
  split
  · next h =>
    have hmove := quiet_modLane s (l := l) (f := fun L => { L with
        outbound := rest, txFifo := L.txFifo ++ f.bytes (s.lane l).nextPart, nextPart := (s.lane l).nextPart + 1 })
      (Lane.keeps_moved h.1 hout h.2 ((s.lane l).nextPart + 1))
    split
    · exact hmove.trans (quiet_deliverySent ..)
    · exact hmove
  · exact Quiet.refl s

theorem quiet_transmitCharacter : Quiet s (transmitCharacter l s) := by
  unfold transmitCharacter
  split
  · exact Quiet.refl s
  next b rest htx =>
  split
  · next h => exact quiet_modLane s (Lane.keeps_transmit h.1 htx (some b))
  · exact Quiet.refl s

theorem quiet_holdIn (asserted : Bool) : Quiet s (s.modLane l fun L => { L with holdIn := asserted }) :=
  quiet_modLane s (Lane.keeps_of_same rfl)

end

end Sys2Proof.Machine
end


section
/-! PROOFS. A card is captured (R31, R32, R97): the record is bound to the ACTIVE entry, its capture job placed;
and the reader's frames (R143 to R150). -/

namespace Sys2Proof.Machine

/-! ## A record bound (R32, R97) -/

section
variable {s t : State} {x : Slot}

/-- Of the records bound to a generation one slot's record may come or go. -/
theorem boundCount_update (hother : ∀ y, y ≠ x → t.recordAt y = s.recordAt y) (g : Nat) :
    t.boundCount g + (if (s.recordAt x).any (fun r => r.boundTo g) then 1 else 0) =
      s.boundCount g + (if (t.recordAt x).any (fun r => r.boundTo g) then 1 else 0) := by
  rw [boundCount_eq_sum t, boundCount_eq_sum s]
  have hsum := sum_update (f := fun y => if (s.recordAt y).any (fun r => r.boundTo g) then 1 else 0)
    (g := fun y => if (t.recordAt y).any (fun r => r.boundTo g) then 1 else 0) x fun y hy => by rw [hother y hy]
  exact hsum

/-- An entry's binding count changes, and neither its state nor its key. -/
theorem entries_bindings {e : Fin 4} {n : Nat}
    (hent : ∀ j, t.entry j = if j = e then { s.entry e with bindings := n } else s.entry j) (j : Fin 4) :
    (t.entry j).state = (s.entry j).state ∧ (t.entry j).material = (s.entry j).material := by
  rw [hent]
  split
  · next hj => rw [hj]; exact ⟨rfl, rfl⟩
  · exact ⟨rfl, rfl⟩

theorem keysWellFormed_bindings {e : Fin 4} {n : Nat} (hne : (s.entry e).state ≠ .empty)
    (hent : ∀ j, t.entry j = if j = e then { s.entry e with bindings := n } else s.entry j) (h : s.keysWellFormed) :
    t.keysWellFormed := by
  have hstate := fun j => (entries_bindings hent j).1
  refine ⟨fun j => ?_, fun j k hj hk => ?_⟩
  · rw [hent]
    split
    · obtain ⟨_, hmat, hcount⟩ := h.1 e
      exact ⟨fun hempty => absurd hempty hne, hmat, hcount⟩
    · exact h.1 j
  · rw [hstate] at hj hk
    exact h.2 j k hj hk

theorem generationsHold_entries (hstate : ∀ j, (t.entry j).state = (s.entry j).state)
    (hmat : ∀ j, (t.entry j).material = (s.entry j).material) (hh : t.keys.highest = s.keys.highest)
    (h : s.generationsHold) : t.generationsHold := by
  simpa only [State.generationsHold, hstate, hmat, hh] using h

variable {r : Record} {b : Binding} {summary : CardSummary} {card : CardBlock}

theorem wellFormed_capture (hst : r.state = .armed) (hw : r.WellFormed) : (r.capture b summary card).WellFormed := by
  have hend := hw.endReason_none (by rw [hst]; decide) (by rw [hst]; decide)
  have hpayload := hw.payload_none (by rw [hst]; rfl)
  have hfs := hw.followUps_nil (by rw [hst]; rfl)
  exact { hw with
    endReason := by
      rw [show (r.capture b summary card).endReason = r.endReason from rfl, hend]
      exact ⟨fun h => (by cases h), fun h => h.elim (fun h => (by cases h)) fun h => (by cases h)⟩
    engaging := fun _ => hw.engaging (by rw [hst]; rfl)
    cancelPending := fun _ => rfl
    stateTimer := fun h => (by cases h)
    payload := by
      rw [show (r.capture b summary card).payload = r.payload from rfl, hpayload]
      exact ⟨fun h => (by cases h), fun h => (by cases h)⟩
    card := fun _ => ⟨rfl, rfl⟩
    bound := fun _ => ⟨rfl, rfl⟩
    followUps := fun h => absurd hfs h
    reversal := fun ⟨e, he, _⟩ => by
      rw [show (r.capture b summary card).followUps = r.followUps from rfl, hfs] at he
      cases he }

/-- No job works for an ARMED record. -/
theorem not_target_of_armed (h : s.Core) (hr : s.recordAt x = some r) (hst : r.state = .armed) {job : Job}
    (hjob : job ∈ s.jobs) (part : Nat) : job.target ≠ some (s.handleOf x, part) := by
  intro ht
  obtain ⟨p, hp, ha⟩ := (h.jobs job hjob).record _ _ ht
  rw [current_handleOf, hr] at hp
  cases hp
  have hfs := (h.sound x r hr).wellFormed.followUps_nil (by rw [hst]; rfl)
  cases job with
  | capture =>
    have hcap := ha.1
    rw [hst] at hcap
    cases hcap
  | followUp =>
    obtain ⟨_, e, _, _, _, he, _⟩ := ha
    rw [hfs] at he
    cases he
  | unwrap => cases ht

/-- An ARMED record has no binding (R14). -/
theorem Record.Sound.not_bound (hs : r.Sound) (hst : r.state = .armed) : r.bound = false :=
  Bool.eq_false_of_not_eq_true fun hb => by
    have := (hs.wellFormed.bound hb).1
    rw [hs.armed hst] at this
    cases this

theorem sound_capture (hs : r.Sound) (hst : r.state = .armed) : (r.capture b summary card).Sound := by
  have hfs := hs.wellFormed.followUps_nil (by rw [hst]; rfl)
  refine ⟨wellFormed_capture hst hs.wellFormed, fun e he _ => ?_, fun ha => (by cases ha)⟩
  rw [show (r.capture b summary card).followUps = r.followUps from rfl, hfs] at he
  cases he

section
variable (hr : s.recordAt x = some r) (hcell : Replaces s t x (r.capture b summary card))
include hr hcell

/-- A record bound raises the count of its generation by one (R97). -/
theorem boundCount_bound (hnot : r.bound = false) (g : Nat) :
    t.boundCount g = s.boundCount g + if b.generation = g then 1 else 0 := by
  have hupdate := boundCount_update (t := t) (s := s) (x := x) (fun y hy => by rw [hcell.recordAt, if_neg hy]) g
  have hbefore : (s.recordAt x).any (fun r => r.boundTo g) = false := by
    rw [hr, Option.any_some, Record.boundTo, hnot, Bool.false_and]
  have hafter : (t.recordAt x).any (fun r => r.boundTo g) = decide (b.generation = g) := by
    rw [hcell.recordAt, if_pos rfl, Option.any_some, Record.boundTo,
      show (r.capture b summary card).bound = true from rfl, Bool.true_and,
      show (r.capture b summary card).binding = some b from rfl, Option.map_some]
    simp only [Option.some.injEq]
  rw [hbefore, hafter] at hupdate
  simpa only [Bool.false_eq_true, if_false, Nat.add_zero, decide_eq_true_eq] using hupdate

theorem waits_bound (y : Slot) :
    (∃ p, t.recordAt y = some p ∧ p.waits) ↔ ∃ p, s.recordAt y = some p ∧ p.waits := by
  rw [hcell.recordAt]
  split
  · next hy =>
    subst hy
    rw [hr]
    exact ⟨fun ⟨p, hp, hpw⟩ => ⟨r, rfl, by cases hp; exact hpw⟩, fun ⟨p, hp, hpw⟩ => ⟨_, rfl, by cases hp; exact hpw⟩⟩
  · rfl

end

/-- An ARMED record is bound to the ACTIVE entry (R32, R97). -/
theorem core_bound (h : s.Core) (hr : s.recordAt x = some r) (hst : r.state = .armed) {i : Fin 4} {m : KeyMaterial}
    (hi : (s.entry i).state = .active) (hm : (s.entry i).material = some m) (hg : b.generation = m.generation)
    (hcell : Replaces s t x (r.capture b summary card))
    (hent : ∀ j, t.entry j = if j = i then { s.entry i with bindings := (s.entry i).bindings + 1 } else s.entry j)
    (hh : t.keys.highest = s.keys.highest) (hw : t.table.waiting = s.table.waiting) (hj : t.jobs = s.jobs) : t.Core := by
  have hs := h.sound x r hr
  have hstate := fun j => (entries_bindings hent j).1
  have hmat := fun j => (entries_bindings hent j).2
  refine ⟨fun y p hp => ?sound, keysWellFormed_bindings (by rw [hi]; decide) hent h.keys,
    generationsHold_entries hstate hmat hh h.generations, fun k n hn => ?counted, fun y p b' hp hb hbind => ?bound,
    fun job hjob => ⟨fun hd part ht => ?job, fun g block check heq => ?awaits⟩, hj ▸ h.targets, hw ▸ h.ascending,
    fun y => by rw [hw, h.waits, waits_bound hr hcell]⟩
  case sound =>
    rw [hcell.recordAt] at hp
    split at hp
    · cases hp
      exact sound_capture hs hst
    · exact h.sound y p hp
  case counted =>
    rw [hmat] at hn
    rw [boundCount_bound hr hcell (hs.not_bound hst), ← h.counted k n hn, hg, hent]
    split
    · next hk =>
      subst hk
      cases hm.symm.trans hn
      rw [if_pos rfl]
    · next hk => rw [if_neg fun heq => hk (h.generations.2.1 k i n m hn hm heq.symm), Nat.add_zero]
  case bound =>
    simp only [carries_iff, hstate, hmat]
    rw [hcell.recordAt] at hp
    split at hp
    · cases hp
      cases hbind
      exact ⟨i, by rw [hm, Option.map_some, hg], .inl hi⟩
    · simpa only [carries_iff] using h.bound y p b' hp hb hbind
  case job =>
    obtain ⟨p, hp, ha⟩ := (h.jobs job (hj ▸ hjob)).record hd part ht
    have hne : hd ≠ s.handleOf x := fun heq => not_target_of_armed h hr hst (hj ▸ hjob) part (heq ▸ ht)
    exact ⟨p, by rw [hcell.current hp, if_neg hne], ha⟩
  case awaits =>
    have ha := (h.jobs job (hj ▸ hjob)).keys g block check heq
    simpa only [State.awaits, hstate, hh] using ha

end

/-! ## Capture acceptance (R31, R32) -/

section
variable {s s' : State} {x : Slot} {r : Record} {i : Fin 4} {c g : Nat} {summary : CardSummary} {card : CardBlock}

/-- The record bound, in place. -/
theorem alters_bound (hr : s.recordAt x = some r) (hst : r.state = .armed) (hi : (s.entry i).state = .active)
    (hg : ∀ m, (s.entry i).material = some m → g = m.generation) :
    Alters s ((s.bindEntry i).withRecordAt x (r.capture { generation := g, counter := c } summary card)) x r .capturing := by
  have hcell : Replaces s ((s.bindEntry i).withRecordAt x (r.capture { generation := g, counter := c } summary card)) x
      (r.capture { generation := g, counter := c } summary card) := replaces_withRecordAt s x _
  have hent : ∀ j, ((s.bindEntry i).withRecordAt x (r.capture { generation := g, counter := c } summary card)).entry j =
      if j = i then { s.entry i with bindings := (s.entry i).bindings + 1 } else s.entry j :=
    fun j => s.entry_setEntry i j _
  refine ⟨hr, ⟨Calm.of_same rfl rfl rfl rfl rfl rfl rfl, ⟨slots_replaced hr hcell rfl rfl fun _ => rfl, fun _ ha => ?_,
    records_replaced hr hcell (wellFormed_capture hst), keysWellFormed_bindings (by rw [hi]; decide) hent, fun _ hc => ?_, id⟩,
    counts_of_same rfl rfl, fun _ y => moves_replaced hr hcell rfl rfl rfl rfl (by rw [hst]; rfl) y, fun j => ?_⟩, hcell.tag,
    ⟨r.capture { generation := g, counter := c } summary card, by rw [hcell.recordAt, if_pos rfl], rfl, rfl, rfl⟩, fun y hy => ?_, fun _ => rfl⟩
  · exact account_of_same hr hcell rfl (fun hd => hd.elim (fun h => (by cases h)) fun h => (by rw [hst] at h; cases h))
      (fun _ => rfl) (fun _ => rfl) rfl ha
  · obtain ⟨m, hm⟩ := Option.isSome_iff_exists.mp ((hc.keys.1 i).2.1 (by rw [hi]; decide))
    exact core_bound hc hr hst hi hm (hg m hm) hcell hent rfl rfl rfl
  · rw [hent]
    split
    · next hj => exact .inl ⟨by rw [hj], fun l => by rw [hj]⟩
    · exact EntryKeeps.refl _
  · rw [hcell.recordAt, if_neg hy]
    exact optionRel_refl (fun _ => ⟨rfl, rfl⟩) _

theorem tag_handle {t : State} (h : ∀ y, (t.cell y).tag = (s.cell y).tag) (y : Slot) : t.handleOf y = s.handleOf y := by
  rw [State.handleOf, h]; rfl

/-- A capture accepted with its counter taken (R32). -/
theorem acts_captureTaken (hr : s.recordAt x = some r) (hst : r.state = .armed) (hi : (s.entry i).state = .active)
    (hg : ∀ m, (s.entry i).material = some m → g = m.generation)
    (htake : s.takeCounter g r.lane s.captureLimit = some (c, s')) :
    Acts s ((((s'.bindEntry i).modRecord x (Record.capture { generation := g, counter := c } summary card)).placeJob
      (.capture (s.handleOf x) r.lane g c)).offer r.lane (.taken r.payment)) := by
  have hlimit : s.captureLimit ≤ 65536 := Nat.sub_le ..
  have hr' : s'.recordAt x = some r := (takeCounter_recordAt htake x).trans hr
  have hent := takeCounter_entries hlimit htake i
  have halters := alters_bound (c := c) (summary := summary) (card := card) hr' hst (hent.state.trans hi)
    (fun m hm => hg m (hent.material.symm.trans hm))
  have hat : ((s'.bindEntry i).withRecordAt x (r.capture { generation := g, counter := c } summary card)).recordAt x =
      some (r.capture { generation := g, counter := c } summary card) := recordAt_withRecordAt_self ..
  have hhandle : ((s'.bindEntry i).withRecordAt x (r.capture { generation := g, counter := c } summary card)).handleOf x =
      s.handleOf x := (tag_handle halters.tag x).trans (takeCounter_handleOf htake x)
  rw [modRecord_eq (s := s'.bindEntry i) hr']
  refine Acts.then_quiet (Alters.acts (Alters.after_take hlimit htake (halters.then_works (works_placeJob _ _)
    (fun hc ht => core_placeJob ht ?_ ?_) (portHolds_placeJob fun _ _ _ hj => (by cases hj))
    (counts_placeJob (fun hno => (by cases hno)) fun hno => (by cases hno)))) (by rw [hst]; rfl)) (quiet_offer ..)
  · refine ⟨fun hd part ht => ?_, fun g' block check hj => (by cases hj)⟩
    cases ht
    exact ⟨r.capture { generation := g, counter := c } summary card, by rw [← hhandle, current_handleOf, hat], rfl, rfl, rfl⟩
  · intro hmem
    obtain ⟨job, hjob, ht⟩ := List.mem_map.mp hmem
    refine not_target_of_armed hc hr' hst hjob 0 ?_
    rw [ht, takeCounter_handleOf htake]
    rfl

theorem acts_acceptCapture (hr : s.recordAt x = some r) (hst : r.state = .armed) (summary : CardSummary)
    (card : CardBlock) : Acts s (acceptCapture x r summary card s) := by
  unfold acceptCapture
  split
  · exact acts_failCapture hr hst _
  next i hi =>
  have hactive := State.state_of_entryIn hi
  cases hm : (s.entry i).material with
  | none =>
    dsimp only
    split
    · exact acts_failCapture hr hst _
    · next htake => exact acts_captureTaken hr hst hactive (fun m h => by rw [hm] at h; cases h) htake
  | some m =>
    dsimp only
    split
    · exact acts_failCapture hr hst _
    · next htake => exact acts_captureTaken hr hst hactive (fun n h => by rw [hm] at h; cases h; rfl) htake

end

/-! ## The reader's frames (R137 to R150) -/

section
variable (l : LaneId) (s : State)

theorem acts_takeCard (sequence : Byte) (payment : Nat) (c : CardFields) : Acts s (takeCard l sequence payment c s) := by
  unfold takeCard
  split
  · exact acts_refuseCounted ..
  next x r hx =>
  obtain ⟨hr, _⟩ := engaged_eq_some hx
  split
  · exact acts_refuseCounted ..
  next hst =>
  have harmed : r.state = .armed := not_not.mp hst
  split
  · exact acts_refuseCounted ..
  split
  · exact acts_acceptCapture hr harmed ..
  · exact (quiet_refuseFrame ..).then_acts (acts_failCapture (s := refuseFrame l .badCard sequence s) hr harmed _)

theorem acts_takeCancel (sequence : Byte) (payment : Nat) : Acts s (takeCancel l sequence payment s) := by
  unfold takeCancel
  split
  · exact Acts.refl s
  next x r hx =>
  obtain ⟨hr, _⟩ := engaged_eq_some hx
  split
  · split
    · next hc => exact acts_cancellation hr hc
    · exact (quiet_refuseFrame ..).acts
  · exact Acts.refl s

theorem acts_takeAck (acknowledged : Byte) : Acts s (takeAck l acknowledged s) := by
  unfold takeAck
  split
  · next h => exact acts_acked h
  · split
    · exact (quiet_expired s l none).acts
    · exact acts_reportError ..

theorem quiet_welcome : Quiet s (welcome l s) := by
  unfold welcome
  exact (quiet_offer ..).trans (quiet_modCauses ..)

theorem quiet_greet (session : ReaderSession) : Quiet s (greet l session s) :=
  (quiet_modLane s (Lane.keeps_greet _ session)).trans (quiet_welcome ..)

theorem acts_restartDialogue (session : ReaderSession) : Acts s (restartDialogue l session s) :=
  ((acts_leaveReady s l .lost).then_quiet
    (quiet_modLane _ ((Lane.keeps_clearOutbound _).trans (Lane.keeps_greet _ session)))).then_quiet (quiet_welcome ..)

theorem quiet_dispatchDown (f : LaneFrame) : Quiet s (dispatchDown l f s) := by
  unfold dispatchDown
  split
  · exact quiet_greet ..
  all_goals exact quiet_refuseFrame ..

theorem acts_dispatchInTurn (f : LaneFrame) : Acts s (dispatchInTurn l f s) := by
  unfold dispatchInTurn
  split
  · exact acts_takeCard ..
  · exact acts_takeCancel ..
  · exact acts_takeAck ..
  · exact acts_refuseCounted ..
  · exact Acts.refl s

theorem acts_dispatchReady (f : LaneFrame) : Acts s (dispatchReady l f s) := by
  unfold dispatchReady
  split
  · split
    · exact acts_restartDialogue ..
    · exact acts_refuseCounted ..
    all_goals exact Acts.refl s
  · split
    · exact (quiet_modLane s (Lane.keeps_advanceExpected _)).then_acts (acts_dispatchInTurn ..)
    · exact acts_refuseCounted ..

theorem acts_dispatch (f : LaneFrame) : Acts s (dispatch l f s) := by
  unfold dispatch
  split
  · exact acts_dispatchReady ..
  · exact (quiet_dispatchDown ..).acts

theorem acts_takeFrame (names : LaneFrame → Bool) : Acts s (takeFrame l names s) := by
  unfold takeFrame
  split
  · exact Acts.refl s
  · split
    · exact (quiet_modLane s (Lane.keeps_emptySlot _)).then_acts (acts_dispatch ..)
    · exact Acts.refl s

end

end Sys2Proof.Machine
end


section
/-! PROOFS. A slot is allocated (R5, R27, R28) and freed (R21). -/

namespace Sys2Proof.Machine

/-! ## Allocation (R5) -/

section
variable {s t : State} {x : Slot} {rest : List Slot} {l : LaneId} {q : Record}

/-- A record comes to the slot at the head of the free list, with the next tag; the lane's list and its engaged
handle take it. -/
structure Comes (s t : State) (x : Slot) (rest : List Slot) (l : LaneId) (q : Record) : Prop where
  head : s.table.free = x :: rest
  free : t.table.free = rest
  cell : ∀ y, t.cell y = if y = x then { tag := (s.cell x).tag + 1, record := some q } else s.cell y
  list : ∀ k, (t.book k).list = if k = l then (s.book l).list ++ [x] else (s.book k).list
  total : ∀ k, (t.book k).total = (s.book k).total
  count : ∀ k, (t.book k).count = (s.book k).count
  engaged : ∀ k, (t.book k).engaged = if k = l then some (handleAt ((s.cell x).tag + 1) x) else (s.book k).engaged
  store : t.table.storeTotal = s.table.storeTotal
  waiting : t.table.waiting = s.table.waiting
  keys : t.keys = s.keys
  engine : t.engine = s.engine
  port : t.port = s.port
  lane : q.lane = l
  state : q.state = .armed
  bound : q.bound = false
  binding : q.binding = none
  followUps : q.followUps = []
  wellFormed : q.WellFormed

section
variable (h : Comes s t x rest l q)
include h

theorem Comes.recordAt (y : Slot) : t.recordAt y = if y = x then some q else s.recordAt y := by
  rw [State.recordAt, h.cell]
  split <;> rfl

theorem Comes.vacant (hs : s.slotsPartitioned) : s.recordAt x = none :=
  (hs.2.1 x).mp (h.head ▸ List.mem_cons_self ..)

theorem Comes.slots (hs : s.slotsPartitioned) : t.slotsPartitioned := by
  have hx := h.vacant hs
  obtain ⟨h1, h2, h3, h4⟩ := hs
  rw [h.head, List.nodup_cons] at h1
  have hnot : ∀ k, x ∉ (s.book k).list := fun k hmem => by
    obtain ⟨r, hr, _⟩ := (h4 k x).mp hmem
    rw [hx] at hr
    cases hr
  refine ⟨h.free ▸ h1.2, fun y => ?_, fun k => ?_, fun k y => ?_⟩
  · rw [h.free, h.recordAt]
    split
    · next hy => exact iff_of_false (hy ▸ h1.1) fun hno => by cases hno
    · next hy => rw [← h2 y, h.head, List.mem_cons, or_iff_right hy]
  · rw [h.list]
    split
    · next hk =>
      rw [List.nodup_append]
      refine ⟨h3 l, List.nodup_singleton x, fun a ha b hb hab => hnot l ?_⟩
      rw [List.mem_singleton.mp hb] at hab
      exact hab ▸ ha
    · exact h3 k
  · rw [h.list, h.recordAt]
    split
    · next hk =>
      subst hk
      rw [List.mem_append, List.mem_singleton]
      split
      · next hy => exact iff_of_true (.inr hy) ⟨q, rfl, h.lane⟩
      · next hy => rw [or_iff_left hy, h4]
    · next hk =>
      split
      · next hy =>
        subst hy
        refine iff_of_false (hnot k) ?_
        rintro ⟨p, hp, hlane⟩
        cases hp
        exact hk (hlane.symm.trans h.lane)
      · exact h4 k y

theorem Comes.account (hs : s.slotsPartitioned) (ha : s.accountHolds) : t.accountHolds := by
  have hx := h.vacant hs
  have hon : ∀ k y, t.deferredAmount k y = s.deferredAmount k y ∧ t.deferredOne k y = s.deferredOne k y := fun k y => by
    by_cases hy : y = x
    · subst hy
      have hq : t.recordAt y = some q := by rw [h.recordAt, if_pos rfl]
      have hnot := amountOn_not_deferred (r := q) (by rw [h.state]; decide) k
      rw [deferredAmount_eq hq, deferredOne_eq hq, hnot.1, hnot.2]
      simp only [State.deferredAmount, State.deferredOne, hx, and_self]
    · have hy' : t.recordAt y = s.recordAt y := by rw [h.recordAt, if_neg hy]
      exact ⟨deferredAmount_congr hy' k, deferredOne_congr hy' k⟩
  obtain ⟨h1, h2, h3⟩ := ha
  refine ⟨fun k => ?_, fun k => ?_, ?_⟩
  · rw [h.total, h1]
    exact Finset.sum_congr rfl fun y _ => (hon k y).1.symm
  · rw [h.count, h2]
    exact Finset.sum_congr rfl fun y _ => (hon k y).2.symm
  · rw [h.store, h3]
    exact Finset.sum_congr rfl fun k _ => (h.total k).symm

theorem Comes.records (hs : s.recordsWellFormed) : t.recordsWellFormed := fun y p hp => by
  rw [h.recordAt] at hp
  split at hp
  · cases hp; exact h.wellFormed
  · exact hs y p hp

theorem Comes.current (hs : s.slotsPartitioned) {hd : Handle} {p : Record} (hp : s.current? hd = some p) :
    t.current? hd = some p := by
  obtain ⟨hat, htag⟩ := current_eq_some_iff.mp hp
  have hne : slotOf hd ≠ x := fun heq => by
    rw [heq, h.vacant hs] at hat
    cases hat
  refine current_eq_some_iff.mpr ⟨by rw [h.recordAt, if_neg hne]; exact hat, ?_⟩
  rw [h.cell, if_neg hne]
  exact htag

theorem Comes.core (hs : s.slotsPartitioned) (hc : s.Core) : t.Core := by
  have hx := h.vacant hs
  have hjobs : t.jobs = s.jobs := by rw [State.jobs, State.jobs, h.engine]
  have hcount : ∀ g, t.boundCount g = s.boundCount g := fun g => by
    have hupdate := boundCount_update (s := s) (t := t) (x := x) (fun y hy => by rw [h.recordAt, if_neg hy]) g
    rw [hx, h.recordAt, if_pos rfl, Option.any_some, Record.boundTo, h.bound] at hupdate
    simpa only [Option.any_none, Bool.false_and, Bool.false_eq_true, if_false, Nat.add_zero] using hupdate
  refine ⟨fun y p hp => ?_, keysWellFormed_congr h.keys hc.keys, generationsHold_congr h.keys hc.generations,
    fun i m hm => ?_, fun y p b hp hb hbind => ?_, fun job hjob => ?_, hjobs ▸ hc.targets, h.waiting ▸ hc.ascending,
    fun y => ?_⟩
  · rw [h.recordAt] at hp
    split at hp
    · cases hp
      refine ⟨h.wellFormed, fun f hf => ?_, fun _ => h.binding⟩
      rw [h.followUps] at hf
      cases hf
    · exact hc.sound y p hp
  · rw [entry_congr h.keys] at hm ⊢
    rw [hcount]
    exact hc.counted i m hm
  · simp only [entry_congr h.keys]
    rw [h.recordAt] at hp
    split at hp
    · cases hp
      rw [h.bound] at hb
      cases hb
    · exact hc.bound y p b hp hb hbind
  · rw [hjobs] at hjob
    have hback := hc.jobs job hjob
    refine ⟨fun hd part ht => ?_, fun g block check heq => (awaits_congr h.keys g).mpr (hback.keys g block check heq)⟩
    obtain ⟨p, hp, ha⟩ := hback.record hd part ht
    exact ⟨p, h.current hs hp, ha⟩
  · rw [h.waiting, hc.waits, h.recordAt]
    split
    · next hy =>
      subst hy
      rw [hx]
      refine iff_of_false (fun ⟨_, hno, _⟩ => by cases hno) ?_
      rintro ⟨p, hp, f, hf, _⟩
      cases hp
      rw [h.followUps] at hf
      cases hf
    · rfl

theorem Comes.engagements (hnone : (s.book l).engaged = none) (hs : s.slotsPartitioned) : EngagementsKept s t := by
  rintro - ⟨hhandle, hrecord⟩
  have hx := h.vacant hs
  have hq : t.recordAt x = some q := by rw [h.recordAt, if_pos rfl]
  have htag : (t.cell x).tag = (s.cell x).tag + 1 := by rw [h.cell, if_pos rfl]
  have hx' : t.handleOf x = handleAt ((s.cell x).tag + 1) x := by rw [State.handleOf, htag]
  refine ⟨fun k hd he => ?_, fun y p hp he => ?_⟩
  · rw [h.engaged] at he
    split at he
    · next hk =>
      subst hk
      cases he
      refine ⟨q, by rw [← hx', current_handleOf, hq], h.lane, ?_⟩
      rw [Record.engaged, h.state]
      rfl
    · obtain ⟨p, hp, hl, heng⟩ := hhandle k hd he
      exact ⟨p, h.current hs hp, hl, heng⟩
  · by_cases hy : y = x
    · subst hy
      cases hq.symm.trans hp
      rw [h.engaged, if_pos h.lane, hx']
    · rw [h.recordAt, if_neg hy] at hp
      have hbook := hrecord y p hp he
      have hl : p.lane ≠ l := fun hl => by
        rw [hl, hnone] at hbook
        cases hbook
      rw [h.engaged, if_neg hl, hbook, State.handleOf, State.handleOf, h.cell, if_neg hy]

theorem Comes.moves (hs : s.slotsPartitioned) (y : Slot) : SlotMoves s t y := by
  have hx := h.vacant hs
  by_cases hy : y = x
  · subst hy
    have htag : (t.cell y).tag = (s.cell y).tag + 1 := by rw [h.cell, if_pos rfl]
    refine ⟨fun r p hr _ => ?_, fun hno => ?_, fun _ p hp => ⟨htag, ?_⟩⟩
    · rw [hx] at hr; cases hr
    · rw [h.recordAt, if_pos rfl] at hno; cases hno
    · rw [h.recordAt, if_pos rfl] at hp
      cases hp
      exact h.state
  · have hcell : t.cell y = s.cell y := by rw [h.cell, if_neg hy]
    exact SlotStays.moves ⟨by rw [hcell], by
      rw [State.recordAt, State.recordAt, hcell]
      exact optionRel_refl Kept.refl _⟩

theorem Comes.acts (hcalm : Calm s t) (hnone : (s.book l).engaged = none) : Acts s t := by
  have hjobs : t.jobs = s.jobs := by rw [State.jobs, State.jobs, h.engine]
  exact ⟨hcalm, ⟨h.slots, h.account, h.records, keysWellFormed_congr h.keys, h.core,
    portHolds_of_kept (fun _ _ _ hj => hjobs ▸ hj) (by rw [h.port])⟩, h.engagements hnone,
    counts_of_same (by rw [h.engine]) h.waiting, h.moves, fun i => by rw [entry_congr h.keys]; exact EntryKeeps.refl _⟩

end

end

/-! ## ARM (R27, R28) -/

theorem wellFormed_newRecord (l : LaneId) (payment : Nat) {amount : Nat} (till : Word) (present : Nat)
    (hlow : 1 ≤ amount) (hhigh : amount ≤ 99999999) : (newRecord l payment amount till present).WellFormed where
  endReason := ⟨fun h => (by cases h), fun h => h.elim (fun h => (by cases h)) fun h => (by cases h)⟩
  engaging := fun _ => rfl
  deliveryKind := ⟨fun h => (by cases h), fun h => absurd rfl h⟩
  deliveryTimer := ⟨fun h => (by cases h), fun h => (by cases h)⟩
  cancelPending := fun h => (by cases h)
  stateTimer := fun _ => rfl
  payload := ⟨fun h => (by cases h), fun h => (by cases h)⟩
  card := fun h => (by cases h)
  bound := fun h => (by cases h)
  followUps := fun h => absurd rfl h
  adjusts := Nat.zero_le _
  reversal := fun ⟨_, hf, _⟩ => (by cases hf)
  reversalLast := fun _ hf => (by cases hf)
  amounts := ⟨hlow, hhigh, hlow, hhigh⟩

theorem comes_allocate {s : State} {l : LaneId} {x : Slot} {rest : List Slot} (hfree : s.table.free = x :: rest)
    {amount : Nat} (hlow : 1 ≤ amount) (hhigh : amount ≤ 99999999) (till : Word) :
    Comes s (s.allocate l x rest amount till) x rest l
      (newRecord l (s.book l).nextPayment amount till s.timers.present) := by
  have hbook : ∀ {α : Type} (g : LaneBook → α) (k : LaneId),
      g ((s.allocate l x rest amount till).book k) = if k = l then g { s.book l with
        list := (s.book l).list ++ [x], engaged := some (handleAt ((s.cell x).tag + 1) x)
        nextPayment := nextPaymentAfter (s.book l).nextPayment } else g (s.book k) := fun g k => by
    rw [book_allocate]
    exact apply_ite g ..
  have hkept : ∀ {α : Type} (g : LaneBook → α), g { s.book l with
      list := (s.book l).list ++ [x], engaged := some (handleAt ((s.cell x).tag + 1) x)
      nextPayment := nextPaymentAfter (s.book l).nextPayment } = g (s.book l) →
      ∀ k, g ((s.allocate l x rest amount till).book k) = g (s.book k) := fun g hg k => by
    rw [hbook g]
    split
    · next hk => rw [hg, hk]
    · rfl
  refine ⟨hfree, ?_, cell_allocate s l x rest amount till, hbook LaneBook.list, hkept LaneBook.total rfl,
    hkept LaneBook.count rfl, hbook LaneBook.engaged, ?_, ?_, ?_, ?_, ?_, rfl, rfl, rfl, rfl, rfl,
    wellFormed_newRecord _ _ _ _ hlow hhigh⟩
  · rw [table_allocate]
  · rw [table_allocate]
  · rw [table_allocate]
  · rw [allocate_frame]
  · rw [allocate_frame]
  · rw [allocate_frame]

theorem calm_allocate (s : State) (l : LaneId) (x : Slot) (rest : List Slot) (amount : Nat) (till : Word) :
    Calm s (s.allocate l x rest amount till) := by
  rw [allocate_frame]
  exact Calm.of_same rfl rfl rfl rfl rfl rfl rfl

theorem answers_arm (lane : Byte) (amount till : Word) (s : State) : Answers s (arm lane amount till s) := by
  unfold arm
  split
  · exact answers_refuse ..
  next c _ =>
  split
  · exact answers_refuse ..
  next l _ =>
  split
  · exact answers_refuse ..
  next hrange =>
  split
  · exact answers_refuse ..
  split
  · exact answers_refuse ..
  split
  · exact answers_refuse ..
  next hnone =>
  split
  · exact answers_refuse ..
  split
  · exact answers_refuse ..
  split
  · exact answers_refuse ..
  split
  · exact answers_refuse ..
  next x rest hfree =>
  obtain ⟨hlow, hhigh⟩ := of_decide_eq_true (not_not.mp hrange)
  have hcomes := comes_allocate (l := l) hfree hlow hhigh till
  rw [acceptArm_eq]
  refine answers_of_acts ((hcomes.acts (calm_allocate ..) (not_not.mp hnone)).then_quiet (quiet_offer ..)) ?_ _ _
  exact hcomes.port

end Sys2Proof.Machine
end


section
/-! PROOFS. The key entries turn (R88 to R98): one entry changes, the earlier ACTIVE one is turned away, the
PENDING one becomes ACTIVE or is dropped; and a record's slot is freed, its entry's binding count lowered (R21). -/

namespace Sys2Proof.Machine

/-! ## The key entries change alone -/

section
variable {s t : State}

/-- The keys change as nothing else does but what is kept outside the table and the engine. -/
theorem Quiet.of_keys (hc : Calm s t) (htable : t.table = s.table) (hengine : t.engine = s.engine)
    (hport : t.port = s.port) (hkeys : s.keysWellFormed → t.keysWellFormed) (hcore : s.Core → t.Core)
    (hent : ∀ i, EntryKeeps (s.entry i) (t.entry i)) : Quiet s t := by
  have hcell : ∀ x, t.cell x = s.cell x := fun x => by rw [State.cell, State.cell, htable]
  have hbook : ∀ l, t.book l = s.book l := fun l => by rw [State.book, htable]; rfl
  have hrec := recordAt_congr hcell
  have hjobs : t.jobs = s.jobs := by rw [State.jobs, State.jobs, hengine]
  have hrel : ∀ {R : Record → Record → Prop}, (∀ r, R r r) → ∀ x, Option.Rel R (s.recordAt x) (t.recordAt x) :=
    fun hR x => by rw [hrec]; exact optionRel_refl hR _
  exact ⟨hc, ⟨slots_of_view hrec (by rw [htable]) fun l => by rw [hbook], fun _ => accountHolds_of_table htable,
    fun h x r hr => h x r ((hrec x).symm.trans hr), hkeys, fun _ => hcore,
    portHolds_of_kept (fun _ _ _ hj => hjobs ▸ hj) (by rw [hport])⟩,
    fun _ => engagementsHold_congr (fun x => by rw [hcell]) (hrel fun _ => ⟨rfl, rfl⟩) fun l => by rw [hbook],
    counts_of_same (by rw [hengine]) (by rw [htable]), fun x => ⟨by rw [hcell], hrel Kept.refl x⟩, hent⟩

/-- The key table with one entry replaced by a well formed one, ACTIVE only where no other is. -/
theorem keysWellFormed_replaced {i : Fin 4} {e : KeyEntry} (hent : ∀ j, t.entry j = if j = i then e else s.entry j)
    (he : e.WellFormed) (hact : e.state = .active → ∀ j, j ≠ i → (s.entry j).state ≠ .active) (h : s.keysWellFormed) :
    t.keysWellFormed := by
  refine ⟨fun j => ?_, fun j k hj hk => ?_⟩
  · rw [hent]
    split
    · exact he
    · exact h.1 j
  · rw [hent] at hj hk
    split at hj
    · next hji =>
      split at hk
      · next hki => rw [hji, hki]
      · next hki => exact absurd hk (hact hj k hki)
    · next hji =>
      split at hk
      · exact absurd hj (hact hk j hji)
      · exact h.2 j k hj hk

/-- No entry is newly PENDING, and no generation is new. -/
theorem generationsHold_of_fewer (hpend : ∀ j, (t.entry j).state = .pending → (s.entry j).state = .pending)
    (hmat : ∀ j m, (t.entry j).material = some m → (s.entry j).material = some m)
    (hh : t.keys.highest = s.keys.highest) (h : s.generationsHold) : t.generationsHold := by
  obtain ⟨h1, h2, h3, h4⟩ := h
  refine ⟨fun i j hi hj => h1 i j (hpend i hi) (hpend j hj),
    fun i j m n hm hn => h2 i j m n (hmat i m hm) (hmat j n hn), fun i m hm => ?_, hh ▸ h4⟩
  rw [hh]
  exact h3 i m (hmat i m hm)

theorem wellFormed_vacant : KeyEntry.vacant.WellFormed :=
  ⟨fun _ => rfl, fun h => absurd rfl h, fun l => by
    rw [KeyEntry.vacant, look_replicate]
    exact Nat.zero_le _⟩

/-- An entry that is not EMPTY in another state that is not EMPTY. -/
theorem wellFormed_state {e : KeyEntry} {st : EntryState} (hw : e.WellFormed) (hne : e.state ≠ .empty)
    (hst : st ≠ .empty) (n : Nat) : KeyEntry.WellFormed { e with state := st, bindings := n } :=
  ⟨fun h => absurd h hst, fun _ => hw.2.1 hne, hw.2.2⟩

/-- A key load awaited is awaited still: no entry becomes PENDING, and one that is EMPTY stays so. -/
theorem awaits_of_fewer (hpend : ∀ j, (t.entry j).state = .pending → (s.entry j).state = .pending)
    (hempty : ∀ j, (s.entry j).state = .empty → (t.entry j).state = .empty) (hh : t.keys.highest = s.keys.highest)
    {g : Nat} (h : s.awaits g) : t.awaits g := by
  obtain ⟨h1, h2, h3, k, hk⟩ := h
  exact ⟨hh ▸ h1, h2, fun j hj => h3 j (hpend j hj), k, hempty k hk⟩

/-! ## KEY DROP (R96) -/

theorem quiet_dropped {i : Fin 4} (hi : (s.entry i).state = .pending) : Quiet s (s.setEntry i KeyEntry.vacant) := by
  have hent := fun j => s.entry_setEntry i j KeyEntry.vacant
  have hpend : ∀ j, ((s.setEntry i KeyEntry.vacant).entry j).state = .pending → (s.entry j).state = .pending := fun j hj => by
    rw [hent] at hj
    split at hj
    · cases hj
    · exact hj
  have hmat : ∀ j m, ((s.setEntry i KeyEntry.vacant).entry j).material = some m → (s.entry j).material = some m :=
    fun j m hm => by
      rw [hent] at hm
      split at hm
      · cases hm
      · exact hm
  have hkeys : s.keysWellFormed → (s.setEntry i KeyEntry.vacant).keysWellFormed :=
    keysWellFormed_replaced hent wellFormed_vacant fun h => by cases h
  refine Quiet.of_keys (calm_setEntry ..) rfl rfl rfl hkeys (fun hc => ?_) fun j => ?_
  · refine hc.keys_changed (fun _ => rfl) rfl (List.Sublist.refl _) (hkeys hc.keys)
      (generationsHold_of_fewer hpend hmat rfl hc.generations) (fun j m hm => ?_) (fun j g hcar _ hst => ?_)
      fun g block check _ ha => ?_
    · rw [hent] at hm ⊢
      split at hm
      · cases hm
      · next hj => rw [if_neg hj]; exact hc.counted j m hm
    · have hj : j ≠ i := fun hj => by
        rw [hj, hi] at hst
        rcases hst with hst | hst <;> cases hst
      rw [hent, if_neg hj]
      exact ⟨hcar, hst⟩
    · exact absurd hi (ha.2.2.1 i)
  · rw [hent]
    split
    · exact .inr rfl
    · exact EntryKeeps.refl _

theorem answers_keyDrop (generation : Half) (s : State) : Answers s (keyDrop generation s) := by
  unfold keyDrop
  split
  · exact answers_refuse ..
  split
  · exact answers_refuse ..
  split
  · next hi => exact answers_of_acts (quiet_dropped hi).acts rfl _ _
  · exact answers_refuse ..

/-! ## KEY ROLL (R94) -/

/-- The earlier ACTIVE entry turned away: DRAINING while records are bound to it, otherwise EMPTY. -/
def KeyEntry.turned (e : KeyEntry) : KeyEntry :=
  if 0 < e.bindings then { e with state := .draining } else KeyEntry.vacant

theorem KeyEntry.turned_cases (e : KeyEntry) :
    (0 < e.bindings ∧ e.turned = { e with state := .draining }) ∨ (e.bindings = 0 ∧ e.turned = KeyEntry.vacant) := by
  unfold KeyEntry.turned
  split
  · next h => exact .inl ⟨h, rfl⟩
  · next h => exact .inr ⟨Nat.eq_zero_of_not_pos h, rfl⟩

theorem KeyEntry.turned_not_active (e : KeyEntry) : e.turned.state ≠ .active ∧ e.turned.state ≠ .pending := by
  rcases e.turned_cases with ⟨_, h⟩ | ⟨_, h⟩
  · rw [h]
    exact ⟨by simp, by simp⟩
  · rw [h]
    exact ⟨by simp [KeyEntry.vacant], by simp [KeyEntry.vacant]⟩

theorem entry_turnAway (s : State) (i j : Fin 4) :
    (s.turnAway i).entry j = if j = i then (s.entry i).turned else s.entry j := by
  unfold State.turnAway KeyEntry.turned
  dsimp only
  split
  · exact s.entry_setEntry ..
  · split
    · exact s.entry_setEntry ..
    · exact s.entry_setEntry ..

theorem turnAway_frame (s : State) (i : Fin 4) :
    s.turnAway i = { s with keys := (s.turnAway i).keys, attention := (s.turnAway i).attention } ∧
      (s.turnAway i).keys.highest = s.keys.highest := by
  unfold State.turnAway
  dsimp only
  split
  · exact ⟨rfl, rfl⟩
  · split
    · exact ⟨rfl, rfl⟩
    · exact ⟨rfl, rfl⟩

section
variable {i : Fin 4} (hi : (s.entry i).state = .active)
include hi

theorem keysWellFormed_turnAway (h : s.keysWellFormed) : (s.turnAway i).keysWellFormed := by
  refine keysWellFormed_replaced (entry_turnAway s i) ?_ (fun hno => absurd hno (KeyEntry.turned_not_active _).1) h
  rcases KeyEntry.turned_cases (s.entry i) with ⟨_, ht⟩ | ⟨_, ht⟩
  · rw [ht]
    exact wellFormed_state (h.1 i) (by rw [hi]; decide) (by decide) (s.entry i).bindings
  · rw [ht]
    exact wellFormed_vacant

theorem core_turnAway (hc : s.Core) : (s.turnAway i).Core := by
  have hent := entry_turnAway s i
  obtain ⟨hframe, hh⟩ := turnAway_frame s i
  have hcell : ∀ x, (s.turnAway i).cell x = s.cell x := fun x => by rw [hframe]; rfl
  have hjobs : (s.turnAway i).jobs = s.jobs := by rw [hframe]; rfl
  have hpend : ∀ j, ((s.turnAway i).entry j).state = .pending → (s.entry j).state = .pending := fun j hj => by
    rw [hent] at hj
    split at hj
    · exact absurd hj (KeyEntry.turned_not_active _).2
    · exact hj
  have hmat : ∀ j m, ((s.turnAway i).entry j).material = some m → (s.entry j).material = some m := fun j m hm => by
    rw [hent] at hm
    split at hm
    · next hj =>
      subst hj
      rcases KeyEntry.turned_cases (s.entry j) with ⟨_, ht⟩ | ⟨_, ht⟩
      · rw [ht] at hm; exact hm
      · rw [ht] at hm; cases hm
    · exact hm
  refine hc.keys_changed hcell (by rw [hframe]) (by rw [hjobs]) (keysWellFormed_turnAway hi hc.keys)
    (generationsHold_of_fewer hpend hmat hh hc.generations) (fun j m hm => ?_) (fun j g hcar hcount hst => ?_)
    fun g block check _ ha => awaits_of_fewer hpend (fun j hj => ?_) hh ha
  · rw [← hc.counted j m (hmat j m hm)]
    rw [hent] at hm ⊢
    split
    · next hj =>
      subst hj
      rcases KeyEntry.turned_cases (s.entry j) with ⟨_, ht⟩ | ⟨_, ht⟩
      · rw [ht]
      · rw [if_pos rfl, ht] at hm; cases hm
    · rfl
  · rw [hent]
    split
    · next hj =>
      subst hj
      obtain ⟨m, hm⟩ := Option.isSome_iff_exists.mp ((hc.keys.1 j).2.1 (by rw [hi]; decide))
      have hg : m.generation = g := by
        rw [carries_iff, hm, Option.map_some, Option.some.injEq] at hcar
        exact hcar
      have hpos : (s.entry j).bindings ≠ 0 := by rw [hc.counted j m hm, hg]; exact hcount
      rcases KeyEntry.turned_cases (s.entry j) with ⟨_, ht⟩ | ⟨hzero, _⟩
      · rw [ht]
        exact ⟨hcar, .inr rfl⟩
      · exact absurd hzero hpos
    · exact ⟨hcar, hst⟩
  · have hne : j ≠ i := fun hji => by
      rw [hji, hi] at hj
      cases hj
    rw [hent, if_neg hne]
    exact hj

theorem entryKeeps_turnAway (j : Fin 4) : EntryKeeps (s.entry j) ((s.turnAway i).entry j) := by
  rw [entry_turnAway]
  split
  · next hj =>
    subst hj
    rcases KeyEntry.turned_cases (s.entry j) with ⟨_, ht⟩ | ⟨_, ht⟩
    · rw [ht]; exact .inl ⟨rfl, fun _ => le_rfl⟩
    · rw [ht]; exact .inr rfl
  · exact EntryKeeps.refl _

end

section
variable {p : Fin 4} (hp : (s.entry p).state = .pending)
include hp

/-- The PENDING entry becomes ACTIVE. -/
theorem keysWellFormed_activated (hnone : ∀ j, (s.entry j).state ≠ .active) (h : s.keysWellFormed) :
    (s.setEntry p { s.entry p with state := .active }).keysWellFormed :=
  keysWellFormed_replaced (fun j => s.entry_setEntry p j _)
    (wellFormed_state (h.1 p) (by rw [hp]; decide) (by decide) (s.entry p).bindings) (fun _ j _ => hnone j) h

theorem core_activated (hnone : ∀ j, (s.entry j).state ≠ .active) (hc : s.Core) :
    (s.setEntry p { s.entry p with state := .active }).Core := by
  have hent := fun j => s.entry_setEntry p j { s.entry p with state := .active }
  have hmat : ∀ j, ((s.setEntry p { s.entry p with state := .active }).entry j).material = (s.entry j).material := fun j => by
    rw [hent]
    split
    · next hj => rw [hj]
    · rfl
  have hpend : ∀ j, ((s.setEntry p { s.entry p with state := .active }).entry j).state = .pending →
      (s.entry j).state = .pending := fun j hj => by
    rw [hent] at hj
    split at hj
    · cases hj
    · exact hj
  refine hc.keys_changed (fun _ => rfl) rfl (List.Sublist.refl _) (keysWellFormed_activated hp hnone hc.keys)
    (generationsHold_of_fewer hpend (fun j m hm => (hmat j).symm.trans hm) rfl hc.generations) (fun j m hm => ?_)
    (fun j g hcar _ hst => ?_) fun g block check _ ha => absurd hp (ha.2.2.1 p)
  · rw [← hc.counted j m ((hmat j).symm.trans hm), hent]
    split
    · next hj => rw [hj]
    · rfl
  · have hj : j ≠ p := fun hj => by
      rw [hj, hp] at hst
      rcases hst with hst | hst <;> cases hst
    rw [hent, if_neg hj]
    exact ⟨hcar, hst⟩

end

theorem entryKeeps_state (s : State) (p : Fin 4) (st : EntryState) (j : Fin 4) :
    EntryKeeps (s.entry j) ((s.setEntry p { s.entry p with state := st }).entry j) := by
  rw [State.entry_setEntry]
  split
  · next hj => exact .inl ⟨by rw [hj], fun l => by rw [hj]⟩
  · exact EntryKeeps.refl _

theorem answers_keyRoll (s : State) : Answers s (keyRoll s) := by
  unfold keyRoll
  split
  · exact answers_refuse ..
  split
  · exact answers_refuse ..
  next p hp =>
  have hpend := State.state_of_entryIn hp
  dsimp only
  split
  · next ha =>
    have hnone := (entryIn_eq_none_iff s .active).mp ha
    have hquiet : Quiet s (s.setEntry p { s.entry p with state := .active }) :=
      Quiet.of_keys (calm_setEntry ..) rfl rfl rfl (keysWellFormed_activated hpend hnone) (core_activated hpend hnone)
        (entryKeeps_state s p .active)
    exact answers_of_acts hquiet.acts rfl _ _
  · next a ha =>
    have hact := State.state_of_entryIn ha
    have hne : p ≠ a := fun h => by
      rw [h, hact] at hpend
      cases hpend
    have hpend' : ((s.turnAway a).entry p).state = .pending := by rw [entry_turnAway, if_neg hne]; exact hpend
    have hnone : s.keysWellFormed → ∀ j, ((s.turnAway a).entry j).state ≠ .active := fun hk j hj => by
      rw [entry_turnAway] at hj
      split at hj
      · exact (KeyEntry.turned_not_active _).1 hj
      · next hja => exact hja (hk.2 j a hj hact)
    obtain ⟨hframe, _⟩ := turnAway_frame s a
    have hquiet : Quiet s ((s.turnAway a).setEntry p { (s.turnAway a).entry p with state := .active }) :=
      Quiet.of_keys ((calm_turnAway s a).trans (calm_setEntry ..)) (by rw [hframe]; rfl) (by rw [hframe]; rfl)
        (by rw [hframe]; rfl)
        (fun hk => keysWellFormed_activated hpend' (hnone hk) (keysWellFormed_turnAway hact hk))
        (fun hc => core_activated hpend' (hnone hc.keys) (core_turnAway hact hc))
        fun j => (entryKeeps_turnAway hact j).trans (entryKeeps_state _ p .active j)
    exact answers_of_acts hquiet.acts (by rw [hframe]; rfl) _ _

end

end Sys2Proof.Machine
end


section
/-! PROOFS. RETIRE (R20, R21): a closed record leaves its slot, and the entry it was bound to loses a binding. -/

namespace Sys2Proof.Machine

/-! ## Closed records (R20) -/

section
variable {r : Record} (h : r.closed = true)
include h

theorem Record.not_engaged_of_closed : r.engaged = false := by
  obtain ⟨hstate, hdel, _⟩ := r.closed_iff.mp h
  have hno : ∀ st ∈ [PaymentState.approved, .declined, .rejected, .voided, .lapsed, .cancelled, .failed],
      st.isEngaging = false := by decide
  have hshut : ∀ d ∈ [DeliveryValue.none, .acked, .unconfirmed], d.isOpen = false := by decide
  rw [Record.engaged, hno _ hstate, hshut _ hdel]
  rfl

theorem Record.not_deferred_of_closed : r.state ≠ .deferred := fun hd => by
  obtain ⟨hstate, _, _⟩ := r.closed_iff.mp h
  rw [hd] at hstate
  revert hstate
  decide

theorem Record.not_waits_of_closed : ¬ r.waits := by
  rintro ⟨f, hf, hw⟩
  rcases (r.closed_iff.mp h).2.2 f hf with hs | hs <;> (rw [hs] at hw; cases hw)

/-- No job works for a closed record. -/
theorem not_agrees_of_closed {job : Job} {hd : Handle} {part : Nat} (ht : job.target = some (hd, part)) :
    ¬ job.agrees r := by
  obtain ⟨hstate, _, hsettled⟩ := r.closed_iff.mp h
  cases job with
  | capture hd' l g c =>
    rintro ⟨hc, _⟩
    rw [hc] at hstate
    revert hstate
    decide
  | followUp kind share hd' i l g c =>
    rintro ⟨b, e, _, _, _, hi, hw, _⟩
    rcases hsettled e (List.mem_of_getElem? hi) with hs | hs <;> (rw [hs] at hw; cases hw)
  | unwrap => cases ht

end

/-! ## A binding ends (R97, R98) -/

/-- An entry with one binding fewer; a DRAINING one without any is EMPTY. -/
def KeyEntry.unbound (e : KeyEntry) : KeyEntry :=
  if e.state = .draining ∧ e.bindings - 1 = 0 then KeyEntry.vacant else { e with bindings := e.bindings - 1 }

/-- The entry a bound record is bound to. -/
def State.boundEntry (s : State) (r : Record) : Option (Fin 4) :=
  if r.bound then r.binding.bind fun b => s.entryOf b.generation else none

theorem boundEntry_eq_some_iff {s : State} {r : Record} {i : Fin 4} :
    s.boundEntry r = some i ↔ r.bound = true ∧ ∃ b, r.binding = some b ∧ s.entryOf b.generation = some i := by
  rw [State.boundEntry]
  split
  · next h => rw [Option.bind_eq_some_iff]; exact (and_iff_right h).symm
  · next h => exact iff_of_false (by simp) fun hno => h hno.1

theorem KeyEntry.unbound_cases (e : KeyEntry) :
    e.unbound = KeyEntry.vacant ∧ e.state = .draining ∧ e.bindings - 1 = 0 ∨
      e.unbound = { e with bindings := e.bindings - 1 } := by
  unfold KeyEntry.unbound
  split
  · next h => exact .inl ⟨rfl, h⟩
  · exact .inr rfl

theorem entry_unbindRecord (s : State) (r : Record) (j : Fin 4) :
    (s.unbindRecord r).entry j = if s.boundEntry r = some j then (s.entry j).unbound else s.entry j := by
  have hkept : s.boundEntry r = none → s.entry j = if s.boundEntry r = some j then (s.entry j).unbound else s.entry j :=
    fun h => by rw [h, if_neg (by simp)]
  unfold State.unbindRecord
  split
  · next b hb =>
    split
    · next hbound =>
      have hfound : s.boundEntry r = s.entryOf b.generation := by
        rw [State.boundEntry, if_pos hbound, hb]
        rfl
      unfold State.unbindEntry
      split
      · next hi => exact hkept (hfound.trans hi)
      · next i hi =>
        have hplaced : (s.setEntry i (s.entry i).unbound).entry j =
            if s.boundEntry r = some j then (s.entry j).unbound else s.entry j := by
          rw [State.entry_setEntry, hfound, hi]
          split
          · next hj => rw [if_pos (congrArg some hj.symm), hj]
          · next hj => rw [if_neg fun hno => hj (Option.some.inj hno).symm]
        rw [← hplaced]
        unfold KeyEntry.unbound
        dsimp only
        split
        · rfl
        · rfl
    · next hbound => exact hkept (by rw [State.boundEntry, if_neg hbound])
  · next hb => exact hkept (by rw [State.boundEntry, hb]; split <;> rfl)

theorem highest_unbindRecord (s : State) (r : Record) : (s.unbindRecord r).keys.highest = s.keys.highest := by
  unfold State.unbindRecord
  split
  · split
    · unfold State.unbindEntry
      split
      · rfl
      · dsimp only
        split <;> rfl
    · rfl
  · rfl

theorem calm_unbindRecord (s : State) (r : Record) : Calm s (s.unbindRecord r) := by
  unfold State.unbindRecord
  split
  · split
    · exact calm_unbindEntry ..
    · exact Calm.refl s
  · exact Calm.refl s

/-! ## A record leaves its slot -/

/-- A closed record leaves its slot, which joins the free list at the tail; the entry it was bound to loses a
binding. -/
structure Leaves (s t : State) (x : Slot) (r : Record) : Prop where
  at_slot : s.recordAt x = some r
  closed : r.closed = true
  free : t.table.free = s.table.free ++ [x]
  cell : ∀ y, t.cell y = if y = x then { tag := (s.cell x).tag, record := none } else s.cell y
  list : ∀ k, (t.book k).list = if k = r.lane then (s.book r.lane).list.erase x else (s.book k).list
  total : ∀ k, (t.book k).total = (s.book k).total
  count : ∀ k, (t.book k).count = (s.book k).count
  engaged : ∀ k, (t.book k).engaged = (s.book k).engaged
  store : t.table.storeTotal = s.table.storeTotal
  waiting : t.table.waiting = s.table.waiting
  entries : ∀ j, t.entry j = if s.boundEntry r = some j then (s.entry j).unbound else s.entry j
  highest : t.keys.highest = s.keys.highest
  engine : t.engine = s.engine
  port : t.port = s.port

section
variable {s t : State} {x : Slot} {r : Record} (h : Leaves s t x r)
include h

theorem Leaves.recordAt (y : Slot) : t.recordAt y = if y = x then none else s.recordAt y := by
  rw [State.recordAt, h.cell]
  split <;> rfl

theorem Leaves.occupied {y : Slot} {p : Record} (hp : t.recordAt y = some p) : y ≠ x ∧ s.recordAt y = some p := by
  rw [h.recordAt] at hp
  split at hp
  · cases hp
  · next hy => exact ⟨hy, hp⟩

theorem Leaves.slots (hs : s.slotsPartitioned) : t.slotsPartitioned := by
  obtain ⟨h1, h2, h3, h4⟩ := hs
  have hx : x ∉ s.table.free := fun hmem => by
    rw [h2, h.at_slot] at hmem
    cases hmem
  refine ⟨?_, fun y => ?_, fun k => ?_, fun k y => ?_⟩
  · rw [h.free, List.nodup_append]
    refine ⟨h1, List.nodup_singleton x, fun a ha b hb hab => hx ?_⟩
    rw [← List.mem_singleton.mp hb, ← hab]
    exact ha
  · rw [h.free, List.mem_append, List.mem_singleton, h.recordAt, h2]
    split
    · next hy => exact iff_of_true (.inr hy) rfl
    · next hy => exact or_iff_left hy
  · rw [h.list]
    split
    · exact (h3 r.lane).erase x
    · exact h3 k
  · have hkept : (∃ p, t.recordAt y = some p ∧ p.lane = k) ↔ y ≠ x ∧ y ∈ (s.book k).list := by
      rw [h4, h.recordAt]
      split
      · next hy => exact iff_of_false (fun ⟨_, hno, _⟩ => by cases hno) fun hno => hno.1 hy
      · next hy => exact (and_iff_right hy).symm
    rw [h.list, hkept]
    split
    · next hk => rw [hk, (h3 r.lane).mem_erase_iff]
    · next hk =>
      refine (and_iff_right_of_imp fun hmem hy => hk ?_).symm
      obtain ⟨p, hp, hl⟩ := (h4 k y).mp hmem
      rw [hy, h.at_slot] at hp
      cases hp
      exact hl.symm

theorem Leaves.account (ha : s.accountHolds) : t.accountHolds := by
  have hon : ∀ k y, t.deferredAmount k y = s.deferredAmount k y ∧ t.deferredOne k y = s.deferredOne k y := fun k y => by
    by_cases hy : y = x
    · subst hy
      have hnone : t.recordAt y = none := by rw [h.recordAt, if_pos rfl]
      have hnot := amountOn_not_deferred (Record.not_deferred_of_closed h.closed) k
      rw [deferredAmount_eq h.at_slot, deferredOne_eq h.at_slot, hnot.1, hnot.2]
      simp only [State.deferredAmount, State.deferredOne, hnone, and_self]
    · have hy' : t.recordAt y = s.recordAt y := by rw [h.recordAt, if_neg hy]
      exact ⟨deferredAmount_congr hy' k, deferredOne_congr hy' k⟩
  obtain ⟨h1, h2, h3⟩ := ha
  refine ⟨fun k => ?_, fun k => ?_, ?_⟩
  · rw [h.total, h1]
    exact Finset.sum_congr rfl fun y _ => (hon k y).1.symm
  · rw [h.count, h2]
    exact Finset.sum_congr rfl fun y _ => (hon k y).2.symm
  · rw [h.store, h3]
    exact Finset.sum_congr rfl fun k _ => (h.total k).symm

/-- The record of a handle that a job works for, or that a lane is engaged with, is not the one that leaves. -/
theorem Leaves.current {hd : Handle} {p : Record} (hp : s.current? hd = some p) (hne : p ≠ r) :
    t.current? hd = some p := by
  obtain ⟨hat, htag⟩ := current_eq_some_iff.mp hp
  have hslot : slotOf hd ≠ x := fun heq => by
    rw [heq, h.at_slot] at hat
    cases hat
    exact hne rfl
  refine current_eq_some_iff.mpr ⟨by rw [h.recordAt, if_neg hslot]; exact hat, ?_⟩
  rw [h.cell, if_neg hslot]
  exact htag

theorem Leaves.engagements : EngagementsKept s t := by
  rintro - ⟨hhandle, hrecord⟩
  have hnot := Record.not_engaged_of_closed h.closed
  refine ⟨fun k hd he => ?_, fun y p hp he => ?_⟩
  · rw [h.engaged] at he
    obtain ⟨p, hp, hl, heng⟩ := hhandle k hd he
    refine ⟨p, h.current hp fun hpr => ?_, hl, heng⟩
    rw [hpr, hnot] at heng
    cases heng
  · obtain ⟨hy, hp'⟩ := h.occupied hp
    rw [h.engaged, hrecord y p hp' he, State.handleOf, State.handleOf, h.cell, if_neg hy]

theorem Leaves.moves (y : Slot) : SlotMoves s t y := by
  by_cases hy : y = x
  · subst hy
    have hnone : t.recordAt y = none := by rw [h.recordAt, if_pos rfl]
    have htag : (t.cell y).tag = (s.cell y).tag := by rw [h.cell, if_pos rfl]
    refine ⟨fun r p _ hp => ?_, fun _ => htag, fun _ p hp => ?_⟩
    · rw [hnone] at hp; cases hp
    · rw [hnone] at hp; cases hp
  · have hcell : t.cell y = s.cell y := by rw [h.cell, if_neg hy]
    exact SlotStays.moves ⟨by rw [hcell], by
      rw [State.recordAt, State.recordAt, hcell]
      exact optionRel_refl Kept.refl _⟩

/-! ### The key entries -/

theorem Leaves.entry_cases (j : Fin 4) :
    t.entry j = s.entry j ∨ s.boundEntry r = some j ∧ t.entry j = (s.entry j).unbound := by
  rw [h.entries]
  split
  · next hj => exact .inr ⟨hj, rfl⟩
  · exact .inl rfl

theorem Leaves.pending (j : Fin 4) (hj : (t.entry j).state = .pending) : (s.entry j).state = .pending := by
  rcases h.entry_cases j with ht | ⟨_, ht⟩
  · rwa [ht] at hj
  · rcases (s.entry j).unbound_cases with ⟨hu, _⟩ | hu
    · rw [ht, hu] at hj; cases hj
    · rw [ht, hu] at hj; exact hj

theorem Leaves.material (j : Fin 4) (m : KeyMaterial) (hm : (t.entry j).material = some m) :
    (s.entry j).material = some m := by
  rcases h.entry_cases j with ht | ⟨_, ht⟩
  · rwa [ht] at hm
  · rcases (s.entry j).unbound_cases with ⟨hu, _⟩ | hu
    · rw [ht, hu] at hm; cases hm
    · rw [ht, hu] at hm; exact hm

theorem Leaves.keepsEntry (j : Fin 4) : EntryKeeps (s.entry j) (t.entry j) := by
  rcases h.entry_cases j with ht | ⟨_, ht⟩
  · rw [ht]; exact EntryKeeps.refl _
  · rcases (s.entry j).unbound_cases with ⟨hu, _⟩ | hu
    · rw [ht, hu]; exact .inr rfl
    · rw [ht, hu]; exact .inl ⟨rfl, fun _ => le_rfl⟩

omit h in
/-- The entry a record is bound to holds a key. -/
theorem not_empty_of_boundEntry (hk : s.keysWellFormed) {j : Fin 4} (hj : s.boundEntry r = some j) :
    (s.entry j).state ≠ .empty := fun hempty => by
  obtain ⟨_, b, _, hb⟩ := boundEntry_eq_some_iff.mp hj
  have hcar := State.carries_of_entryOf hb
  rw [(hk.1 j).1 hempty, carries_iff] at hcar
  cases hcar

theorem Leaves.keys (hk : s.keysWellFormed) : t.keysWellFormed := by
  cases hb : s.boundEntry r with
  | none =>
    have hent : ∀ j, t.entry j = s.entry j := fun j => by rw [h.entries, hb, if_neg (by simp)]
    simpa only [State.keysWellFormed, hent] using hk
  | some i =>
    refine keysWellFormed_replaced (i := i) (e := (s.entry i).unbound) (fun j => ?_) ?_ (fun hact j hj hj' => hj ?_) hk
    · rw [h.entries, hb]
      split
      · next hj => rw [if_pos (Option.some.inj hj).symm, Option.some.inj hj]
      · next hj => rw [if_neg fun hno => hj (congrArg some hno.symm)]
    · rcases (s.entry i).unbound_cases with ⟨hu, _⟩ | hu
      · rw [hu]; exact wellFormed_vacant
      · rw [hu]
        have hne := not_empty_of_boundEntry hk hb
        exact wellFormed_state (hk.1 i) hne hne _
    · rcases (s.entry i).unbound_cases with ⟨hu, _⟩ | hu
      · rw [hu] at hact; cases hact
      · rw [hu] at hact; exact hk.2 j i hj' hact

/-! ### The bindings (R97) -/

theorem Leaves.boundCount (g : Nat) : t.boundCount g + (if r.boundTo g then 1 else 0) = s.boundCount g := by
  have hupdate := boundCount_update (s := s) (t := t) (x := x) (fun y hy => by rw [h.recordAt, if_neg hy]) g
  rw [h.at_slot, h.recordAt, if_pos rfl] at hupdate
  simpa only [Option.any_some, Option.any_none, Bool.false_eq_true, if_false, Nat.add_zero] using hupdate

theorem Leaves.counted (hc : s.Core) (i : Fin 4) (m : KeyMaterial) (hm : (t.entry i).material = some m) :
    (t.entry i).bindings = t.boundCount m.generation := by
  have hm' := h.material i m hm
  have hcount := h.boundCount m.generation
  have hcar : (s.entry i).carries m.generation = true := by rw [carries_iff, hm']; rfl
  have hfound := entryOf_eq_some_of_carries hc.generations hcar
  have hbound : r.boundTo m.generation = true ↔ s.boundEntry r = some i := by
    rw [boundEntry_eq_some_iff, Record.boundTo, Bool.and_eq_true, decide_eq_true_iff]
    refine and_congr_right fun _ => ⟨fun hb => ?_, fun ⟨b, hb, hi⟩ => ?_⟩
    · obtain ⟨b, hb, hg⟩ := Option.map_eq_some_iff.mp hb
      exact ⟨b, hb, by rw [hg]; exact hfound⟩
    · have hcar' := State.carries_of_entryOf hi
      rw [carries_iff, hm', Option.map_some] at hcar'
      rw [hb]
      exact hcar'.symm
  rw [← hc.counted i m hm'] at hcount
  rcases h.entry_cases i with ht | ⟨hi, ht⟩
  · by_cases hi : s.boundEntry r = some i
    · have ht' := h.entries i
      rw [if_pos hi] at ht'
      rcases (s.entry i).unbound_cases with ⟨hu, _⟩ | hu
      · rw [ht', hu] at hm; cases hm
      · rw [if_pos (hbound.mpr hi)] at hcount
        rw [ht', hu]
        change (s.entry i).bindings - 1 = _
        omega
    · rw [if_neg fun hno => hi (hbound.mp hno)] at hcount
      rw [ht]
      omega
  · rcases (s.entry i).unbound_cases with ⟨hu, _⟩ | hu
    · rw [ht, hu] at hm; cases hm
    · rw [if_pos (hbound.mpr hi)] at hcount
      rw [ht, hu]
      change (s.entry i).bindings - 1 = _
      omega

omit h in
/-- A record bound to a generation counts. -/
theorem boundCount_pos {y : Slot} {p : Record} {b : Binding} (hp : t.recordAt y = some p) (hb : p.bound = true)
    (hbind : p.binding = some b) : 0 < t.boundCount b.generation := by
  refine List.length_pos_of_mem (a := y) (List.mem_filter.mpr ⟨List.mem_finRange y, ?_⟩)
  rw [hp, Option.any_some, Record.boundTo, hb, hbind]
  simp

theorem Leaves.stillBound (hc : s.Core) {y : Slot} {p : Record} {b : Binding} (hp : t.recordAt y = some p)
    (hb : p.bound = true) (hbind : p.binding = some b) :
    ∃ i, (t.entry i).carries b.generation = true ∧ ((t.entry i).state = .active ∨ (t.entry i).state = .draining) := by
  obtain ⟨_, hp'⟩ := h.occupied hp
  obtain ⟨i, hcar, hst⟩ := hc.bound y p b hp' hb hbind
  refine ⟨i, ?_⟩
  rcases h.entry_cases i with ht | ⟨hi, ht⟩
  · rw [ht]; exact ⟨hcar, hst⟩
  · rcases (s.entry i).unbound_cases with ⟨_, _, hzero⟩ | hu
    · obtain ⟨hrb, b', hb', hi'⟩ := boundEntry_eq_some_iff.mp hi
      have hcar' := State.carries_of_entryOf hi'
      have hpos := boundCount_pos hp hb hbind
      have hcount := h.boundCount b.generation
      rw [carries_iff] at hcar hcar'
      have hg : b'.generation = b.generation := Option.some.inj (hcar'.symm.trans hcar)
      obtain ⟨m, hm, hmg⟩ := Option.map_eq_some_iff.mp hcar
      have hbindings := hc.counted i m hm
      rw [hmg] at hbindings
      have hto : r.boundTo b.generation = true := by
        rw [Record.boundTo, hrb, hb', Option.map_some, hg]
        simp
      rw [if_pos hto] at hcount
      omega
    · rw [ht, hu]; exact ⟨hcar, hst⟩

theorem Leaves.core (hc : s.Core) : t.Core := by
  have hjobs : t.jobs = s.jobs := by rw [State.jobs, State.jobs, h.engine]
  refine ⟨fun y p hp => hc.sound y p (h.occupied hp).2, h.keys hc.keys,
    generationsHold_of_fewer h.pending h.material h.highest hc.generations, h.counted hc,
    fun y p b hp => h.stillBound hc hp, fun job hjob => ⟨fun hd part ht => ?_, fun g block check heq => ?_⟩,
    hjobs ▸ hc.targets, h.waiting ▸ hc.ascending, fun y => ?_⟩
  · obtain ⟨p, hp, ha⟩ := (hc.jobs job (hjobs ▸ hjob)).record hd part ht
    exact ⟨p, h.current hp fun hpr => not_agrees_of_closed h.closed ht (hpr ▸ ha), ha⟩
  · refine awaits_of_fewer h.pending (fun j hj => ?_) h.highest ((hc.jobs job (hjobs ▸ hjob)).keys g block check heq)
    rcases h.entry_cases j with ht | ⟨hi, _⟩
    · rw [ht]; exact hj
    · exact absurd hj (not_empty_of_boundEntry hc.keys hi)
  · rw [h.waiting, hc.waits, h.recordAt]
    split
    · next hy =>
      rw [hy, h.at_slot]
      refine iff_of_false ?_ fun ⟨_, hno, _⟩ => by cases hno
      rintro ⟨p, hp, hw⟩
      cases hp
      exact Record.not_waits_of_closed h.closed hw
    · rfl

theorem Leaves.acts (hcalm : Calm s t) : Acts s t := by
  have hjobs : t.jobs = s.jobs := by rw [State.jobs, State.jobs, h.engine]
  exact ⟨hcalm, ⟨h.slots, fun _ => h.account, fun hs y p hp => hs y p (h.occupied hp).2, h.keys, fun _ => h.core,
    portHolds_of_kept (fun _ _ _ hj => hjobs ▸ hj) (by rw [h.port])⟩, fun _ => h.engagements,
    counts_of_same (by rw [h.engine]) h.waiting, fun _ => h.moves, h.keepsEntry⟩

end

/-! ## RETIRE (R21) -/

theorem leaves_retired {s : State} {x : Slot} {r : Record} (hr : s.recordAt x = some r) (hc : r.closed = true) :
    Leaves s ((s.unbindRecord r).freeSlot x r.lane) x r := by
  have hframe := unbindRecord_frame s r
  have hbook : ∀ k, (s.unbindRecord r).book k = s.book k := fun k => by rw [hframe]; rfl
  have hcell : ∀ y, (s.unbindRecord r).cell y = s.cell y := fun y => by rw [hframe]; rfl
  have hkept : ∀ {α : Type} (g : LaneBook → α), (∀ b l, g { b with list := l } = g b) →
      ∀ k, g (((s.unbindRecord r).freeSlot x r.lane).book k) = g (s.book k) := fun g hg k => by
    rw [book_freeSlot, hbook, hbook]
    split
    · next hk => rw [hg, hk]
    · rfl
  refine ⟨hr, hc, ?_, fun y => ?_, fun k => ?_, hkept LaneBook.total fun _ _ => rfl, hkept LaneBook.count fun _ _ => rfl,
    hkept LaneBook.engaged fun _ _ => rfl, ?_, ?_, fun j => entry_unbindRecord s r j, highest_unbindRecord s r, ?_, ?_⟩
  · rw [freeSlot_frame, hframe]
  · rw [cell_freeSlot, hcell, hcell]
  · rw [book_freeSlot, hbook, hbook]
    split <;> rfl
  · rw [freeSlot_frame, hframe]
  · rw [freeSlot_frame, hframe]
  · rw [freeSlot_frame, hframe]
  · rw [freeSlot_frame, hframe]

theorem answers_retire (h : Handle) (s : State) : Answers s (retire h s) := by
  refine answers_withRecord fun x r hr => ?_
  split
  · next hc =>
    have hleaves := leaves_retired hr hc
    exact answers_of_acts (hleaves.acts ((calm_unbindRecord s r).trans (Calm.of_same rfl rfl rfl rfl rfl rfl rfl)))
      hleaves.port _ _
  · exact answers_refuse ..

end Sys2Proof.Machine
end


section
/-! PROOFS. What each request answers: reads change nothing, a settlement or a cancellation is one turn, a
setting keeps to its range, a lane keeps what a lane keeps. -/

namespace Sys2Proof.Machine

/-! ## Reads (R22 to R25, R36, R71, R104, R135, R181) -/

theorem answers_peek (h : Handle) (s : State) : Answers s (peek h s) := by
  refine answers_withRecord fun x r _ => ?_
  split
  · exact answers_unchanged ..
  · exact answers_refuse ..

theorem answers_readRecord (h : Handle) (s : State) : Answers s (readRecord h s) :=
  answers_withRecord fun _ _ _ => answers_unchanged ..

theorem answers_found (s : State) (slots : List Slot) : Answers s (found s slots) := by
  cases slots with
  | nil => exact answers_refuse ..
  | cons => exact answers_unchanged ..

theorem answers_find (form lane : Byte) (payment : Half) (till : Word) (s : State) :
    Answers s (find form lane payment till s) := by
  unfold find
  split
  · split
    · exact answers_refuse ..
    · split
      · exact answers_refuse ..
      · exact answers_found ..
  · split
    · exact answers_found ..
    · exact answers_refuse ..

theorem answers_laneList (lane : Byte) (start : Half) (s : State) : Answers s (laneList lane start s) := by
  unfold laneList
  split
  · exact answers_refuse ..
  · split
    · exact answers_refuse ..
    · exact answers_unchanged ..

theorem answers_keyStatus (present lane : Byte) (s : State) : Answers s (keyStatus present lane s) := by
  unfold keyStatus
  split
  · split
    · exact answers_unchanged ..
    · exact answers_refuse ..
  · exact answers_unchanged ..
  · exact answers_refuse ..

theorem answers_laneStatus (lane : Byte) (s : State) : Answers s (laneStatus lane s) := by
  unfold laneStatus
  split
  · exact answers_refuse ..
  · exact answers_unchanged ..

/-! ## Attention, the case and the start (R164, R175, R176, R182) -/

theorem port_clearCause (s : State) (c : Cause) : (clearCause s c).port = s.port := by
  cases c <;> rfl

theorem answers_nextAttention (s : State) : Answers s (nextAttention s) := by
  unfold nextAttention
  split
  · exact answers_unchanged ..
  · exact answers_of_acts (quiet_clearCause ..).acts (port_clearCause ..) _ _

/-- A request that changes what lies outside the table, the keys, the engine and the port. -/
theorem answers_of_calm {s t : State} (hc : Calm s t) (htable : t.table = s.table) (hkeys : t.keys = s.keys)
    (hengine : t.engine = s.engine) (hport : t.port = s.port) (status : Status) (body : List Byte) :
    Answers s (.answer t status body) :=
  answers_of_acts (Quiet.of_calm hc htable hkeys hengine hport).acts hport status body

theorem answers_attentionMask (classes : Byte) (lanes : Half) (s : State) : Answers s (attentionMask classes lanes s) :=
  answers_of_calm (s := s) (t := s.modAttention fun a => { a with classes := classes, laneMask := lanes })
    (Calm.of_same rfl rfl rfl rfl rfl rfl rfl) rfl rfl rfl rfl _ _

theorem answers_caseRead (s : State) : Answers s (caseRead s) :=
  answers_of_calm (s := s) (t := { s with caseMon := { s.caseMon with latch := none, registered := s.caseMon.current, erased := false } })
    (Calm.of_same rfl rfl rfl rfl rfl rfl rfl) rfl rfl rfl rfl _ _

theorem answers_startRead (s : State) : Answers s (startRead s) :=
  answers_of_calm (s := s) (t := { s with startUnread := false })
    (Calm.of_same rfl rfl rfl rfl rfl rfl rfl) rfl rfl rfl rfl _ _

/-! ## Payments (R35, R39, R41, R63, R64) -/

theorem port_queueEndFrame (s : State) (x : Slot) (kind : EndFrameKind) (frame : Record → PartFrame) :
    (s.queueEndFrame x kind frame).port = s.port := by rw [queueEndFrame_frame]

theorem port_cancellation {reason : CancelReason} {x : Slot} {r : Record} {s t : State}
    (h : cancellation reason x r s = some t) : t.port = s.port := by
  unfold cancellation at h
  split at h
  · cases h; exact port_queueEndFrame ..
  · cases h; exact port_queueEndFrame ..
  · cases h
    split
    · unfold State.cancelCapturing
      dsimp only
      split
      · exact port_queueEndFrame ..
      · rfl
    · rfl
  all_goals cases h

theorem answers_abandon (h : Handle) (s : State) : Answers s (abandon h s) := by
  refine answers_withRecord fun x r hr => ?_
  split
  · next t ht => exact answers_of_acts (acts_cancellation hr ht) (port_cancellation ht) _ _
  · exact answers_refuse ..

theorem answers_takePayload (h : Handle) (s : State) : Answers s (takePayload h s) := by
  refine answers_withRecord fun x r hr => ?_
  split
  · next hst =>
    rw [modRecord_eq hr]
    have hacts : Acts s (s.withRecordAt x { r with
        state := .released
        stateTimer := some { remaining := s.timers.outcome, action := some s.timers.outcomeAction } }) :=
      (turns_released hst _).acts hr (by rw [hst]; rfl) (fun hc => (by rw [hst] at hc; cases hc))
        (fun hd => hd.elim (fun h => (by cases h)) fun h => (by rw [hst] at h; cases h)) (by rw [hst]; rfl)
    exact answers_of_acts hacts rfl _ _
  · exact answers_refuse ..

theorem answers_settleOnline {s : State} {x : Slot} {r : Record} (hr : s.recordAt x = some r) (hst : r.state = .released)
    (o : PostedOutcome) {state : PaymentState} (hstate : state = .approved ∨ state = .declined) :
    Answers s (settleOnline x o state s) :=
  answers_of_acts (acts_settled hr hst o hstate o.approval) (port_queueEndFrame ..) _ _

theorem answers_settle (h : Handle) (result : Byte) (approval : Code6) (decline : Byte) (s : State) :
    Answers s (settle h result approval decline s) := by
  refine answers_withRecord fun x r hr => ?_
  split
  · exact answers_refuse ..
  next res _ =>
  split
  · exact answers_refuse ..
  split
  · exact answers_refuse ..
  split
  · exact answers_refuse ..
  next hst =>
  have hst := not_not.mp hst
  split
  · exact answers_settleOnline hr hst _ (.inl rfl)
  · exact answers_settleOnline hr hst _ (.inr rfl)
  · split
    · exact answers_unchanged ..
    · exact answers_of_acts (acts_deferred hr hst _ _ _) (port_queueEndFrame ..) _ _

theorem answers_confirm (h : Handle) (present : Byte) (code : Code6) (s : State) :
    Answers s (confirm h present code s) := by
  refine answers_withRecord fun x r hr => ?_
  split
  · exact answers_refuse ..
  next new _ =>
  split
  · exact answers_refuse ..
  split
  · exact answers_refuse ..
  next hst =>
  have hst := not_not.mp hst
  exact answers_of_acts (acts_leaveDeferred hr hst (turns_confirm hst new) (.inl rfl)) rfl _ _

theorem answers_reject (h : Handle) (s : State) : Answers s (reject h s) := by
  refine answers_withRecord fun x r hr => ?_
  split
  · exact answers_refuse ..
  split
  · exact answers_refuse ..
  next hst =>
  split
  · exact answers_refuse ..
  have hst := not_not.mp hst
  exact answers_of_acts (acts_leaveDeferred hr hst (turns_reject hst) (.inr rfl)) rfl _ _

/-! ## Settings (R50, R69, R134) -/

theorem taken_inRange {present : Byte} {value old low high : Nat} (h : Given present value low high)
    (hold : low ≤ old ∧ old ≤ high) :
    low ≤ (if present = 1 then value else old) ∧ (if present = 1 then value else old) ≤ high := by
  split
  · next hp =>
    refine h.elim (fun h0 => ?_) fun hg => hg.2
    rw [hp] at h0
    cases h0
  · exact hold

theorem limitsTaken_inRange {fields : Vector OptWord 8} {c : Limits} (h : LimitsGiven fields) (hc : c.inRange) :
    (limitsTaken fields c).inRange := by
  obtain ⟨g0, g1, g2, g3, g4, g5, g6, g7⟩ := h
  obtain ⟨h0, h1, h2, h3, h4, h4', h5, h5', h6, h7, h7'⟩ := hc
  have t4 := taken_inRange g4 ⟨h4, h4'⟩
  have t5 := taken_inRange g5 ⟨h5, h5'⟩
  have t7 := taken_inRange g7 ⟨h7, h7'⟩
  exact ⟨(taken_inRange g0 ⟨Nat.zero_le _, h0⟩).2, (taken_inRange g1 ⟨Nat.zero_le _, h1⟩).2,
    (taken_inRange g2 ⟨Nat.zero_le _, h2⟩).2, (taken_inRange g3 ⟨Nat.zero_le _, h3⟩).2, t4.1, t4.2, t5.1, t5.2,
    (taken_inRange g6 ⟨Nat.zero_le _, h6⟩).2, t7.1, t7.2⟩

theorem limitsOf_inRange {fields : Vector OptWord 8} {c d : Limits} (h : limitsOf fields c = some d) (hc : c.inRange) :
    d.inRange := by
  by_cases hg : LimitsGiven fields
  · rw [limitsOf_given hg] at h
    cases h
    exact limitsTaken_inRange hg hc
  · rw [limitsOf_not_given hg] at h
    cases h

theorem quiet_applyLowMark (s : State) : Quiet s s.applyLowMark := by
  unfold State.applyLowMark
  split
  · exact quiet_lowMark s true
  · split
    · exact (quiet_lowMark s false).trans (Quiet.of_calm (Calm.of_same rfl rfl rfl rfl rfl rfl rfl) rfl rfl rfl rfl)
    · exact Quiet.refl s

theorem answers_setLimits (fields : Vector OptWord 8) (s : State) : Answers s (setLimits fields s) := by
  unfold setLimits
  split
  · exact answers_refuse ..
  next c hc =>
  have hcalm : Calm s { s with limits := c } :=
    ⟨rfl, fun _ h => h, fun h => h, limitsOf_inRange hc, fun h => h, fun _ => Lane.Keeps.refl _⟩
  have hquiet : Quiet s { s with limits := c } := Quiet.of_calm hcalm rfl rfl rfl rfl
  dsimp only
  split
  · exact answers_of_acts (hquiet.trans (quiet_applyLowMark _)).acts (by rw [applyLowMark_eq]) _ _
  · exact answers_of_acts hquiet.acts rfl _ _

theorem answers_setTimers (present outcome : Half) (delivery life a b : Byte) (s : State) :
    Answers s (setTimers present outcome delivery life a b s) := by
  unfold setTimers
  split
  · next t ht =>
    have hrange : t.inRange := by
      rw [timersOf_eq] at ht
      split at ht
      · next h =>
        cases ht
        obtain ⟨h1, h2, h3, h4, h5, h6, h7, h8, _⟩ := h
        exact ⟨h1, h2, h3, h4, h5, h6, h7, h8⟩
      · cases ht
    have hcalm : Calm s { s with timers := t } :=
      ⟨rfl, fun _ h => h, fun h => h, fun h => h, fun _ => hrange, fun _ => Lane.Keeps.refl _⟩
    exact answers_of_calm hcalm rfl rfl rfl rfl _ _
  · exact answers_refuse ..

theorem settingsTaken_inRange {fields : Vector OptByte 16} {c : LaneSettings} (h : SettingsGiven fields c)
    (hc : c.inRange) : (settingsTaken fields c).inRange := by
  obtain ⟨_, g1, _, g3, _, _, _, hmarks⟩ := h
  obtain ⟨h1, h1', _, h3, h3'⟩ := hc
  have t1 := taken_inRange g1 ⟨h1, h1'⟩
  have t3 := taken_inRange g3 ⟨h3, h3'⟩
  exact ⟨t1.1, t1.2, hmarks, t3.1, t3.2⟩

theorem settingsOf_inRange {fields : Vector OptByte 16} {c d : LaneSettings} (h : settingsOf fields c = some d)
    (hc : c.inRange) : d.inRange := by
  by_cases hg : SettingsGiven fields c
  · rw [settingsOf_given fields hg] at h
    cases h
    exact settingsTaken_inRange hg hc
  · rw [settingsOf_not_given fields hg] at h
    cases h

/-! ## Lanes (R133, R134, R159) -/

/-- A request over a lane that exists. -/
theorem answers_withLane {lane : Byte} {f : LaneId → State → Reply} {s : State} (hf : ∀ l, Answers s (f l s)) :
    Answers s (withLane lane f s) := by
  unfold withLane
  split
  · exact answers_refuse ..
  · split
    · exact answers_refuse ..
    · exact hf _

theorem port_holdLane (s : State) (l : LaneId) : (s.holdLane l).port = s.port := by
  unfold State.holdLane
  split
  · rw [State.modLane_port, leaveReady_frame]
  · rfl

theorem answers_laneHold (lane : Byte) (s : State) : Answers s (laneHold lane s) := by
  refine answers_withLane fun l => ?_
  dsimp only
  split
  · exact answers_unchanged ..
  · exact answers_of_acts (acts_holdLane ..) (port_holdLane ..) _ _

theorem answers_laneOpen (lane : Byte) (s : State) : Answers s (laneOpen lane s) := by
  refine answers_withLane fun l => ?_
  dsimp only
  split
  · next h => exact answers_of_acts (quiet_modLane s (Lane.keeps_open h)).acts rfl _ _
  · exact answers_refuse ..

theorem answers_laneSetup (lane : Byte) (settings : Vector OptByte 16) (s : State) :
    Answers s (laneSetup lane settings s) := by
  refine answers_withLane fun l => ?_
  split
  · exact answers_refuse ..
  next h =>
  split
  · exact answers_refuse ..
  next c hc =>
  exact answers_of_acts (quiet_modLane s (Lane.keeps_setup (not_not.mp h) (settingsOf_inRange hc))).acts rfl _ _

theorem answers_laneClear (lane : Byte) (s : State) : Answers s (laneClear lane s) :=
  answers_withLane fun _ => answers_of_acts (quiet_modLane s (Lane.keeps_cleared _)).acts rfl _ _

/-! ## COMMISSION (R179) -/

theorem commissioned_frame_of (s : State) (c : Commissioning) :
    s.commissioned c =
      { s.withCommission c with
        supply := (s.commissioned c).supply, attention := (s.commissioned c).attention } ∧
      (s.commissioned c).attention.drained = s.attention.drained ∧
      (s.commissioned c).attention.warnings = s.attention.warnings := by
  unfold State.commissioned State.compareSupply
  dsimp only
  split
  · split
    · split
      · exact ⟨rfl, rfl, rfl⟩
      · exact ⟨rfl, rfl, rfl⟩
    · exact ⟨rfl, rfl, rfl⟩
  · exact ⟨rfl, rfl, rfl⟩

theorem calm_commissioned {s : State} (h : s.commission = none) (c : Commissioning) : Calm s (s.commissioned c) := by
  obtain ⟨hframe, hd, hw⟩ := commissioned_frame_of s c
  refine ⟨by rw [hframe]; rfl, fun c' hc => (by rw [h] at hc; cases hc), fun hs => ?_, fun hs => ?_, fun hs => ?_, fun l => ?_⟩
  · rw [State.keysCausesOrdered, hd, hw]; exact hs
  · rw [hframe]; exact hs
  · rw [hframe]; exact hs
  · have hlane : (s.commissioned c).lane l = startLane (startMode (some c) l) (look s.lanes l).holdIn := by
      rw [hframe]
      exact lane_startLanes ..
    rw [hlane]
    exact Lane.keeps_start _ (startMode_ne_ready _ _) _

theorem answers_commission (chain store : Word) (currency : Half) (exponent : Byte) (key : Block)
    (fitted erasure level : Byte) (s : State) :
    Answers s (commission chain store currency exponent key fitted erasure level s) := by
  unfold commission
  split
  · exact answers_refuse ..
  next hnone =>
  split
  · exact answers_refuse ..
  next c _ =>
  split
  · exact answers_refuse ..
  obtain ⟨hframe, _⟩ := commissioned_frame_of s c
  exact answers_of_calm (calm_commissioned (Option.not_isSome_iff_eq_none.mp hnone) c) (by rw [hframe]; rfl)
    (by rw [hframe]; rfl) (by rw [hframe]; rfl) (by rw [hframe]; rfl) _ _

/-! ## Every request but KEY LOAD -/

theorem answers_handlerOf {i : Instr} {f : State → Reply} (h : handlerOf i = some f)
    (hload : ∀ tag generation block check, i ≠ .keyLoad tag generation block check) (s : State) : Answers s (f s) := by
  cases i with
  | arm => cases h; exact answers_arm ..
  | abandon => cases h; exact answers_abandon ..
  | take => cases h; exact answers_takePayload ..
  | peek => cases h; exact answers_peek ..
  | settle => cases h; exact answers_settle ..
  | confirm => cases h; exact answers_confirm ..
  | reject => cases h; exact answers_reject ..
  | adjust => cases h; exact answers_adjust ..
  | void => cases h; exact answers_voidPayment ..
  | collect => cases h; exact answers_collect ..
  | retire => cases h; exact answers_retire ..
  | readRecord => cases h; exact answers_readRecord ..
  | find => cases h; exact answers_find ..
  | laneList => cases h; exact answers_laneList ..
  | setLimits => cases h; exact answers_setLimits ..
  | setTimers => cases h; exact answers_setTimers ..
  | keyLoad tag generation block check => exact absurd rfl (hload tag generation block check)
  | keyRoll => cases h; exact answers_keyRoll ..
  | keyDrop => cases h; exact answers_keyDrop ..
  | keyStatus => cases h; exact answers_keyStatus ..
  | laneHold => cases h; exact answers_laneHold ..
  | laneOpen => cases h; exact answers_laneOpen ..
  | laneSetup => cases h; exact answers_laneSetup ..
  | laneStatus => cases h; exact answers_laneStatus ..
  | laneClear => cases h; exact answers_laneClear ..
  | nextAttention => cases h; exact answers_nextAttention ..
  | attentionMask => cases h; exact answers_attentionMask ..
  | caseRead => cases h; exact answers_caseRead ..
  | startRead => cases h; exact answers_startRead ..
  | commission => cases h; exact answers_commission ..
  | tableStatus | exposureRead | restart => cases h; exact answers_unchanged ..
  | _ => cases h

end Sys2Proof.Machine
end


section
/-! PROOFS. Erasure (R105, R166, R167) keeps what every act keeps: its records are well formed again, its
engagements end or go on with their end frames, and neither a job nor a key is left. -/

namespace Sys2Proof.Machine

/-! ## A record erased -/

theorem status_erase (f : FollowUp) : f.erase.status ≠ .waiting ∧ f.erase.kind = f.kind := by
  unfold FollowUp.erase
  split
  · exact ⟨by simp, rfl⟩
  · next h => exact ⟨fun hw => h (.inl hw), rfl⟩

theorem state_erase (r : Record) :
    (r.state = .armed ∧ r.erase.state = .cancelled) ∨ (r.state = .capturing ∧ r.erase.state = .failed) ∨
      (r.state ≠ .armed ∧ r.state ≠ .capturing ∧ r.erase.state = r.state) := by
  by_cases ha : r.state = .armed
  · exact .inl ⟨ha, by rw [erase_armed ha]⟩
  · by_cases hc : r.state = .capturing
    · exact .inr (.inl ⟨hc, by rw [erase_capturing hc]⟩)
    · exact .inr (.inr ⟨ha, hc, by rw [erase_other ha hc]; rfl⟩)

/-- Without its binding, its card block and its pending follow-ups a record is well formed as before. -/
theorem wellFormed_stripped {r : Record} (h : r.WellFormed) : r.stripped.WellFormed :=
  { h with
    card := fun hc => (by cases hc)
    bound := fun hb => (by cases hb)
    followUps := fun hne => h.followUps fun hnil => hne (by rw [Record.stripped, hnil]; rfl)
    adjusts := by
      have hkinds : (r.followUps.map FollowUp.erase).filter (fun f => f.kind = .adjust) =
          (r.followUps.filter fun f => f.kind = .adjust).map FollowUp.erase := by
        rw [List.filter_map]
        refine congrArg _ (List.filter_congr fun f _ => ?_)
        rw [Function.comp_apply, (status_erase f).2]
      have hcount : r.stripped.adjustCount = r.adjustCount := by
        rw [Record.adjustCount, Record.stripped, hkinds, List.length_map]
        rfl
      rw [hcount]
      exact h.adjusts
    reversal := by
      rintro ⟨f, hf, hk⟩
      obtain ⟨e, he, rfl⟩ := List.mem_map.mp hf
      exact h.reversal ⟨e, he, (status_erase e).2 ▸ hk⟩
    reversalLast := fun f hf => by
      rw [Record.stripped, ← List.map_dropLast] at hf
      obtain ⟨e, he, rfl⟩ := List.mem_map.mp hf
      rw [(status_erase e).2]
      exact h.reversalLast e he }

theorem turns_erased_armed {r : Record} (h : r.state = .armed) :
    Turns r { r with state := .cancelled, endReason := some .keysLost, stateTimer := none, ended := true } :=
  turns_armed_closed h rfl (.inl rfl) rfl

theorem turns_erased_capturing {r : Record} (h : r.state = .capturing) :
    Turns r { r with
      state := .failed, endReason := some .keysLost, cancelPending := none, stateTimer := none, card := none
      ended := true } := by
  refine turns_closed (.inr (.inl h)) rfl (.inr rfl) rfl (fun _ => rfl) (fun hw => ?_) fun _ => rfl
  exact hw.payload_none (by rw [h]; rfl)

/-- A CAPTURING record has no state timer (R19). -/
theorem Record.WellFormed.timer_none_of_capturing {r : Record} (hw : r.WellFormed) (h : r.state = .capturing) :
    r.stateTimer = none :=
  Option.not_isSome_iff_eq_none.mp fun ht => by
    have := hw.stateTimer ht
    rw [h] at this
    cases this

theorem wellFormed_erase {r : Record} (hw : r.WellFormed) : r.erase.WellFormed := by
  have hs := wellFormed_stripped hw
  by_cases ha : r.state = .armed
  · rw [erase_armed ha]
    exact (turns_erased_armed (r := r.stripped) ha).passes.wellFormed hs
  · by_cases hc : r.state = .capturing
    · have htimer : r.stripped.stateTimer = none := hw.timer_none_of_capturing hc
      have hwell := (turns_erased_capturing (r := r.stripped) hc).passes.wellFormed hs
      rw [erase_capturing hc]
      rw [← htimer] at hwell
      exact hwell
    · rw [erase_other ha hc]
      exact hs

/-- What an erasure makes of a record. -/
structure Erased (r q : Record) : Prop where
  lane : q.lane = r.lane
  payment : q.payment = r.payment
  till : q.till = r.till
  original : q.original = r.original
  current : q.current = r.current
  may : r.state.mayBecome q.state = true
  deferred : q.state = .deferred ↔ r.state = .deferred
  armed : q.state ≠ .armed
  bound : q.bound = false
  settled : ∀ f ∈ q.followUps, f.status ≠ .waiting
  wellFormed : r.WellFormed → q.WellFormed

theorem erased_of_stripped {r q : Record} (hsame : q = { r.stripped with
      state := q.state, endReason := q.endReason, cancelPending := q.cancelPending, stateTimer := q.stateTimer
      ended := q.ended })
    (hmay : r.state.mayBecome q.state = true) (hdef : q.state = .deferred ↔ r.state = .deferred)
    (harmed : q.state ≠ .armed) (hw : r.WellFormed → q.WellFormed) : Erased r q := by
  refine ⟨by rw [hsame]; rfl, by rw [hsame]; rfl, by rw [hsame]; rfl, by rw [hsame]; rfl, by rw [hsame]; rfl, hmay, hdef, harmed,
    by rw [hsame]; rfl, fun f hf => ?_, hw⟩
  rw [hsame] at hf
  obtain ⟨e, _, rfl⟩ := List.mem_map.mp hf
  exact (status_erase e).1

theorem erased_erase (r : Record) : Erased r r.erase := by
  have hw := fun h : r.WellFormed => wellFormed_erase h
  have hstate := state_erase r
  have hdeferred : r.erase.state = .deferred ↔ r.state = .deferred := by
    rcases hstate with ⟨h, h'⟩ | ⟨h, h'⟩ | ⟨_, _, h'⟩
    · rw [h, h']; decide
    · rw [h, h']; decide
    · rw [h']
  have hmay : r.state.mayBecome r.erase.state = true := by
    rcases hstate with ⟨h, h'⟩ | ⟨h, h'⟩ | ⟨_, _, h'⟩
    · rw [h, h']; rfl
    · rw [h, h']; rfl
    · rw [h']; exact mayBecome_refl _
  have harmed : r.erase.state ≠ .armed := by
    rcases hstate with ⟨_, h'⟩ | ⟨_, h'⟩ | ⟨h, _, h'⟩
    · rw [h']; decide
    · rw [h']; decide
    · rw [h']; exact h
  refine erased_of_stripped ?_ hmay hdeferred harmed hw
  by_cases ha : r.state = .armed
  · rw [erase_armed ha]
  · by_cases hc : r.state = .capturing
    · rw [erase_capturing hc]
    · rw [erase_other ha hc]

/-- With the end frame of an ended payment the record is erased as well. -/
theorem Erased.framed {r q : Record} (h : Erased r q) (hq : q.state.isEngaging = false) (mode : LaneMode)
    (kind : EndFrameKind) : Erased r (q.framed mode kind) := by
  have hp := passes_framed mode kind hq
  have hf := framed_eq q mode kind
  exact ⟨hp.lane.trans h.lane, hp.payment.trans h.payment, hp.till.trans h.till, hp.original.trans h.original,
    by rw [hf]; exact h.current, by rw [hf]; exact h.may, by rw [hf]; exact h.deferred, by rw [hf]; exact h.armed,
    hp.bound.trans h.bound, by rw [hp.followUps]; exact h.settled, fun hw => hp.wellFormed (h.wellFormed hw)⟩

/-! ## The state after an erasure -/

section
variable (s : State)

theorem erased_recordAt {x : Slot} {r : Record} (hr : s.recordAt x = some r) :
    ∃ q, (erasure s).recordAt x = some q ∧ Erased r q := by
  obtain ⟨hin, hout⟩ := recordAt_erasure_of hr
  by_cases hx : x ∈ s.erasureEnds
  · refine ⟨_, hin hx, (erased_erase r).framed ?_ _ _⟩
    rcases state_of_mem_erasureEnds hx hr with h | h
    · rw [erase_armed h]; rfl
    · rw [erase_capturing h]; rfl
  · exact ⟨_, hout hx, erased_erase r⟩

theorem erased_occupied {x : Slot} {q : Record} (hq : (erasure s).recordAt x = some q) :
    ∃ r, s.recordAt x = some r ∧ Erased r q := by
  cases hr : s.recordAt x with
  | none =>
    rw [recordAt_erasure, recordAt_erasedClosed, hr] at hq
    cases hq
  | some r =>
    obtain ⟨q', hq', he⟩ := erased_recordAt s hr
    cases hq.symm.trans hq'
    exact ⟨r, rfl, he⟩

theorem erased_free {x : Slot} : (erasure s).recordAt x = none ↔ s.recordAt x = none := by
  constructor
  · intro h
    cases hr : s.recordAt x with
    | none => rfl
    | some r =>
      obtain ⟨q, hq, _⟩ := erased_recordAt s hr
      rw [h] at hq
      cases hq
  · intro h
    rw [recordAt_erasure, recordAt_erasedClosed, h]
    rfl

theorem table_erasure :
    (erasure s).table =
      { s.table with
        slots := (erasure s).table.slots, books := (erasure s).table.books, waiting := [] } := by
  rw [erasure_frame]
  exact table_erasedClosed s

theorem slots_erasure (hs : s.slotsPartitioned) : (erasure s).slotsPartitioned := by
  obtain ⟨h1, h2, h3, h4⟩ := hs
  have hfree : (erasure s).table.free = s.table.free := by rw [table_erasure]
  refine ⟨hfree ▸ h1, fun x => by rw [hfree, erased_free, h2], fun l => by rw [book_erasure]; exact h3 l, fun l x => ?_⟩
  rw [book_erasure, h4]
  constructor
  · rintro ⟨r, hr, hl⟩
    obtain ⟨q, hq, he⟩ := erased_recordAt s hr
    exact ⟨q, hq, he.lane.trans hl⟩
  · rintro ⟨q, hq, hl⟩
    obtain ⟨r, hr, he⟩ := erased_occupied s hq
    exact ⟨r, hr, he.lane.symm.trans hl⟩

theorem account_erasure (ha : s.accountHolds) : (erasure s).accountHolds := by
  have hon : ∀ l x, (erasure s).deferredAmount l x = s.deferredAmount l x ∧
      (erasure s).deferredOne l x = s.deferredOne l x := fun l x => by
    cases hr : s.recordAt x with
    | none =>
      have ht := ((erased_free s).mpr hr).trans hr.symm
      exact ⟨deferredAmount_congr ht l, deferredOne_congr ht l⟩
    | some r =>
      obtain ⟨q, hq, he⟩ := erased_recordAt s hr
      rw [deferredAmount_eq hr, deferredAmount_eq hq, deferredOne_eq hr, deferredOne_eq hq]
      simp only [Record.amountOn, Record.countOn, he.deferred, he.lane, he.current, and_self]
  obtain ⟨h1, h2, h3⟩ := ha
  refine ⟨fun l => ?_, fun l => ?_, ?_⟩
  · rw [book_erasure]
    exact (h1 l).trans (Finset.sum_congr rfl fun x _ => (hon l x).1.symm)
  · rw [book_erasure]
    exact (h2 l).trans (Finset.sum_congr rfl fun x _ => (hon l x).2.symm)
  · have hstore : (erasure s).table.storeTotal = s.table.storeTotal := by rw [table_erasure]
    rw [hstore, h3]
    exact Finset.sum_congr rfl fun l _ => by rw [book_erasure]

theorem records_erasure (hs : s.recordsWellFormed) : (erasure s).recordsWellFormed := fun x q hq => by
  obtain ⟨r, hr, he⟩ := erased_occupied s hq
  exact he.wellFormed (hs x r hr)

theorem entry_erasure (i : Fin 4) : (erasure s).entry i = KeyEntry.vacant := by
  rw [erasure_frame]
  exact (congrArg (fun k : KeyManager => look k.entries i) (keys_erasedClosed s)).trans (look_replicate ..)

theorem highest_erasure : (erasure s).keys.highest = s.keys.highest := by
  rw [erasure_frame]
  have h := congrArg KeyManager.highest (keys_erasedClosed s)
  exact h

/-- Key entries that are all EMPTY. -/
theorem keysWellFormed_of_vacant {s : State} (h : ∀ i, s.entry i = KeyEntry.vacant) : s.keysWellFormed :=
  ⟨fun i => by rw [h]; exact wellFormed_vacant, fun i j hi _ => by rw [h] at hi; cases hi⟩

/-- No record is bound, none waits, no key is loaded and no job is placed. -/
theorem core_of_vacant {s : State} (hsound : ∀ x r, s.recordAt x = some r → r.Sound)
    (hbound : ∀ x r, s.recordAt x = some r → r.bound = false)
    (hsettled : ∀ x r, s.recordAt x = some r → ¬ r.waits) (hwait : s.table.waiting = [])
    (hkeys : ∀ i, s.entry i = KeyEntry.vacant) (hhigh : s.keys.highest ≤ 65535) (hjobs : s.jobs = []) : s.Core := by
  refine ⟨hsound, keysWellFormed_of_vacant hkeys, ⟨fun i j hi => ?_, fun i j m n hm => ?_, fun i m hm => ?_, hhigh⟩,
    fun i m hm => ?_, fun x r b hr hb => ?_, fun job hj => ?_, ?_, ?_, fun x => ?_⟩
  · rw [hkeys] at hi; cases hi
  · rw [hkeys] at hm; cases hm
  · rw [hkeys] at hm; cases hm
  · rw [hkeys] at hm; cases hm
  · rw [hbound x r hr] at hb; cases hb
  · rw [hjobs] at hj; cases hj
  · rw [hjobs]; exact List.nodup_nil
  · rw [hwait]; exact List.Pairwise.nil
  · rw [hwait]
    exact iff_of_false (List.not_mem_nil) fun ⟨r, hr, hw⟩ => hsettled x r hr hw

theorem jobs_erasure : (erasure s).jobs = [] := by
  have hengine : (erasure s).engine = s.eraseEngine.engine := by
    rw [erasure_frame]
    exact engine_erasedClosed s
  rw [State.jobs, hengine]
  unfold State.eraseEngine
  dsimp only
  split
  · next h =>
    split at h
    · cases h
    · cases h
  · rfl
  · rfl

theorem core_erasure (hc : s.Core) : (erasure s).Core := by
  refine core_of_vacant (fun x q hq => ?_) (fun x q hq => ?_) (fun x q hq => ?_) (by rw [table_erasure]) (entry_erasure s)
    (by rw [highest_erasure]; exact hc.generations.2.2.2) (jobs_erasure s)
  · obtain ⟨r, hr, he⟩ := erased_occupied s hq
    exact ⟨he.wellFormed (hc.sound x r hr).wellFormed, fun f hf hw => absurd hw (he.settled f hf),
      fun ha => absurd ha he.armed⟩
  · obtain ⟨_, _, he⟩ := erased_occupied s hq
    exact he.bound
  · obtain ⟨_, _, he⟩ := erased_occupied s hq
    rintro ⟨f, hf, hw⟩
    exact he.settled f hf hw

theorem calm_closeAll (slots : List Slot) (s : State) : Calm s (s.closeAll slots) := by
  induction slots generalizing s with
  | nil => exact Calm.refl s
  | cons x rest ih =>
    rw [closeAll_cons]
    exact (calm_queueEndFrame ..).trans (ih _)

theorem calm_erasure : Calm s (erasure s) := by
  have hbase : Calm s s.erasedBase := Calm.of_same rfl rfl rfl rfl rfl rfl rfl
  have hclosed : Calm (s.erasedBase.closeAll s.erasureEnds) s.erasedClosed := by
    refine ⟨rfl, fun _ h => h, fun h => h, fun h => h, fun h => h, fun l => ?_⟩
    rw [lane_erasedClosed]
    exact Lane.keeps_erase _
  rw [erasure_eq]
  exact ((hbase.trans (calm_closeAll ..)).trans hclosed).trans (calm_respondHeld ..)

theorem moves_erasure (x : Slot) : SlotMoves s (erasure s) x := by
  refine ⟨fun r q hr hq => ?_, fun _ => tag_erasure s x, fun hr q hq => ?_⟩
  · obtain ⟨q', hq', he⟩ := erased_recordAt s hr
    cases hq.symm.trans hq'
    exact ⟨tag_erasure s x, he.lane, he.payment, he.till, he.original, he.may⟩
  · rw [(erased_free s).mpr hr] at hq
    cases hq

/-! ## The engagements after an erasure (R10, R166) -/

/-- A lane's engagement is kept, or ends. -/
theorem engaged_erasure_of_some {l : LaneId} {h : Handle} (hb : ((erasure s).book l).engaged = some h) :
    (s.book l).engaged = some h := by
  by_cases hend : ∃ x ∈ s.erasureEnds, s.erasedBase.framesOn x l ∧ (s.lane l).mode ≠ .ready
  · obtain ⟨x, hx, hf, hm⟩ := hend
    have hnone : ((s.erasedBase.closeAll s.erasureEnds).book l).engaged = none :=
      engaged_closeAll_ended s.erasureEnds s.erasedBase hx hf hm
    rw [erasure_frame] at hb
    exact absurd (hnone.symm.trans hb) (by simp)
  · have hkept : ((s.erasedBase.closeAll s.erasureEnds).book l).engaged = (s.book l).engaged :=
      engaged_closeAll_kept s.erasureEnds s.erasedBase fun x hx hf => hend ⟨x, hx, hf⟩
    rw [erasure_frame] at hb
    exact hkept.symm.trans hb

theorem engaged_erasure_kept {l : LaneId}
    (h : ∀ x ∈ s.erasureEnds, s.erasedBase.framesOn x l → (s.lane l).mode = .ready) :
    ((erasure s).book l).engaged = (s.book l).engaged := by
  rw [erasure_frame]
  exact engaged_closeAll_kept s.erasureEnds s.erasedBase fun x hx hf => hf.2 (h x hx hf.1)

/-- A record whose payment an erasure does not end is engaged as before. -/
theorem engaged_erase_other {r : Record} (ha : r.state ≠ .armed) (hc : r.state ≠ .capturing) :
    r.erase.engaged = r.engaged := by
  rw [erase_other ha hc]
  rfl

/-- A payment ended is engaged as long as its end frame is to be delivered. -/
theorem engaged_erase_framed {r : Record} (h : r.state = .armed ∨ r.state = .capturing) (hd : r.delivery.value = .none)
    (mode : LaneMode) : (r.erase.framed mode .close).engaged = true ↔ mode = .ready := by
  have hdel : r.erase.delivery.value = .none := by rw [(delivery_erase r).1]; exact hd
  have hstate : r.erase.state.isEngaging = false := by
    rcases h with h | h
    · rw [erase_armed h]; rfl
    · rw [erase_capturing h]; rfl
  have hframed : (r.erase.framed mode .close).state.isEngaging = false := by rw [framed_eq]; exact hstate
  obtain ⟨_, hready, hother⟩ := delivery_framed hdel mode .close
  rw [Record.engaged, hframed, Bool.false_or]
  by_cases hm : mode = .ready
  · rw [hready hm]; exact iff_of_true rfl hm
  · rw [hother hm]; exact iff_of_false (by decide) hm

theorem engagements_erasure : EngagementsKept s (erasure s) := by
  intro hw hg
  have hends : ∀ x r, s.recordAt x = some r → (r.state = .armed ∨ r.state = .capturing) → x ∈ s.erasureEnds := fun x r hr hs => by
    have heng : r.engaged = true := by
      rw [Record.engaged]
      rcases hs with hs | hs <;> rw [hs] <;> rfl
    have hmem := mem_erasureEnds_of_engaged (hg.2 x r hr heng) (current_handleOf s x ▸ hr) hs
    rwa [slotOf_handleOf] at hmem
  have hdel : ∀ x r, s.recordAt x = some r → (r.state = .armed ∨ r.state = .capturing) → r.delivery.value = .none :=
    fun x r hr hs => (hw x r hr).engaging (by rcases hs with hs | hs <;> rw [hs] <;> rfl)
  refine ⟨fun l h hb => ?_, fun x q hq heng => ?_⟩
  · have hb' := engaged_erasure_of_some s hb
    obtain ⟨r, hr, hl, heng⟩ := hg.1 l h hb'
    obtain ⟨hat, htag⟩ := current_eq_some_iff.mp hr
    have hcur : ∀ q, (erasure s).recordAt (slotOf h) = some q → (erasure s).current? h = some q := fun q hq =>
      current_eq_some_iff.mpr ⟨hq, by rw [tag_erasure]; exact htag⟩
    obtain ⟨hin, hout⟩ := recordAt_erasure_of hat
    by_cases hs : r.state = .armed ∨ r.state = .capturing
    · have hx := mem_erasureEnds_of_engaged hb' hr hs
      refine ⟨_, hcur _ (hin hx), by rw [lane_framed, (delivery_erase r).2.1, hl], ?_⟩
      rw [engaged_erase_framed hs (hdel _ r hat hs)]
      by_contra hm
      have hnone := engaged_erasure_ended hx hat (hdel _ r hat hs) hm
      rw [hl, hb] at hnone
      cases hnone
    · obtain ⟨ha, hc⟩ := not_or.mp hs
      have hx : slotOf h ∉ s.erasureEnds := fun hx => hs (state_of_mem_erasureEnds hx hat)
      exact ⟨_, hcur _ (hout hx), (delivery_erase r).2.1.trans hl, (engaged_erase_other ha hc).trans heng⟩
  · have hhandle : (erasure s).handleOf x = s.handleOf x := by rw [State.handleOf, tag_erasure]; rfl
    obtain ⟨r, hr, he⟩ := erased_occupied s hq
    obtain ⟨hin, hout⟩ := recordAt_erasure_of hr
    rw [hhandle, he.lane]
    by_cases hs : r.state = .armed ∨ r.state = .capturing
    · have hx := hends x r hr hs
      cases hq.symm.trans (hin hx)
      rw [engaged_erase_framed hs (hdel x r hr hs)] at heng
      rw [engaged_erasure_kept s fun _ _ _ => heng]
      refine hg.2 x r hr ?_
      rw [Record.engaged]
      rcases hs with hs | hs <;> rw [hs] <;> rfl
    · obtain ⟨ha, hc⟩ := not_or.mp hs
      have hx : x ∉ s.erasureEnds := fun hx => hs (state_of_mem_erasureEnds hx hr)
      cases hq.symm.trans (hout hx)
      rw [engaged_erase_other ha hc] at heng
      have hb := hg.2 x r hr heng
      rw [engaged_erasure_kept s fun y hy hf => ?_, hb]
      obtain ⟨r', hr', _⟩ := engaged_of_framesOn hg hy hf
      cases (engaged_of_current hb (current_handleOf s x ▸ hr)).symm.trans hr'
      rw [slotOf_handleOf] at hy
      exact absurd hy hx

theorem acts_erasure : Acts s (erasure s) where
  calm := calm_erasure s
  deep := ⟨slots_erasure s, fun _ => account_erasure s, records_erasure s, fun _ => keysWellFormed_of_vacant (entry_erasure s),
    fun _ => core_erasure s, fun _ ⟨_, _, _, hj⟩ => (by rw [jobs_erasure] at hj; cases hj)⟩
  engagements _ := engagements_erasure s
  counts := by
    have hqueue : (erasure s).engine.queue = [] :=
      List.sublist_nil.mp (jobs_erasure s ▸ queue_sublist_jobs (erasure s))
    refine ⟨fun _ hne => absurd (by rw [table_erasure]) hne, fun _ => ?_⟩
    rw [State.sharesHold, State.requestedCount, State.automaticCount, hqueue]
    exact ⟨Nat.zero_le _, Nat.zero_le _⟩
  slots _ := moves_erasure s
  entries i := by rw [entry_erasure]; exact .inr rfl

end

/-! ## The case monitor (R163, R165) -/

theorem acts_caseLineChange (line : CaseLine) (level : CaseLevel) (s : State) : Acts s (caseLineChange line level s) := by
  have hmon : ∀ c, Quiet s { s with caseMon := c } := fun c =>
    Quiet.of_calm (Calm.of_same rfl rfl rfl rfl rfl rfl rfl) rfl rfl rfl rfl
  unfold caseLineChange
  dsimp only
  split
  · split
    · exact (hmon _).then_acts (acts_erasure _)
    · exact (hmon _).acts
  · exact (hmon _).acts

end Sys2Proof.Machine
end


section
/-! PROOFS. What one command keeps: an act, a KEY LOAD placed (R90, R91), a key unwrapped (R92), a start
(R180). -/

namespace Sys2Proof.Machine

/-! ## One command -/

/-- What one command keeps of a state that keeps it. A start discards the record table; the key of an unwrap
comes to an EMPTY entry. -/
structure Stepped (s t : State) : Prop where
  calm : Calm s t
  slots : s.slotsPartitioned → t.slotsPartitioned
  account : s.slotsPartitioned → s.accountHolds → t.accountHolds
  records : s.recordsWellFormed → t.recordsWellFormed
  keys : s.keysWellFormed → t.keysWellFormed
  core : s.slotsPartitioned → s.Core → s.portHolds → t.Core ∧ t.portHolds
  engagements : s.slotsPartitioned → EngagementsKept s t
  counts : Counts s t
  moves : s.slotsPartitioned → t.table = startTable ∨ ∀ x, SlotMoves s t x
  entries : s.keysWellFormed → ∀ i, (s.entry i).material = none ∨ EntryKeeps (s.entry i) (t.entry i)

theorem Acts.stepped {s t : State} (h : Acts s t) : Stepped s t where
  calm := h.calm
  slots := h.deep.slots
  account := h.deep.account
  records := h.deep.records
  keys := h.deep.keys
  core hs hc hp := ⟨h.deep.core hs hc, h.deep.port hp⟩
  engagements := h.engagements
  counts := h.counts
  moves hs := .inr (h.slots hs)
  entries _ i := .inr (h.entries i)

theorem SlotStays.of_same {s t : State} {x : Slot} (h : t.cell x = s.cell x) : SlotStays s t x :=
  ⟨by rw [h], by rw [State.recordAt, State.recordAt, h]; exact optionRel_refl Kept.refl _⟩

/-! ## A request taken (R171) -/

section
variable {s t : State}

/-- The port changes, but not from or to a request in service. -/
theorem quiet_port (hport : s.port.state = t.port.state ∨ (∀ kind tag, s.port.state ≠ .serving kind tag))
    (hframe : t = { s with port := t.port }) : Quiet s t := by
  have hjobs : t.jobs = s.jobs := by rw [hframe]; rfl
  refine Quiet.of_table (Calm.of_same (by rw [hframe]) (by rw [hframe]) (by rw [hframe]) (by rw [hframe])
    (by rw [hframe]) (by rw [hframe]) (by rw [hframe])) (by rw [hframe]) (by rw [hframe]) (by rw [hframe]) fun hp hj => ?_
  rw [hjobs] at hj
  obtain ⟨tag, htag⟩ := hp hj
  rcases hport with hsame | hno
  · exact ⟨tag, hsame ▸ htag⟩
  · exact absurd htag (hno _ _)

theorem quiet_discarded (s : State) : Quiet s { s with port := { s.port with discarded := true } } :=
  quiet_port (.inl rfl) rfl

theorem acts_takeRequest {f : State → Reply} (hf : Answers s (f s)) (kind tag : Byte) :
    Acts s (takeRequest kind tag f s) := by
  unfold takeRequest
  split
  · split
    · next hidle =>
      obtain ⟨t, status, body, hreply, hacts, hport⟩ := hf
      rw [hreply]
      refine hacts.then_quiet (quiet_respond t (fun kind tag => ?_) kind tag status body)
      rw [hport, hidle]
      exact fun h => by cases h
    · exact (quiet_discarded s).acts
    · exact (quiet_discarded s).acts
  · exact Acts.refl s

end

/-! ## KEY LOAD placed (R90, R91) -/

/-- A KEY LOAD past its checks: its generation is new, no entry is PENDING and one is EMPTY. -/
theorem awaits_of_accepted {s : State} {generation : Half} (h : keyLoadRefusal generation s = none) :
    s.awaits generation.toNat := by
  unfold keyLoadRefusal at h
  split at h
  · cases h
  split at h
  · cases h
  split at h
  · cases h
  split at h
  · cases h
  split at h
  · cases h
  next hhigh =>
  split at h
  · cases h
  next hpend =>
  split at h
  · cases h
  next hempty =>
  refine ⟨Nat.not_le.mp hhigh, Nat.le_of_lt_succ generation.isLt, fun i hi => ?_, ?_⟩
  · exact (entryIn_eq_none_iff s .pending).mp (Option.not_isSome_iff_eq_none.mp hpend) i hi
  · obtain ⟨i, hi⟩ := Option.ne_none_iff_exists'.mp hempty
    exact ⟨i, State.state_of_entryIn hi⟩

/-- A job without a record is a key-unwrap job. -/
theorem unwrap_of_target {job : Job} (h : job.target = none) : ∃ g block check, job = .unwrap g block check := by
  cases job with
  | capture => cases h
  | followUp => cases h
  | unwrap g block check => exact ⟨g, block, check, rfl⟩

section
variable {s : State} {g : Nat} {block : Block} {check : BitVec 64} {tag : Byte}

/-- With no KEY LOAD in service no key-unwrap job stands. -/
theorem fresh_unwrap (hp : s.portHolds) (hidle : s.port.state = .idle) :
    (Job.unwrap g block check).target ∉ s.jobs.map Job.target := by
  intro hmem
  obtain ⟨job, hjob, ht⟩ := List.mem_map.mp hmem
  obtain ⟨g', block', check', rfl⟩ := unwrap_of_target ht
  obtain ⟨tag, htag⟩ := hp ⟨g', block', check', hjob⟩
  rw [hidle] at htag
  cases htag

theorem stepped_unwrapPlaced (hidle : s.port.state = .idle) (ha : s.awaits g) :
    Stepped s { s.placeJob (.unwrap g block check) with
      port := { (s.placeJob (.unwrap g block check)).port with state := .serving 19 tag } } := by
  have hwork := works_placeJob s (.unwrap g block check)
  have hroom : Counts s (s.placeJob (.unwrap g block check)) :=
    counts_placeJob (fun h => by cases h) fun h => by cases h
  have hbacks : s.backs (.unwrap g block check) :=
    ⟨fun _ _ h => (by cases h), fun g' block' check' h => (by cases h; exact ha)⟩
  have hcell : ∀ x, State.cell { s.placeJob (.unwrap g block check) with
      port := { (s.placeJob (.unwrap g block check)).port with state := .serving 19 tag } } x =
      (s.placeJob (.unwrap g block check)).cell x := fun _ => rfl
  exact {
    calm := hwork.calm.trans (Calm.of_same rfl rfl rfl rfl rfl rfl rfl)
    slots := hwork.slots
    account := fun _ => hwork.account
    records := hwork.recordsWellFormed
    keys := keysWellFormed_of_counted hwork.entries
    core := fun _ hc hp =>
      ⟨(core_placeJob hc hbacks (fresh_unwrap hp hidle)).jobs_leave (fun _ => rfl) rfl rfl (List.Sublist.refl _),
        fun _ => ⟨tag, rfl⟩⟩
    engagements := fun _ => hwork.engagements
    counts := hroom.trans (counts_of_same rfl rfl)
    moves := fun _ => .inr fun x => ((hwork.stays x).trans (SlotStays.of_same (hcell x))).moves
    entries := fun _ i => .inr (hwork.entries i).keeps }

theorem stepped_keyLoad (tag : Byte) (generation : Half) (block : Block) (check : BitVec 64) (s : State) :
    Stepped s (takeRequest 19 tag (keyLoad generation block check) s) := by
  by_cases hacc : s.accepts
  · rw [takeRequest_of_accepts hacc]
    unfold keyLoad
    split
    · exact ((quiet_respond s (fun kind tag => by rw [hacc.2]; exact fun h => by cases h) ..).acts).stepped
    · next h => exact stepped_unwrapPlaced hacc.2 (awaits_of_accepted h)
  · by_cases hr : s.phase = .running
    · rw [takeRequest_of_busy hr fun hp => hacc ⟨hr, hp⟩]
      exact (quiet_discarded s).acts.stepped
    · rw [takeRequest_of_not_running hr]
      exact (Acts.refl s).stepped

end

/-! ## A key unwrapped (R92) -/

section
variable {s u : State} {g : Nat} {block : Block} {check : BitVec 64} {transportKey : JobInputs}

/-- A key-unwrap job in service is the only one. -/
theorem no_unwrap_queued (hc : s.Core) (hserve : s.engine.service = .serving (.unwrap g block check) transportKey)
    (g' : Nat) (block' : Block) (check' : BitVec 64) : Job.unwrap g' block' check' ∉ s.engine.queue := fun hmem => by
  have hjobs : s.jobs = .unwrap g block check :: s.engine.queue := by rw [State.jobs, hserve]
  have hnodup := hc.targets
  rw [hjobs, List.map_cons, List.nodup_cons] at hnodup
  exact hnodup.1 (List.mem_map.mpr ⟨_, hmem, rfl⟩)

/-- A state in which a key was loaded into an EMPTY entry, or none, and the KEY LOAD in service answered. -/
structure Unwrapped (s u : State) (g : Nat) : Prop where
  frame : u = { s with keys := u.keys, port := u.port }
  loaded : u.keys = s.keys ∨ u.keys.highest = g ∧ ∃ i m, (s.entry i).state = .empty ∧ m.generation = g ∧
    ∀ j, u.entry j = if j = i then { KeyEntry.vacant with state := .pending, material := some m } else s.entry j

theorem unwrapped_unwrapDone (g : Nat) (result : Option (Block × BitVec 24)) (s : State) :
    Unwrapped s (unwrapDone g result s) g := by
  unfold unwrapDone
  split
  · exact ⟨by rw [respondHeld_frame], .inl (by rw [respondHeld_frame])⟩
  next key checkValue =>
  split
  · exact ⟨by rw [respondHeld_frame], .inl (by rw [respondHeld_frame])⟩
  next i hi =>
  dsimp only
  refine ⟨by rw [respondHeld_frame]; rfl, .inr ⟨by rw [respondHeld_frame], i,
    { generation := g, key := key, checkValue := checkValue }, State.state_of_entryIn hi, rfl, fun j => ?_⟩⟩
  rw [respondHeld_frame]
  exact s.entry_setEntry i j (KeyEntry.loaded g key checkValue)

section
variable {i : Fin 4} {m : KeyMaterial} (hm : m.generation = g)
  (hent : ∀ j, u.entry j = if j = i then { KeyEntry.vacant with state := .pending, material := some m } else s.entry j)
include hent

theorem keysWellFormed_loaded (hk : s.keysWellFormed) : u.keysWellFormed :=
  keysWellFormed_replaced hent ⟨fun h => (by cases h), fun _ => rfl, wellFormed_vacant.2.2⟩ (fun h => by cases h) hk

include hm in
theorem generationsHold_loaded (ha : s.awaits g) (hh : u.keys.highest = g) (h : s.generationsHold) : u.generationsHold := by
  obtain ⟨hhigh, hmax, hpend, _⟩ := ha
  obtain ⟨_, hdistinct, hrange, _⟩ := h
  have hcases : ∀ j n, (u.entry j).material = some n →
      (j = i ∧ n.generation = g) ∨ (j ≠ i ∧ (s.entry j).material = some n) := fun j n hn => by
    rw [hent] at hn
    split at hn
    · next hj => cases hn; exact .inl ⟨hj, hm⟩
    · next hj => exact .inr ⟨hj, hn⟩
  have hpending : ∀ j, (u.entry j).state = .pending → j = i := fun j hj => by
    rw [hent] at hj
    split at hj
    · next hji => exact hji
    · exact absurd hj (hpend j)
  refine ⟨fun j k hj hk => (hpending j hj).trans (hpending k hk).symm, fun j k n p hn hp hg => ?_, fun j n hn => ?_,
    by rw [hh]; exact hmax⟩
  · rcases hcases j n hn with ⟨hj, hng⟩ | ⟨_, hn'⟩
    · rcases hcases k p hp with ⟨hk, _⟩ | ⟨_, hp'⟩
      · rw [hj, hk]
      · have := (hrange k p hp').2
        omega
    · rcases hcases k p hp with ⟨_, hpg⟩ | ⟨_, hp'⟩
      · have := (hrange j n hn').2
        omega
      · exact hdistinct j k n p hn' hp' hg
  · rw [hh]
    rcases hcases j n hn with ⟨_, hng⟩ | ⟨_, hn'⟩
    · omega
    · have := hrange j n hn'
      omega

end

/-- No record is bound to a generation above the highest. -/
theorem boundCount_above (hc : s.Core) (h : s.keys.highest < g) : s.boundCount g = 0 := by
  rw [State.boundCount, List.length_eq_zero_iff, List.filter_eq_nil_iff]
  intro x _ hany
  obtain ⟨r, hr, hb⟩ := Option.any_eq_true _ _ |>.mp hany
  rw [Record.boundTo, Bool.and_eq_true, decide_eq_true_iff] at hb
  obtain ⟨b, hbind, hg⟩ := Option.map_eq_some_iff.mp hb.2
  obtain ⟨i, hcar, _⟩ := hc.bound x r b hr hb.1 hbind
  rw [carries_iff] at hcar
  obtain ⟨m, hm, hmg⟩ := Option.map_eq_some_iff.mp hcar
  have := (hc.generations.2.2.1 i m hm).2
  omega

theorem core_unwrapped (hu : Unwrapped s u g) (hserve : s.engine.service = .serving (.unwrap g block check) transportKey)
    (hc : s.Core) : (u.setService .idle).Core := by
  have hjobs : s.jobs = .unwrap g block check :: s.engine.queue := by rw [State.jobs, hserve]
  have hleft : (u.setService .idle).jobs = s.engine.queue := by rw [hu.frame]; rfl
  have hcell : ∀ x, (u.setService .idle).cell x = s.cell x := fun x => by rw [hu.frame]; rfl
  have hsub : (u.setService .idle).jobs.Sublist s.jobs := by
    rw [hleft, hjobs]
    exact List.sublist_cons_self ..
  have hwait : (u.setService .idle).table.waiting = s.table.waiting := by rw [hu.frame]; rfl
  rcases hu.loaded with hk | ⟨hh, i, m, hi, hm, hent⟩
  · exact hc.jobs_leave hcell hwait hk hsub
  · have ha : s.awaits g := (hc.jobs _ (by rw [hjobs]; exact List.mem_cons_self ..)).keys g block check rfl
    refine hc.keys_changed hcell hwait hsub (keysWellFormed_loaded hent hc.keys)
      (generationsHold_loaded hm hent ha hh hc.generations) (fun j n hn => ?_) (fun j g' hcar _ hst => ?_)
      fun g' block' check' hmem => absurd (hleft ▸ hmem) (no_unwrap_queued hc hserve g' block' check')
    · have hj := hent j
      change (u.entry j).material = some n at hn
      change (u.entry j).bindings = _
      rw [hj] at hn ⊢
      split at hn
      · cases hn
        rw [if_pos ‹_›, hm, boundCount_above hc ha.1]
        rfl
      · rw [if_neg ‹_›]
        exact hc.counted j n hn
    · have hne : j ≠ i := fun hji => by
        rw [hji, hi] at hst
        rcases hst with hst | hst <;> cases hst
      have hj : (u.setService .idle).entry j = s.entry j := (hent j).trans (if_neg hne)
      rw [hj]
      exact ⟨hcar, hst⟩

theorem stepped_unwrapped (hu : Unwrapped s u g)
    (hserve : s.engine.service = .serving (.unwrap g block check) transportKey) : Stepped s u.afterJob := by
  have hwork := works_afterJob u
  have htable : u.table = s.table := by rw [hu.frame]
  have hcell : ∀ x, u.cell x = s.cell x := fun x => by rw [State.cell, State.cell, htable]
  have hrec := recordAt_congr hcell
  have hbook : ∀ l, u.book l = s.book l := fun l => by rw [State.book, State.book, htable]
  have hcalm : Calm s u := by
    rw [hu.frame]
    exact Calm.of_same rfl rfl rfl rfl rfl rfl rfl
  have hrel : ∀ {R : Record → Record → Prop}, (∀ r, R r r) → ∀ x, Option.Rel R (s.recordAt x) (u.recordAt x) :=
    fun hR x => by rw [hrec]; exact optionRel_refl hR _
  exact {
    calm := hcalm.trans hwork.calm
    slots := fun hs => hwork.slots (slots_of_view hrec (by rw [htable]) (fun l => by rw [hbook]) hs)
    account := fun _ ha => hwork.account (accountHolds_of_table htable ha)
    records := fun hr => hwork.recordsWellFormed fun x r hx => hr x r ((hrec x).symm.trans hx)
    keys := fun hk => keysWellFormed_of_counted hwork.entries (by
      rcases hu.loaded with hsame | ⟨_, i, m, _, _, hent⟩
      · exact keysWellFormed_congr hsame hk
      · exact keysWellFormed_loaded hent hk)
    core := fun _ hc _ => ⟨core_afterJob (core_unwrapped hu hserve hc), fun ⟨g', block', check', hj⟩ => by
      have hmem := unwraps_afterJob u hj
      rw [show u.engine.queue = s.engine.queue by rw [hu.frame]] at hmem
      exact absurd hmem (no_unwrap_queued hc hserve g' block' check')⟩
    engagements := fun _ hw he =>
      hwork.engagements (fun x r hx => hw x r ((hrec x).symm.trans hx))
        (engagementsHold_congr (fun x => by rw [hcell]) (hrel fun _ => ⟨rfl, rfl⟩) (fun l => by rw [hbook]) he)
    counts := (counts_of_same (by rw [hu.frame]) (by rw [htable])).trans (counts_afterJob u)
    moves := fun _ => .inr fun x =>
      ((SlotStays.mk (by rw [hcell]) (hrel Kept.refl x)).trans (hwork.stays x)).moves
    entries := fun hk j => by
      rcases hu.loaded with hsame | ⟨_, i, m, hi, _, hent⟩
      · rw [← entry_congr hsame]
        exact .inr (hwork.entries j).keeps
      · by_cases hj : j = i
        · rw [hj, (hk.1 i).1 hi]
          exact .inl rfl
        · have hkept := hent j
          rw [if_neg hj] at hkept
          rw [← hkept]
          exact .inr (hwork.entries j).keeps }

end

theorem stepped_keyUnwrapCompletion (s : State) : Stepped s (keyUnwrapCompletion s) := by
  unfold keyUnwrapCompletion
  split
  · next h => exact stepped_unwrapped (unwrapped_unwrapDone ..) h
  all_goals exact (Acts.refl s).stepped

/-! ## Starts (R180) -/

section
variable (s : State)

theorem slots_startTable {s : State} (h : s.table = startTable) : s.slotsPartitioned ∧ s.accountHolds ∧
    ∀ x, s.recordAt x = none := by
  have hrec : ∀ x, s.recordAt x = none := fun x => by
    rw [State.recordAt, State.cell, h]
    exact congrArg SlotCell.record (look_replicate ..)
  have hbook : ∀ l, s.book l = startBook := fun l => by
    rw [State.book, h]
    exact look_replicate ..
  have hzero : ∀ l x, s.deferredAmount l x = 0 ∧ s.deferredOne l x = 0 := fun l x => by
    simp only [State.deferredAmount, State.deferredOne, hrec, and_self]
  have hfree : s.table.free = List.finRange 2048 := by rw [h, startTable]
  refine ⟨⟨?_, fun x => ?_, fun l => ?_, fun l x => ?_⟩, ⟨fun l => ?_, fun l => ?_, ?_⟩, hrec⟩
  · rw [hfree]; exact List.nodup_finRange _
  · rw [hfree, hrec]; exact iff_of_true (List.mem_finRange x) rfl
  · rw [hbook]; exact List.nodup_nil
  · rw [hbook, hrec]; exact iff_of_false List.not_mem_nil fun ⟨_, hno, _⟩ => by cases hno
  · rw [hbook]; exact (Finset.sum_eq_zero fun x _ => (hzero l x).1).symm
  · rw [hbook]; exact (Finset.sum_eq_zero fun x _ => (hzero l x).2).symm
  · rw [h]; exact (Finset.sum_eq_zero fun l _ => by rw [hbook]; rfl).symm

theorem entry_startValues (phase : Phase) (cause : StartCause) (i : Fin 4) :
    (s.startValues phase cause).entry i = KeyEntry.vacant := look_replicate ..

theorem jobs_startValues (phase : Phase) (cause : StartCause) : (s.startValues phase cause).jobs = [] := by
  have hengine : (s.startValues phase cause).engine = startEngine (startSupply s.commission s.supply.millivolts).state := rfl
  rw [State.jobs, hengine, startEngine]
  dsimp only
  split
  · next h =>
    split at h
    · cases h
    · cases h
  · rfl
  · rfl

/-- A start, of a state that agrees in the commands waiting and the commissioning record. -/
theorem stepped_startValues {u : State} (hp : u.pending = s.pending) (hc : u.commission = s.commission) (phase : Phase)
    (cause : StartCause) : Stepped s (u.startValues phase cause) := by
  have htable : (u.startValues phase cause).table = startTable := rfl
  obtain ⟨hslots, haccount, hrec⟩ := slots_startTable htable
  have hbook : ∀ l, (u.startValues phase cause).book l = startBook := fun l => look_replicate ..
  have hlane : ∀ l, (u.startValues phase cause).lane l = startLane (startMode u.commission l) (look u.lanes l).holdIn :=
    fun l => lane_startLanes ..
  have hentry := entry_startValues u phase cause
  have hjobs := jobs_startValues u phase cause
  exact {
    calm := {
      pending := hp
      commission := fun c h => hc.trans h
      causes := fun _ => ⟨List.Pairwise.nil, List.Pairwise.nil⟩
      limits := fun _ => by
        change startLimits.inRange
        unfold Limits.inRange
        decide
      timers := fun _ => by
        change startTimers.inRange
        unfold TimerSettings.inRange
        decide
      lanes := fun l => by
        rw [hlane]
        exact Lane.keeps_start _ (startMode_ne_ready _ _) _ }
    slots := fun _ => hslots
    account := fun _ _ => haccount
    records := fun _ x r hr => by rw [hrec] at hr; cases hr
    keys := fun _ => keysWellFormed_of_vacant hentry
    core := fun _ _ _ =>
      ⟨core_of_vacant (fun x r hr => by rw [hrec] at hr; cases hr) (fun x r hr => by rw [hrec] at hr; cases hr)
        (fun x r hr => by rw [hrec] at hr; cases hr) rfl hentry (Nat.zero_le _) hjobs,
        fun ⟨_, _, _, hj⟩ => by rw [hjobs] at hj; cases hj⟩
    engagements := fun _ _ _ =>
      ⟨fun l h hb => (by rw [hbook] at hb; cases hb), fun x r hr => (by rw [hrec] at hr; cases hr)⟩
    counts := ⟨fun _ hne => absurd rfl hne, fun _ => ⟨Nat.zero_le _, Nat.zero_le _⟩⟩
    moves := fun _ => .inl htable
    entries := fun _ i => .inr (by rw [hentry]; exact .inr rfl) }

end

end Sys2Proof.Machine
end


section
/-! PROOFS. Every command, and so every step, keeps what one command keeps. -/

namespace Sys2Proof.Machine

/-! ## Requests and the port (R170 to R172, R181) -/

theorem stepped_request {i : Instr} {f : State → Reply} {kind tag : Byte} {body : List Byte}
    (hf : handlerOf i = some f) (hparts : requestParts i = some (kind, tag, body)) (s : State) :
    Stepped s (takeRequest kind tag f s) := by
  by_cases hload : ∃ tag generation block check, i = .keyLoad tag generation block check
  · obtain ⟨tag', generation, block, check, rfl⟩ := hload
    cases hf
    cases hparts
    exact stepped_keyLoad ..
  · refine (acts_takeRequest (answers_handlerOf hf (fun tag generation block check hi => hload ?_) s) kind tag).stepped
    exact ⟨tag, generation, block, check, hi⟩

theorem stepped_requestTransaction (frame : List Byte) (s : State) : Stepped s (requestTransaction frame s) := by
  cases hj : judgeFrame frame with
  | malformed kind tag =>
    simp only [requestTransaction, hj]
    exact (acts_takeRequest (answers_refuse ..) kind tag).stepped
  | unknownRequest kind tag =>
    simp only [requestTransaction, hj]
    exact (acts_takeRequest (answers_refuse ..) kind tag).stepped
  | passed i =>
    obtain ⟨_, _, _, hi⟩ := requestOf_of_passed hj
    obtain ⟨f, hf⟩ := handlerOf_of_requestOf hi
    obtain ⟨kind, tag, body, hparts⟩ := requestParts_of_handlerOf hf
    simp only [requestTransaction, hj, handOver_of_handler hparts hf]
    exact stepped_request hf hparts s

theorem stepped_readTransaction (count : Nat) (s : State) : Stepped s (readTransaction count s) := by
  have hread : Quiet s { s with port := { s.port with sdo := s.sdoRead count } } := quiet_port (.inl rfl) rfl
  unfold readTransaction
  dsimp only
  split
  · exact hread.acts.stepped
  · exact hread.acts.stepped
  · next r hr =>
    split
    · have hidle : Quiet s { s with port := { s.port with sdo := s.sdoRead count, state := .idle } } :=
        quiet_port (.inr fun kind tag => by rw [hr]; exact fun h => by cases h) rfl
      split
      · exact stepped_startValues s (by rfl) (by rfl) _ _
      · exact hidle.acts.stepped
    · exact hread.acts.stepped

theorem stepped_portTransaction (bytes : List Byte) (s : State) : Stepped s (portTransaction bytes s) := by
  unfold portTransaction
  split
  · exact (Acts.refl s).stepped
  · split
    · exact stepped_requestTransaction ..
    · split
      · exact stepped_readTransaction ..
      · exact (Acts.refl s).stepped

/-! ## The supply and the starts (R160, R180) -/

section
variable (s : State)

/-- The supply monitor and the phase change, with the SUPPLY cause. -/
theorem acts_of_supply {s t : State} (h : t = { s with
      supply := t.supply, phase := t.phase, attention := { s.attention with supply := t.attention.supply } }) : Acts s t := by
  have hcalm : Calm s t := by
    rw [h]
    exact Calm.of_same (by rfl) (by rfl) (by rfl) (by rfl) (by rfl) (by rfl) (by rfl)
  exact (Quiet.of_calm hcalm (by rw [h]) (by rw [h]) (by rw [h]) (by rw [h])).acts

theorem acts_supplyMoves (mv : Nat) : Acts s (s.supplyMoves mv) := by
  have hlevel : Acts s { s with supply := { s.supply with millivolts := mv } } := acts_of_supply rfl
  unfold State.supplyMoves
  dsimp only
  split
  · exact acts_of_supply rfl
  · split
    · unfold State.compareSupply
      split
      · split
        · exact acts_of_supply rfl
        · exact hlevel
      · exact acts_of_supply rfl
    · exact hlevel

theorem acts_recoveryExpiry : Acts s (recoveryExpiry s) := by
  unfold recoveryExpiry
  split
  · exact acts_of_supply rfl
  · exact Acts.refl s

theorem stepped_supplySettled (mv : Nat) : Stepped s (supplySettled mv s) := by
  unfold supplySettled
  split
  · exact stepped_startValues s (by rfl) (by rfl) _ _
  · exact (Acts.refl s).stepped

/-- The RESET pin moves. -/
theorem acts_resetPin (b : Bool) : Acts s { s with resetPin := b } :=
  (Quiet.of_calm (s := s) (t := { s with resetPin := b }) (Calm.of_same rfl rfl rfl rfl rfl rfl rfl) rfl rfl rfl rfl).acts

theorem stepped_resetAsserted : Stepped s (resetAsserted s) := by
  unfold resetAsserted
  dsimp only
  split
  · exact stepped_startValues s (by rfl) (by rfl) _ _
  · exact (acts_resetPin s true).stepped

theorem stepped_resetReleased : Stepped s (resetReleased s) := by
  unfold resetReleased
  dsimp only
  split
  · exact stepped_startValues s (by rfl) (by rfl) _ _
  · exact (acts_resetPin s false).stepped

end

/-! ## Every command -/

/-- An event inside the part happens while it runs. -/
theorem stepped_whenRunning {f : State → State} {s : State} (h : Stepped s (f s)) : Stepped s (whenRunning f s) := by
  unfold whenRunning
  split
  · exact h
  · exact (Acts.refl s).stepped

theorem Acts.whenRunning {f : State → State} {s : State} (h : Acts s (f s)) : Stepped s (whenRunning f s) :=
  stepped_whenRunning h.stepped

/-- A command that is no request, by the block it belongs to. -/
theorem stepped_event {i : Instr} (h : handlerOf i = none) (s : State) : ∃ t, exec i s = .next t ∧ Stepped s t := by
  cases i with
  | requestFrameRefused bytes | requestDiscarded bytes => exact ⟨_, rfl, stepped_portTransaction bytes s⟩
  | readTransaction count => exact ⟨_, rfl, stepped_readTransaction count s⟩
  | storeTick => exact ⟨_, rfl, (quiet_tick s).acts.whenRunning⟩
  | presentTimerExpiry slot => exact ⟨_, rfl, (acts_presentExpiry slot s).whenRunning⟩
  | outcomeTimerExpiry slot => exact ⟨_, rfl, (acts_outcomeExpiry slot s).whenRunning⟩
  | deliveryTimerExpiry slot => exact ⟨_, rfl, (acts_deliveryExpiry slot s).whenRunning⟩
  | deferredLifeExpiry slot => exact ⟨_, rfl, (acts_deferredExpiry slot s).whenRunning⟩
  | captureCompletion => exact ⟨_, rfl, (acts_captureCompletion s).whenRunning⟩
  | followUpCompletion => exact ⟨_, rfl, (quiet_followUpCompletion s).acts.whenRunning⟩
  | keyUnwrapCompletion => exact ⟨_, rfl, stepped_whenRunning (stepped_keyUnwrapCompletion s)⟩
  | lineCharacter l b stopAtMark => exact ⟨_, rfl, (acts_lineCharacter l s b stopAtMark).whenRunning⟩
  | lineBreak l => exact ⟨_, rfl, (acts_lineBreak l s).whenRunning⟩
  | gap l => exact ⟨_, rfl, (quiet_gap l s).acts.whenRunning⟩
  | assemblerTakeByte l => exact ⟨_, rfl, (acts_assemblerTakeByte l s).whenRunning⟩
  | readerHello l | readerCard l | waitingCardDispatch l | readerCancel l | readerAck l | badlyFormedFrame l =>
    exact ⟨_, rfl, (acts_takeFrame l s _).whenRunning⟩
  | frameMoveToTransmitFifo l => exact ⟨_, rfl, (quiet_moveFrame l s).acts.whenRunning⟩
  | transmitCharacter l => exact ⟨_, rfl, (quiet_transmitCharacter l s).acts.whenRunning⟩
  | lineReturnToMark l => exact ⟨_, rfl, (acts_lineReturnToMark l s).whenRunning⟩
  | holdInChange l asserted => exact ⟨_, rfl, (quiet_holdIn l s asserted).acts.stepped⟩
  | supplyBelowLevel mv | supplyAboveRecoveryLevel mv | supplyBelowRecoveryLevel mv =>
    exact ⟨_, rfl, (acts_supplyMoves s mv).stepped⟩
  | recoveryTimerExpiry => exact ⟨_, rfl, (acts_recoveryExpiry s).whenRunning⟩
  | engineSupplyChange => exact ⟨_, rfl, (quiet_engineSupply s).acts.whenRunning⟩
  | caseLineChange line level => exact ⟨_, rfl, (acts_caseLineChange line level s).stepped⟩
  | powerApplied => exact ⟨_, rfl, stepped_startValues s (by rfl) (by rfl) _ _⟩
  | supplySettled mv => exact ⟨_, rfl, stepped_supplySettled s mv⟩
  | resetAsserted => exact ⟨_, rfl, stepped_resetAsserted s⟩
  | resetReleased => exact ⟨_, rfl, stepped_resetReleased s⟩
  | _ => cases h

theorem stepped_exec (i : Instr) (s : State) : ∃ t, exec i s = .next t ∧ Stepped s t := by
  cases hf : handlerOf i with
  | none => exact stepped_event hf s
  | some f =>
    obtain ⟨kind, tag, body, hparts⟩ := requestParts_of_handlerOf hf
    exact ⟨_, exec_request hparts hf s, stepped_request hf hparts s⟩

/-- A step is one command, from the state without it. -/
theorem stepped_step {s t : State} (h : step s = .next t) : ∃ pending, Stepped { s with pending := pending } t := by
  unfold step at h
  split at h
  · cases h
    exact ⟨s.pending, (Acts.refl s).stepped⟩
  · next c rest _ =>
    obtain ⟨u, hu, hstep⟩ := stepped_exec c { s with pending := rest }
    rw [hu] at h
    cases h
    exact ⟨rest, hstep⟩

end Sys2Proof.Machine
end


section
/-! PROOFS. The invariants every step keeps: the settings and the lanes, the slots, the account, the records, the
keys, the jobs, the identity and the transitions of records, the counters. -/

namespace Sys2Proof.Machine

section
variable {s t : State} (h : step s = .next t)
include h

/-! ## What a step keeps -/

theorem commission_step {c : Commissioning} (hc : s.commission = some c) : t.commission = some c := by
  obtain ⟨_, hstep⟩ := stepped_step h
  exact hstep.calm.commission c hc

theorem keysCausesOrdered_step (hs : s.keysCausesOrdered) : t.keysCausesOrdered := by
  obtain ⟨_, hstep⟩ := stepped_step h
  exact hstep.calm.causes hs

theorem settingsInRange_step (hs : s.settingsInRange) : t.settingsInRange := by
  obtain ⟨_, hstep⟩ := stepped_step h
  obtain ⟨hlimits, htimers, hlanes⟩ := hs
  exact ⟨hstep.calm.limits hlimits, hstep.calm.timers htimers, fun l => (hstep.calm.lanes l).inRange (hlanes l)⟩

theorem lanesWellFormed_step (hs : s.settingsInRange) (hl : s.lanesWellFormed) : t.lanesWellFormed := by
  obtain ⟨_, hstep⟩ := stepped_step h
  obtain ⟨_, _, hlanes⟩ := hs
  exact fun l => (hstep.calm.lanes l).wellFormed (hlanes l) (hl l).1 (hl l).2

theorem sharesHold_step (hs : s.sharesHold) : t.sharesHold := by
  obtain ⟨_, hstep⟩ := stepped_step h
  exact hstep.counts.shares hs

theorem slotsPartitioned_step (hs : s.slotsPartitioned) : t.slotsPartitioned := by
  obtain ⟨_, hstep⟩ := stepped_step h
  exact hstep.slots hs

theorem accountHolds_step (hs : s.slotsPartitioned) (ha : s.accountHolds) : t.accountHolds := by
  obtain ⟨_, hstep⟩ := stepped_step h
  exact hstep.account hs ha

theorem recordsWellFormed_step (hr : s.recordsWellFormed) : t.recordsWellFormed := by
  obtain ⟨_, hstep⟩ := stepped_step h
  exact hstep.records hr

theorem keysWellFormed_step (hk : s.keysWellFormed) : t.keysWellFormed := by
  obtain ⟨_, hstep⟩ := stepped_step h
  exact hstep.keys hk

theorem core_step (hs : s.Consistent) : t.Core ∧ t.portHolds := by
  obtain ⟨_, hstep⟩ := stepped_step h
  have hport : s.portHolds := portHolds_of_consistent hs
  exact hstep.core hs.slots ((core_of_consistent hs).jobs_leave (fun _ => rfl) rfl rfl (List.Sublist.refl _)) hport

theorem full_step (hs : s.Consistent) : t.full := by
  obtain ⟨_, hstep⟩ := stepped_step h
  have hfull : s.full := full_of_consistent hs
  exact hstep.counts.full hfull

theorem engagementsHold_step (hs : s.Consistent) : t.engagementsHold := by
  obtain ⟨_, hstep⟩ := stepped_step h
  exact hstep.engagements hs.slots hs.records hs.engagements

theorem slotMoves_step (hs : s.slotsPartitioned) : t.table = startTable ∨ ∀ x, SlotMoves s t x := by
  obtain ⟨_, hstep⟩ := stepped_step h
  exact (hstep.moves hs).imp_right fun hmoves x =>
    ⟨(hmoves x).occupied, (hmoves x).freed, (hmoves x).allocated⟩

/-- An entry that holds a key before and after a step holds the same, its counters not lower (R102). -/
theorem counters_step (hk : s.keysWellFormed) {i : Fin 4} {m m' : KeyMaterial} (hm : (s.entry i).material = some m)
    (hm' : (t.entry i).material = some m') :
    m' = m ∧ ∀ l, look (s.entry i).counters l ≤ look (t.entry i).counters l := by
  obtain ⟨_, hstep⟩ := stepped_step h
  rcases hstep.entries hk i with hnone | ⟨hsame, hrises⟩ | hnone
  · exact absurd (hm.symm.trans hnone) (by simp)
  · exact ⟨Option.some.inj (hm'.symm.trans (hsame.trans hm)), hrises⟩
  · exact absurd (hm'.symm.trans hnone) (by simp)

end

/-! ## A counter taken twice (R99, R102) -/

/-- A take reads the counter of its lane in the entry of its generation and advances it; the entry stays the one
of its generation. -/
theorem takeCounter_advances {s t : State} {g c : Nat} {l : LaneId} {limit : Nat}
    (h : s.takeCounter g l limit = some (c, t)) :
    ∃ i, s.entryOf g = some i ∧ t.entryOf g = some i ∧ look (s.entry i).counters l = c ∧
      look (t.entry i).counters l = c + 1 := by
  unfold State.takeCounter at h
  split at h
  · cases h
  next i hi =>
  dsimp only at h
  split at h
  · have hent : ∀ j, (s.advanceEntry i l).entry j =
        if j = i then { s.entry i with counters := put (s.entry i).counters l (look (s.entry i).counters l + 1) }
        else s.entry j := fun j => State.entry_setEntry ..
    have hmaterial : ∀ j, ((s.advanceEntry i l).entry j).material = (s.entry j).material := fun j => by
      rw [hent]
      split
      · next hj => rw [hj]
      · rfl
    have hfound : (s.advanceEntry i l).entryOf g = some i := by
      simpa only [entryOf_eq_some_iff, hmaterial] using hi
    have hcount : look ((s.advanceEntry i l).entry i).counters l = look (s.entry i).counters l + 1 := by
      rw [hent, if_pos rfl]
      exact (look_put ..).trans (if_pos rfl)
    split at h
    · cases h
      exact ⟨i, hi, hfound, rfl, hcount⟩
    · cases h
      exact ⟨i, hi, hfound, rfl, hcount⟩
  · cases h

theorem carried_material {s : State} {g : Nat} {i : Fin 4} (h : s.entryOf g = some i) :
    ∃ m, (s.entry i).material = some m ∧ m.generation = g :=
  Option.map_eq_some_iff.mp (entryOf_eq_some_iff.mp h).1

/-! ## The counts of the slots (R7) -/

/-- A list without repetitions is as long as its members are many. -/
theorem length_eq_sum_of_mem {n : Nat} {l : List (Fin n)} {p : Fin n → Bool} (hl : l.Nodup)
    (hp : ∀ x, x ∈ l ↔ p x = true) : l.length = ∑ x, if p x then 1 else 0 := by
  rw [← length_filter_finRange]
  refine ((List.perm_ext_iff_of_nodup hl ((List.nodup_finRange n).filter p)).mpr fun x => ?_).length_eq
  rw [List.mem_filter, hp, and_iff_right (List.mem_finRange x)]

section
variable {s : State} (hs : s.slotsPartitioned)
include hs

theorem freeCount_eq_sum : s.freeCount = ∑ x, if (s.recordAt x).isNone then 1 else 0 :=
  length_eq_sum_of_mem hs.1 fun x => by rw [hs.2.1, Option.isNone_iff_eq_none]

theorem listLength_eq_sum (l : LaneId) :
    (s.book l).list.length = ∑ x, if decide ((s.recordAt x).map Record.lane = some l) then 1 else 0 :=
  length_eq_sum_of_mem (hs.2.2.1 l) fun x => by rw [hs.2.2.2, decide_eq_true_iff, Option.map_eq_some_iff]

theorem occupiedCount_eq_sum : s.occupiedCount = ∑ x, if (s.recordAt x).isSome then 1 else 0 := by
  have hlists : s.occupiedCount = ∑ l, (s.book l).list.length := (Fin.sum_univ_def _).symm
  have hone : ∀ x, (∑ l : LaneId, if decide ((s.recordAt x).map Record.lane = some l) then 1 else 0) =
      if (s.recordAt x).isSome then 1 else 0 := fun x => by
    cases s.recordAt x with
    | none => simp
    | some r => simp
  rw [hlists, Finset.sum_congr rfl fun l _ => listLength_eq_sum hs l, Finset.sum_comm]
  exact Finset.sum_congr rfl fun x _ => hone x

theorem freeCount_add_occupiedCount : s.freeCount + s.occupiedCount = 2048 := by
  have hone : ∀ x, ((if (s.recordAt x).isNone then 1 else 0) + if (s.recordAt x).isSome then 1 else 0) = 1 := fun x => by
    cases s.recordAt x <;> rfl
  rw [freeCount_eq_sum hs, occupiedCount_eq_sum hs, ← Finset.sum_add_distrib, Finset.sum_congr rfl fun x _ => hone x,
    Finset.sum_const, Finset.card_univ, Fintype.card_fin]
  rfl

end

/-! ## The length of the queue (R107, R108) -/

/-- The lane of a capture job. -/
def Job.captureLane : Job → Option LaneId
  | .capture _ l _ _ => some l
  | .followUp .. => none
  | .unwrap .. => none

/-- A key-unwrap job. -/
def Job.isUnwrap : Job → Bool
  | .unwrap .. => true
  | .capture .. => false
  | .followUp .. => false

/-- A job is a requested or an automatic follow-up, a capture, or a key unwrap. -/
theorem length_by_kind (q : List Job) :
    q.length = (q.filter Job.isRequested).length + (q.filter Job.isAutomatic).length +
      (q.filterMap Job.captureLane).length + (q.filter Job.isUnwrap).length := by
  induction q with
  | nil => rfl
  | cons job rest ih =>
    cases job with
    | followUp _ share =>
      cases share <;> simp only [List.length_cons, List.filter_cons, List.filterMap_cons, Job.isRequested, Job.isAutomatic,
        Job.captureLane, Job.isUnwrap, if_true, Bool.false_eq_true, if_false] <;> omega
    | capture =>
      simp only [List.length_cons, List.filter_cons, List.filterMap_cons, Job.isRequested, Job.isAutomatic,
        Job.captureLane, Job.isUnwrap, Bool.false_eq_true, if_false]
      omega
    | unwrap =>
      simp only [List.length_cons, List.filter_cons, List.filterMap_cons, Job.isRequested, Job.isAutomatic,
        Job.captureLane, Job.isUnwrap, if_true, Bool.false_eq_true, if_false]
      omega

section
variable {s : State} (hs : s.Consistent)
include hs

/-- Jobs of the queue that work for the same are not two. -/
theorem length_le_one_of_target {jobs : List Job} (hsub : jobs.Sublist s.engine.queue) {target : Option (Handle × Nat)}
    (h : ∀ job ∈ jobs, job.target = target) : jobs.length ≤ 1 := by
  have hnodup := hs.jobs.2.sublist ((hsub.trans (queue_sublist_jobs s)).map Job.target)
  have hall : jobs.map Job.target = List.replicate (jobs.map Job.target).length target :=
    List.eq_replicate_of_mem fun a ha => by
      obtain ⟨job, hjob, rfl⟩ := List.mem_map.mp ha
      exact h job hjob
  rw [hall, List.nodup_replicate, List.length_map] at hnodup
  exact hnodup

/-- The capture jobs of a lane work for its engaged record. -/
theorem target_of_captureLane {job : Job} (hj : job ∈ s.engine.queue) {l : LaneId} (hl : job.captureLane = some l) :
    job.target = (s.book l).engaged.map fun h => (h, 0) := by
  cases job with
  | capture h l' g c =>
    cases hl
    obtain ⟨r, hr, hst, hlane, _⟩ := hs.jobs.1 _ ((queue_sublist_jobs s).subset hj)
    have heng : r.engaged = true := by
      rw [Record.engaged, hst]
      rfl
    have hbook := hs.engagements.2 (slotOf h) r (State.recordAt_of_current hr) heng
    rw [hlane, handleOf_of_current hr] at hbook
    rw [hbook]
    rfl
  | followUp => cases hl
  | unwrap => cases hl

theorem length_captures_le (l : LaneId) :
    (s.engine.queue.filter fun job => decide (job.captureLane = some l)).length ≤ 1 :=
  length_le_one_of_target hs List.filter_sublist fun job hj => by
    rw [List.mem_filter, decide_eq_true_iff] at hj
    exact target_of_captureLane hs hj.1 hj.2

theorem length_unwraps_le : (s.engine.queue.filter Job.isUnwrap).length ≤ 1 :=
  length_le_one_of_target hs (target := none) List.filter_sublist fun job hj => by
    rw [List.mem_filter] at hj
    cases job with
    | unwrap => rfl
    | capture => cases hj.2
    | followUp => cases hj.2

theorem length_queue_le : s.engine.queue.length ≤ 40 := by
  have hlanes : (s.engine.queue.filterMap Job.captureLane).length ≤ 16 := by
    refine (List.Nodup.length_le_card (List.nodup_iff_count_le_one.mpr fun l => ?_)).trans (Fintype.card_fin 16).le
    rw [List.count_filterMap, List.countP_eq_length_filter]
    refine le_trans (le_of_eq (congrArg List.length (List.filter_congr fun job _ => ?_))) (length_captures_le hs l)
    exact Bool.beq_eq_decide_eq ..
  obtain ⟨hrequested, hautomatic⟩ := hs.shares
  have hunwraps := length_unwraps_le hs
  have hlength := length_by_kind s.engine.queue
  rw [State.requestedCount] at hrequested
  rw [State.automaticCount] at hautomatic
  omega

end

theorem Record.engaged_iff (r : Record) :
    r.engaged = true ↔ r.state ∈ [PaymentState.armed, .capturing, .wrapped, .released] ∨
      r.delivery.value = .queued ∨ r.delivery.value = .sent := by
  have hstate : ∀ st : PaymentState, st.isEngaging = true ↔
      st ∈ [PaymentState.armed, .capturing, .wrapped, .released] := by
    intro st; cases st <;> decide
  have hopen : ∀ d : DeliveryValue, d.isOpen = true ↔ d = .queued ∨ d = .sent := by
    intro d; cases d <;> decide
  rw [Record.engaged, Bool.or_eq_true, hstate, hopen]

end Sys2Proof.Machine

/-! ## The obligations -/

namespace Sys2Proof.Proofs
open Sys2Proof.Machine

/-- Settles O2: every command has a next state, an act or a start, and neither changes the queue. -/
theorem everyCommandAnswersNext : Obligations.EveryCommandAnswersNext := by
  unfold Obligations.EveryCommandAnswersNext
  intro i s
  obtain ⟨t, ht, hstep⟩ := stepped_exec i s
  exact ⟨t, ht, hstep.calm.pending⟩

/-- Settles O10: SET LIMITS, SET TIMERS and LANE SETUP take values in range, a start takes the start values, and
nothing else changes a setting. -/
theorem settingsStayInRange : Obligations.SettingsStayInRange := by
  unfold Obligations.SettingsStayInRange
  exact fun s t hs h => settingsInRange_step h hs

/-- Settles O11: every operation on a lane keeps what a lane keeps, with its settings in range. -/
theorem lanesStayWellFormed : Obligations.LanesStayWellFormed := by
  unfold Obligations.LanesStayWellFormed
  exact fun s t hs hl h => lanesWellFormed_step h hs hl

/-- Settles O12: a job is placed with room in its share and for a target of its own; the capture jobs of a lane
work for its one engaged record, and the key-unwrap jobs for no record. -/
theorem sharesStayWithinCapacity : Obligations.SharesStayWithinCapacity := by
  unfold Obligations.SharesStayWithinCapacity
  refine ⟨fun s t hs h => sharesHold_step h hs, fun s => ⟨?requested, ?automatic⟩, fun s t hs h => ?kept,
    fun s hs => ⟨length_queue_le hs, fun l => ?captures, ?unwraps⟩⟩
  case requested =>
    refine congrArg List.length (List.filter_congr fun job _ => ?_)
    cases job with
    | followUp _ share => cases share <;> rfl
    | capture => rfl
    | unwrap => rfl
  case automatic =>
    refine congrArg List.length (List.filter_congr fun job _ => ?_)
    cases job with
    | followUp _ share => cases share <;> rfl
    | capture => rfl
    | unwrap => rfl
  case kept =>
    obtain ⟨hcore, hport⟩ := core_step h hs
    exact ⟨jobsHold_of_core hcore hport, waitingHolds_of_core hcore (full_step h hs)⟩
  case captures =>
    refine le_trans (le_of_eq (congrArg List.length (List.filter_congr fun job _ => ?_))) (length_captures_le hs l)
    cases job with
    | capture h x g c => exact decide_eq_decide.mpr ⟨fun hx => congrArg some hx, Option.some.inj⟩
    | followUp => rfl
    | unwrap => rfl
  case unwraps =>
    refine le_trans (le_of_eq (congrArg List.length (List.filter_congr fun job _ => ?_))) (length_unwraps_le hs)
    cases job <;> rfl

/-- Settles O13: an allocation and a RETIRE move a slot between the free list and its lane's list; the counts are
sums over the slots. -/
theorem slotsStayPartitioned : Obligations.SlotsStayPartitioned := by
  unfold Obligations.SlotsStayPartitioned
  refine ⟨fun s t hs h => slotsPartitioned_step h hs, fun s hs => ⟨freeCount_add_occupiedCount hs, ?_, fun l => ?_⟩⟩
  · rw [occupiedCount_eq_sum hs, length_filter_finRange]
  · rw [listLength_eq_sum hs, length_filter_finRange]

/-- Settles O14: the account follows each record that becomes DEFERRED, changes its amount or is DEFERRED no
more. -/
theorem accountStaysExact : Obligations.AccountStaysExact := by
  unfold Obligations.AccountStaysExact
  exact fun s t hs ha h => accountHolds_step h hs ha

/-- Settles O15: each change of a record keeps its fields in agreement with its state. -/
theorem recordsStayWellFormed : Obligations.RecordsStayWellFormed := by
  unfold Obligations.RecordsStayWellFormed
  exact fun s t _ hr h => recordsWellFormed_step h hr

/-- Settles O16: the entries change by KEY LOAD's completion, KEY ROLL, KEY DROP, a binding, a RETIRE and an
erasure. -/
theorem keyTableStaysWellFormed : Obligations.KeyTableStaysWellFormed := by
  unfold Obligations.KeyTableStaysWellFormed
  refine ⟨fun s t hk h => keysWellFormed_step h hk, fun s t hs h => ?_⟩
  obtain ⟨hcore, _⟩ := core_step h hs
  exact ⟨hcore.generations, bindingsHold_of_core hcore⟩

/-- Settles O17: a slot keeps its tag and its record's identity, is freed, or is allocated with the next tag. -/
theorem recordIdentityIsKept : Obligations.RecordIdentityIsKept := by
  unfold Obligations.RecordIdentityIsKept
  refine ⟨fun s h => ⟨rfl, rfl, fun r => current_eq_some_iff⟩,
    fun tag slot => ⟨toNat_handleAt tag slot, slotOf_handleAt tag slot, tagOf_handleAt tag slot⟩,
    fun s slot => ⟨rfl, current_handleOf s slot⟩, Record.engaged_iff, fun s t hs h => engagementsHold_step h hs,
    fun s t hs h => (slotMoves_step h hs).imp_right fun hmoves slot => ?_⟩
  refine ⟨fun r q hr hq => ?_, (hmoves slot).freed, (hmoves slot).allocated⟩
  obtain ⟨htag, hlane, hpayment, htill, horiginal, _⟩ := (hmoves slot).occupied r q hr hq
  exact ⟨htag, hlane, hpayment, htill, horiginal⟩

/-- Settles O18: a step takes a record through at most one transition, and a start leaves none. -/
theorem recordsMoveAlongTheirTransitions : Obligations.RecordsMoveAlongTheirTransitions := by
  unfold Obligations.RecordsMoveAlongTheirTransitions
  refine ⟨fun a b => ?_, fun s t hs h slot r q hr hq => ?_⟩
  · cases a <;> cases b <;> decide
  · rcases slotMoves_step h hs with hstart | hmoves
    · obtain ⟨_, _, hnone⟩ := slots_startTable hstart
      rw [hnone] at hq
      cases hq
    · obtain ⟨_, _, _, _, _, hmay⟩ := (hmoves slot).occupied r q hr hq
      exact hmay

/-- Settles O19: a take leaves the entry's counter above the one taken, and no step lowers it. -/
theorem countersAreNotHandedOutTwice : Obligations.CountersAreNotHandedOutTwice := by
  unfold Obligations.CountersAreNotHandedOutTwice
  refine ⟨fun s t i m m' hk h hm hm' _ => counters_step h hk hm hm', ?_⟩
  intro s s1 t t1 i g l limit limit' c c' hk htake hi h hi' htake'
  obtain ⟨j, _, hj, _, hcount⟩ := takeCounter_advances htake
  obtain ⟨k, hk', _, hcount', _⟩ := takeCounter_advances htake'
  have hji : j = i := Option.some.inj (hj.symm.trans hi)
  have hki : k = i := Option.some.inj (hk'.symm.trans hi')
  subst hji hki
  obtain ⟨m, hm, _⟩ := carried_material hi
  obtain ⟨m', hm', _⟩ := carried_material hi'
  obtain ⟨_, hrises⟩ := counters_step h hk hm hm'
  calc c < look (s1.entry k).counters l := by rw [hcount]; exact Nat.lt_succ_self c
    _ ≤ look (t.entry k).counters l := hrises l
    _ = c' := hcount'

/-- Settles O57: the causes stand in the order of R174 as they are put in it, and every step keeps it. -/
theorem nextAttentionReportsTheFirstCause : Obligations.NextAttentionReportsTheFirstCause :=
  nextAttentionReportsTheFirstCause_of_kept fun _ _ hs h => keysCausesOrdered_step h hs

/-- Settles O60: COMMISSION alone writes the record, and is refused once it is written. -/
theorem commissionIsWrittenOnce : Obligations.CommissionIsWrittenOnce :=
  commissionIsWrittenOnce_of_kept fun _ _ _ hc h => commission_step h hc

end Sys2Proof.Proofs
end
